-- ==== Sys2Proof/Word.lean ====
section
/-! DEFINITION. The words of the station ring: bytes, and the 16-bit node addresses of 09_station_ring R157. -/

namespace Sys2Proof

/-- One byte of a ring frame (R157). -/
abbrev Byte := BitVec 8

/-- A two-byte field of a frame, or a node address (R157). -/
abbrev Half := BitVec 16

/-- A four-byte field of a frame, or a management value (R157, 10_management section 10.1). -/
abbrev Long := BitVec 32

/-- A ring node address (R157). -/
abbrev Addr := BitVec 16

end Sys2Proof
end

