-- ==== Sys2Proof/Syntax.lean ====
section
/-! DEFINITION. The commands of the LC-384: one constructor per row of spec/opcode_table.json. A frame row carries the frame
that arrives on ring-in with a good CHECK (its header, its payload fields at the widths of R157, the bytes beyond them); an
expiry row carries the pot, group or fetch place it is for; a management row carries the request of R167. -/

namespace Sys2Proof

/-- The header of an arriving frame less its KIND, which the row fixes (R157). -/
structure Header where
  dest : Addr
  src : Addr
  seq : Byte
  deriving DecidableEq, Repr

/-- A ring frame (R157). LEN is the payload's length, and CHECK is computed from the rest. -/
structure Frame where
  dest : Addr
  src : Addr
  kind : Byte
  seq : Byte
  payload : List Byte
  deriving DecidableEq, Repr

/-- One of the eight slots of a POT-SAMPLE: a voltage in mV and a marker code (R157). -/
structure SlotReading where
  voltage : Half
  marker : Byte
  deriving DecidableEq, Repr

/-- The commands. `extra` is the payload beyond the bytes of the row's kind, which are not read (R159); `tail` is a
MGMT-REQUEST's payload after its index: the field byte and the values (section 10.1). -/
inductive Instr where
  -- the reset line (R176)
  | resetLow
  | resetRelease (straps : Byte)
  -- frames on ring-in (R158, R159)
  | frameRejected (bytes : List Byte)
  | framePassing (f : Frame)
  | unknownKind (f : Frame)
  | potSample (h : Header) (time : Long) (slots : Vector SlotReading 8) (extra : List Byte)
  | lineSample (h : Header) (time : Long) (il vl : Half) (extra : List Byte)
  | timeMark (h : Header) (day : Half) (ms : Long) (extra : List Byte)
  | groupStatusFull (h : Header) (mode : Byte) (current : Half) (tap : Byte) (echo tout tsink flow : Half) (extra : List Byte)
  | groupStatusShort (h : Header) (mode : Byte) (current : Half) (tap : Byte) (extra : List Byte)
  | groupAnswer (h : Header) (result : Byte) (setpoint : Half) (extra : List Byte)
  | groupProbe (h : Header) (group data next : Byte) (extra : List Byte)
  | watch (h : Header) (group data : Byte) (extra : List Byte)
  | unwatch (h : Header) (group data : Byte) (extra : List Byte)
  | takeLocal (h : Header) (group data : Byte) (extra : List Byte)
  | returnRemote (h : Header) (group data : Byte) (extra : List Byte)
  | potAnswer (h : Header) (slot result : Byte) (extra : List Byte)
  | coolerStatus (h : Header) (running available : Byte) (extra : List Byte)
  | calendarEntry (h : Header) (index slot : Half) (valid cls : Byte) (rate limit : Long) (extra : List Byte)
  -- the ring-out pair is idle (R163)
  | ringOutSend
  -- expiries
  | deferralTimerExpiry
  | potLost (p : Fin 384)
  | inhibitEnd (p : Fin 384)
  | adviceExpiry (p : Fin 384)
  | qualificationEnd (p : Fin 384)
  | quenchDue (p : Fin 384)
  | quenchTimeout (p : Fin 384)
  | clearEnd (p : Fin 384)
  | lineTrip
  | stepEnd
  | stepTimer (g : Fin 8)
  | groupOrderTimeout (g : Fin 8)
  | groupHolding (g : Fin 8)
  | groupSilent (g : Fin 8)
  | stageUp
  | stageDown
  | coolerNoResponse
  | slotEnd
  | prefetch
  | fetchTimeout (k : Fin 2)
  | takeover
  -- management commands (section 10.1): arg is the request's index
  | start (h : Header) (arg : Half) (tail : List Byte)
  | restart (h : Header) (arg : Half) (tail : List Byte)
  | stop (h : Header) (arg : Half) (tail : List Byte)
  | claim (h : Header) (arg : Half) (tail : List Byte)
  | release (h : Header) (arg : Half) (tail : List Byte)
  | setFull (h : Header) (arg : Half) (tail : List Byte)
  | profilePlay (h : Header) (arg : Half) (tail : List Byte)
  | profileHold (h : Header) (arg : Half) (tail : List Byte)
  | profileResume (h : Header) (arg : Half) (tail : List Byte)
  | profileStop (h : Header) (arg : Half) (tail : List Byte)
  | lineRestart (h : Header) (arg : Half) (tail : List Byte)
  | cacheInvalidate (h : Header) (arg : Half) (tail : List Byte)
  | energyRelease (h : Header) (arg : Half) (tail : List Byte)
  | clearError (h : Header) (arg : Half) (tail : List Byte)
  | ackEvents (h : Header) (arg : Half) (tail : List Byte)
  -- management writes; mgmtWrite carries any request (log 10)
  | mgmtWrite (h : Header) (op object : Byte) (index : Half) (field : Byte) (values : List Byte)
  | potWrite (h : Header) (pot : Half) (field : Byte) (values : List Byte)
  | potEnable (h : Header) (pot : Half) (extra : List Byte)
  | potDisable (h : Header) (pot : Half) (extra : List Byte)
  | automaticQuenchWrite (h : Header) (pot : Half) (values : List Byte)
  | hlWrite (h : Header) (index : Half) (values : List Byte)
  | aeHoldLimitWrite (h : Header) (index : Half) (values : List Byte)
  | groupPresentWrite (h : Header) (group : Half) (values : List Byte)
  | nodeAddressWrite (h : Header) (group : Half) (values : List Byte)
  | stepLatchWrite (h : Header) (group : Half) (values : List Byte)
  | stepClockWrite (h : Header) (group : Half) (values : List Byte)
  | stageWrite (h : Header) (stage : Half) (field : Byte) (values : List Byte)
  | eventsWrite (h : Header) (kind : Half) (field : Byte) (values : List Byte)
  | mgmtAddressWrite (h : Header) (index : Half) (field : Byte) (values : List Byte)
  -- the end of a station day in FORWARD-ONLY (R126)
  | stationDayEnd
  deriving DecidableEq, Repr

end Sys2Proof
end

