-- ==== Sys2Proof/Config.lean ====
section
/-! DEFINITION. What is fixed for every LC-384: the sizes of its queues and stores and its fixed intervals, each with the rule
that gives it, and the values the spec leaves open, which have no body. -/

namespace Sys2Proof.Config

/-- The part's address is this plus the strap value (R157). -/
def addressBase : Addr := 0x7E00
/-- The broadcast address (R157). -/
def broadcast : Addr := 0xFFFF
/-- The longest payload (R157). -/
def payloadMax : Nat := 60
/-- Places of the forward queue (R160). -/
def forwardPlaces : Nat := 4
/-- Places of the insert queue (R161). -/
def insertPlaces : Nat := 32
/-- REPORT frames that may stand in the insert queue at once (R161). -/
def reportPlaces : Nat := 24
/-- Places of the report buffer (R164). -/
def recordPlaces : Nat := 48
/-- The deferral timer runs out this long after an entry, ms (R164). -/
def deferralTime : Nat := 250
/-- Replies MEU's send list holds (R167). -/
def replyPlaces : Nat := 8
/-- Places for answers and notices in GAU's send list (R95). -/
def noticePlaces : Nat := 16
/-- Places of the AE log (R58). -/
def logPlaces : Nat := 32
/-- Runs the trace store holds (R61). -/
def storeRuns : Nat := 2048
/-- Runs one record may hold (R61). -/
def recordRuns : Nat := 256
/-- Energy records the queue holds (R138). -/
def energyPlaces : Nat := 64
/-- The queue length at which ENERGY-QUEUE-HIGH is raised (R138). -/
def energyHigh : Nat := 56
/-- The highest rate of a tariff entry (section 8.1). -/
def rateMax : Nat := 4000000000
/-- Milliseconds of a day (section 7.1). -/
def dayMs : Nat := 86400000
/-- Milliseconds of a slot (section 5.3 of the overview). -/
def slotMs : Nat := 1800000
/-- Slot numbers of a year of 366 days (section 5.3 of the overview). -/
def slotCount : Nat := 17568

/-- The fields whose states a READ reports although the spec gives the states no codes. -/
inductive UncodedField where
  | supervision | band | lineState | playerState | form | latestForm | staleState | withdrawal | confirmation
  | rateSource | recordStatus | alarmLine
  deriving DecidableEq, Repr

/-- FREE VALUE (log 8). The number a READ reports for a state that the spec names but does not code; the second argument is the
state's position in the spec's list of the field's states. -/
opaque stateCode : UncodedField → Nat → Long

/-- FREE VALUE (log 8). What a READ reports in a 4-byte value for a number that does not fit in 4 bytes, such as a part time
after 2^32 ms. -/
opaque wideValue : Nat → Long

/-- FREE VALUE (log 8). The one value that the reply to a CURVE write carries (R167), given the group, the point number and the
bytes of the value as written: the spec says that it is the value as written, and a CURVE write has two values or sixteen. -/
opaque curveReply : Nat → Nat → List Byte → Long

end Sys2Proof.Config
end

