-- ==== Sys2Proof/Machine/Bytes.lean ====
section
/-! DEFINITION. The byte layout of ring frames (09_station_ring R157, R158): byte order, the CRC-16 CHECK, a frame as the bytes
on the wire, and the form tests of an arriving frame. -/

namespace Sys2Proof.Machine

/-- A two-byte field, high byte first (R157). -/
def be16 (x : Half) : List Byte := [x.extractLsb' 8 8, x.extractLsb' 0 8]

/-- A four-byte field, high byte first (R157). -/
def be32 (x : Long) : List Byte :=
  [x.extractLsb' 24 8, x.extractLsb' 16 8, x.extractLsb' 8 8, x.extractLsb' 0 8]

/-- The byte at offset `i` of a payload; 0 beyond its end, which no caller reads. -/
def byteAt (bs : List Byte) (i : Nat) : Byte := bs.getD i 0

/-- The two-byte field at offset `i`, high byte first (R157). -/
def halfAt (bs : List Byte) (i : Nat) : Half := byteAt bs i ++ byteAt bs (i + 1)

/-- The four-byte field at offset `i`, high byte first (R157). -/
def longAt (bs : List Byte) (i : Nat) : Long := halfAt bs i ++ halfAt bs (i + 2)

/-- One bit of the CRC-16 register with generator x^16 + x^12 + x^5 + 1 (R157). -/
def crcBit (reg : Half) (bit : Bool) : Half :=
  if reg.msb != bit then (reg <<< 1) ^^^ 0x1021#16 else reg <<< 1

/-- One byte of the CRC-16, highest bit first (R157). -/
def crcByte (reg : Half) (x : Byte) : Half :=
  [7, 6, 5, 4, 3, 2, 1, 0].foldl (fun r i => crcBit r (x.getLsbD i)) reg

/-- The CHECK over a string of bytes: the register starts at all ones and is not inverted at the end (R157). -/
def crc16 (bs : List Byte) : Half := bs.foldl crcByte 0xFFFF#16

/-- The bytes of a frame from DEST through PAYLOAD, over which CHECK is taken (R157). -/
def frameBody (f : Frame) : List Byte :=
  be16 f.dest ++ be16 f.src ++ [f.kind, f.seq, BitVec.ofNat 8 f.payload.length] ++ f.payload

/-- A frame as it stands on the wire, with its CHECK (R157). -/
def frameBytes (f : Frame) : List Byte := frameBody f ++ be16 (crc16 (frameBody f))

/-- Why a received string of bytes is no frame (R158, tests 1 and 2). -/
inductive FormFault where
  | malformed
  | badCheck
  deriving DecidableEq, Repr

/-- The tests of form of R158 and, where they pass, the frame read from the bytes. -/
def parseFrame (bs : List Byte) : Except FormFault Frame :=
  let len := (byteAt bs 6).toNat
  if bs.length < 9 || bs.length > 69 || len > Config.payloadMax || bs.length != len + 9 then .error .malformed
  else
    let f : Frame :=
      { dest := halfAt bs 0, src := halfAt bs 2, kind := byteAt bs 4, seq := byteAt bs 5, payload := (bs.drop 7).take len }
    if halfAt bs (len + 7) = crc16 (bs.take (len + 7)) then .ok f else .error .badCheck

end Sys2Proof.Machine
end

