-- ==== Sys2Proof/Machine/Operands.lean ====
section
/-! DEFINITION. The operands of the commands as they stand in frames (09_station_ring section 9.1, 10_management section 10.1): the
kind codes, the payload of each kind the part takes, the fields read back from a payload, and the management request. -/

namespace Sys2Proof.Machine

/-! ### Kinds (R157, R159) -/

/-- The kinds that the part takes (R159). -/
inductive TakenKind where
  | potSample | lineSample | timeMark | statusFull | statusShort | groupAnswer | groupProbe | potAnswer | coolerStatus
  | calendarEntry | request
  deriving DecidableEq, Repr

/-- The code of a kind (R157). -/
def TakenKind.code : TakenKind → Byte
  | .potSample => 0x10
  | .lineSample => 0x11
  | .timeMark => 0x12
  | .statusFull => 0x20
  | .statusShort => 0x21
  | .groupAnswer => 0x23
  | .groupProbe => 0x24
  | .potAnswer => 0x31
  | .coolerStatus => 0x41
  | .calendarEntry => 0x51
  | .request => 0x70

/-- All kinds that the part takes. -/
def TakenKind.all : List TakenKind :=
  [.potSample, .lineSample, .timeMark, .statusFull, .statusShort, .groupAnswer, .groupProbe, .potAnswer, .coolerStatus,
    .calendarEntry, .request]

/-- The kind a code names, of those the part takes (R159). -/
def takenKind (code : Byte) : Option TakenKind := TakenKind.all.find? fun k => k.code == code

/-- The payload length of a kind; for a MGMT-REQUEST the least (R157, R159). -/
def TakenKind.length : TakenKind → Nat
  | .potSample => 28
  | .lineSample => 8
  | .timeMark => 6
  | .statusFull => 12
  | .statusShort => 4
  | .groupAnswer | .groupProbe => 3
  | .potAnswer | .coolerStatus => 2
  | .calendarEntry => 14
  | .request => 5

/-- The kind is read in a passing frame as well (R159). -/
def TakenKind.passing : TakenKind → Bool
  | .potSample | .lineSample | .timeMark | .statusFull | .statusShort | .coolerStatus => true
  | _ => false

/-! ### Frames of the rows -/

/-- A frame of a kind with a payload. -/
def frameOf (h : Header) (k : TakenKind) (payload : List Byte) : Frame :=
  { dest := h.dest, src := h.src, kind := k.code, seq := h.seq, payload := payload }

/-- A slot of a POT-SAMPLE payload (R157). -/
def SlotReading.bytes (r : SlotReading) : List Byte := be16 r.voltage ++ [r.marker]

/-- A POT-SAMPLE payload. -/
def potSamplePayload (time : Long) (slots : Vector SlotReading 8) (extra : List Byte) : List Byte :=
  be32 time ++ slots.toList.flatMap SlotReading.bytes ++ extra

/-- A LINE-SAMPLE payload. -/
def lineSamplePayload (time : Long) (il vl : Half) (extra : List Byte) : List Byte := be32 time ++ be16 il ++ be16 vl ++ extra

/-- A TIME-MARK payload. -/
def timeMarkPayload (day : Half) (ms : Long) (extra : List Byte) : List Byte := be16 day ++ be32 ms ++ extra

/-- A full GROUP-STATUS payload. -/
def statusFullPayload (mode : Byte) (current : Half) (tap : Byte) (echo tout tsink flow : Half) (extra : List Byte) : List Byte :=
  [mode] ++ be16 current ++ [tap] ++ be16 echo ++ be16 tout ++ be16 tsink ++ be16 flow ++ extra

/-- A short GROUP-STATUS payload. -/
def statusShortPayload (mode : Byte) (current : Half) (tap : Byte) (extra : List Byte) : List Byte :=
  [mode] ++ be16 current ++ [tap] ++ extra

/-- A GROUP-ANSWER payload. -/
def groupAnswerPayload (result : Byte) (setpoint : Half) (extra : List Byte) : List Byte := [result] ++ be16 setpoint ++ extra

/-- A GROUP-PROBE payload. -/
def groupProbePayload (group data next : Byte) (extra : List Byte) : List Byte := [group, data, next] ++ extra

/-- A POT-ANSWER payload. -/
def potAnswerPayload (slot result : Byte) (extra : List Byte) : List Byte := [slot, result] ++ extra

/-- A COOLER-STATUS payload. -/
def coolerStatusPayload (running available : Byte) (extra : List Byte) : List Byte := [running, available] ++ extra

/-- A CALENDAR-ENTRY payload. -/
def calendarEntryPayload (index slot : Half) (valid cls : Byte) (rate limit : Long) (extra : List Byte) : List Byte :=
  be16 index ++ be16 slot ++ [valid, cls] ++ be32 rate ++ be32 limit ++ extra

/-- The slots of a POT-SAMPLE payload. -/
def slotsOf (p : List Byte) : Vector SlotReading 8 :=
  Vector.ofFn fun i => { voltage := halfAt p (4 + 3 * i.val), marker := byteAt p (6 + 3 * i.val) }

/-! ### Management requests (section 10.1) -/

/-- The operation codes. -/
inductive Operation where
  | read | write | command
  deriving DecidableEq, Repr

/-- The code of an operation. -/
def Operation.code : Operation → Byte
  | .read => 1
  | .write => 2
  | .command => 3

/-- The operation a code names (R167, check 1). -/
def operationOf (code : Byte) : Option Operation := [Operation.read, .write, .command].find? fun o => o.code == code

/-- The objects. -/
inductive Object where
  | pot | map | sectionWindow | group | curve | stage | profileStep | profile | tariffWindow | tariffDefault | line
  | energyRecord | aeLog | trace | errorLog | counters | mgmtAddress | supervisorAddress | serverAddress | coolerAddress
  | events
  deriving DecidableEq, Repr

/-- The code of an object; 8 is used by none. -/
def Object.code : Object → Byte
  | .pot => 1
  | .map => 2
  | .sectionWindow => 3
  | .group => 4
  | .curve => 5
  | .stage => 6
  | .profileStep => 7
  | .profile => 9
  | .tariffWindow => 10
  | .tariffDefault => 11
  | .line => 12
  | .energyRecord => 13
  | .aeLog => 14
  | .trace => 15
  | .errorLog => 16
  | .counters => 17
  | .mgmtAddress => 18
  | .supervisorAddress => 19
  | .serverAddress => 20
  | .coolerAddress => 21
  | .events => 22

/-- All objects. -/
def Object.all : List Object :=
  [.pot, .map, .sectionWindow, .group, .curve, .stage, .profileStep, .profile, .tariffWindow, .tariffDefault, .line, .energyRecord,
    .aeLog, .trace, .errorLog, .counters, .mgmtAddress, .supervisorAddress, .serverAddress, .coolerAddress, .events]

/-- The object a code names (R167, check 2). -/
def objectOf (code : Byte) : Option Object := Object.all.find? fun o => o.code == code

/-- An object that takes no WRITE (R167, check 3). -/
def Object.readOnly : Object → Bool
  | .energyRecord | .aeLog | .trace | .errorLog | .counters => true
  | _ => false

/-- The commands. -/
inductive Command where
  | start | stop | restart | claim | release | setFull | profilePlay | profileHold | profileResume | profileStop
  | lineRestart | cacheInvalidate | energyRelease | clearError | ackEvents
  deriving DecidableEq, Repr

/-- The code of a command, carried in the object byte. -/
def Command.code : Command → Byte
  | .start => 1
  | .stop => 2
  | .restart => 3
  | .claim => 4
  | .release => 5
  | .setFull => 6
  | .profilePlay => 7
  | .profileHold => 8
  | .profileResume => 9
  | .profileStop => 10
  | .lineRestart => 11
  | .cacheInvalidate => 12
  | .energyRelease => 13
  | .clearError => 14
  | .ackEvents => 15

/-- All commands. -/
def Command.all : List Command :=
  [.start, .stop, .restart, .claim, .release, .setFull, .profilePlay, .profileHold, .profileResume, .profileStop, .lineRestart,
    .cacheInvalidate, .energyRelease, .clearError, .ackEvents]

/-- The command a code names (R167, check 2). -/
def commandOf (code : Byte) : Option Command := Command.all.find? fun c => c.code == code

/-- A request with its operation and object or command bytes as sent. -/
structure Request where
  op : Byte
  object : Byte
  index : Half
  field : Byte
  values : List Byte
  deriving DecidableEq, Repr

/-- The payload of a request. -/
def Request.bytes (r : Request) : List Byte := [r.op, r.object] ++ be16 r.index ++ [r.field] ++ r.values

/-- The request in a payload of at least 5 bytes. -/
def requestOf (p : List Byte) : Request :=
  { op := byteAt p 0, object := byteAt p 1, index := halfAt p 2, field := byteAt p 4, values := p.drop 5 }

/-- The payload of a COMMAND row: its tail begins with the field byte. -/
def commandPayload (c : Command) (arg : Half) (tail : List Byte) : List Byte :=
  [Operation.command.code, c.code] ++ be16 arg ++ tail

/-- The payload of a WRITE row. -/
def writePayload (o : Object) (index : Half) (field : Byte) (values : List Byte) : List Byte :=
  [Operation.write.code, o.code] ++ be16 index ++ [field] ++ values

/-- The first value of a request as an unsigned number. -/
def valueOf (values : List Byte) : Nat := (longAt values 0).toNat

/-- The first value of a request as a signed number. -/
def signedOf (values : List Byte) : Int := (longAt values 0).toInt

end Sys2Proof.Machine
end

