-- ==== Sys2Proof/Machine/State.lean ====
section
/-! DEFINITION. The state of the LC-384, block by block (00_scope section 2): every register, table, queue, counter, timer and
pin the spec gives the part, each field at its power-on value by default, and State.reset, the part right after the release of
the reset line. Quantities are Nat or Int in the ranges INVENTORY.md lists; node addresses, masks and sequence numbers are bit
vectors. Times are part time in ms (01_pot_intake section 1.1); an optional time is a timer that runs out at that time. -/

namespace Sys2Proof.Machine

/-! ### Ring port (09_station_ring) -/

/-- The level of an event kind, lowest first (10_management section 10.4). -/
inductive Level where
  | info | minor | major | urgent
  deriving DecidableEq, Repr

/-- The 26 event kinds in the order of their codes 1..26 (10_management section 10.4). -/
inductive EventKind where
  | aeOnset | aePersistent | aeEnd | quenchDeclined | measurementFault | potLost | unannouncedCutIn | adviceDeclined
  | groupWentLocal | groupRefusing | groupSilent | groupWithdrawn | groupFallback | capacityBelowFloor | lineTrip
  | heatRecovery | demandCap | demandOverrun | profileMarker | profileEnd | coolingShortfall | coolerNoResponse
  | tariffError | mapError | timeStep | energyQueueHigh
  deriving DecidableEq, Repr

/-- An event record (R157, R171): the station time is 0 and 0 while the clock is unknown. -/
structure EventRecord where
  kind : EventKind
  day : Nat
  ms : Nat
  subject : Nat
  a : Nat
  b : Nat
  deriving DecidableEq, Repr

/-- The sources of the insert queue in rotation order (R161). -/
inductive Source where
  | report | meu | gau | psu | tru | clu
  deriving DecidableEq, Repr

/-- The counters of R166. -/
structure PortCounters where
  malformed : Nat := 0
  badCheck : Nat := 0
  stripped : Nat := 0
  unknownKind : Nat := 0
  shortPayload : Nat := 0
  forwarded : Nat := 0
  forwardOverrun : Nat := 0
  inserted : Nat := 0
  reportsSent : Nat := 0
  infoDrops : Nat := 0
  minorDrops : Nat := 0
  majorDrops : Nat := 0
  urgentDrops : Nat := 0
  deriving DecidableEq, Repr

/-- The ring port. -/
structure Port where
  /-- R160. -/
  forward : List Frame := []
  /-- R161. -/
  insert : List Frame := []
  /-- R164. -/
  buffer : List EventRecord := []
  /-- The part time at which the deferral timer runs out (R164). -/
  deferral : Option Nat := none
  /-- R164. -/
  deferralFlag : Bool := false
  /-- R161. -/
  pointer : Source := .report
  /-- The notice sequence counter (R162). -/
  noticeSeq : Byte := 0
  /-- R163. -/
  waitCount : Nat := 0
  /-- The bytes of the last frame put on the ring-out pair (log 4); the spec's pin pair ROUT. -/
  ringOut : Option (List Byte) := none
  counters : PortCounters := {}
  deriving DecidableEq, Repr

/-! ### Section map (01_pot_intake) -/

/-- How a window turns slots or slot numbers into indices (R4, R145). -/
inductive MapMode where
  | direct | mapped
  deriving DecidableEq, Repr

/-- A section window (section 1.2). -/
structure SectionWindow where
  enable : Bool := false
  base : Addr := 0
  mask : Addr := 0
  mode : MapMode := .direct
  indexBase : Nat := 0
  deriving DecidableEq, Repr

/-- The section map. An absent entry of the pot map is UNUSED (R5). -/
structure SectionMap where
  windows : Vector SectionWindow 8 := Vector.replicate 8 {}
  potMap : Vector (Option (Fin 384)) 512 := Vector.replicate 512 none
  overlap : Nat := 0
  unmatched : Nat := 0
  deriving DecidableEq, Repr

/-! ### Pot records (01_pot_intake section 1.4, 02_pot_resistance, 03_anode_effects section 3.2) -/

/-- The supervision state (section 1.5). -/
inductive Supervision where
  | unconfigured | starting | running | bypassing | bypassed | lost
  deriving DecidableEq, Repr

/-- The AE state (section 3.2). -/
inductive AeState where
  | quiet | suspect | active | quenching | clearing
  deriving DecidableEq, Repr

/-- The band (R28); `within` is the spec's IN. -/
inductive Band where
  | low | within | high
  deriving DecidableEq, Repr

/-- The kind of a pot order (section 2.4). -/
inductive OrderKind where
  | raise | lower | check | quench
  deriving DecidableEq, Repr

/-- An outstanding pot order (section 2.4). -/
structure PotOrder where
  kind : OrderKind
  seq : Byte
  sent : Nat
  dest : Addr
  slot : Nat
  unsent : Bool
  deriving DecidableEq, Repr

/-- The configuration fields of a pot (section 1.4). -/
structure PotConfig where
  enabled : Bool := false
  vb : Nat := 1650
  rt : Nat := 6400
  bw : Nat := 250
  k : Nat := 4
  kn : Nat := 3
  nlim : Nat := 150
  advice : Bool := true
  nd : Nat := 30
  autoQuench : Bool := true
  tqd : Nat := 20
  deriving DecidableEq, Repr

/-- The working fields of the anode effect unit in a pot record (section 3.2). -/
structure Effect where
  quietVoltage : Nat := 0
  onsetTime : Nat := 0
  onsetDay : Nat := 0
  onsetMs : Nat := 0
  onsetVoltage : Nat := 0
  vnorm : Nat := 0
  qualificationEnd : Option Nat := none
  quenchDue : Option Nat := none
  quenchTimeout : Option Nat := none
  clearEnd : Option Nat := none
  spanStart : Nat := 0
  duration : Nat := 0
  persistent : Bool := false
  energyRemainder : Nat := 0
  deriving DecidableEq, Repr

/-- A pot record. -/
structure Pot where
  cfg : PotConfig := {}
  sup : Supervision := .unconfigured
  ae : AeState := .quiet
  rf : Nat := 0
  nf : Nat := 0
  startingCount : Nat := 0
  lastVoltage : Nat := 0
  lastTime : Nat := 0
  band : Band := .within
  noisy : Bool := false
  dwell : Nat := 0
  order : Option PotOrder := none
  /-- The node address and slot of the most recent reading taken. -/
  orderAddress : Option (Addr × Nat) := none
  inhibitUntil : Option Nat := none
  parked : Option Nat := none
  /-- The place of the open effect's record in the AE log. -/
  logIndex : Option Nat := none
  attempts : Nat := 0
  localQuench : Bool := false
  glitches : Nat := 0
  faults : Nat := 0
  lateAnswers : Nat := 0
  staleCurrent : Nat := 0
  ignoredMarkers : Nat := 0
  /-- R24. -/
  lastResistance : Nat := 0
  lowV : Bool := false
  sat : Bool := false
  fx : Effect := {}
  deriving DecidableEq, Repr

/-- The counters of R40. -/
structure PsuCounters where
  raiseSent : Nat := 0
  lowerSent : Nat := 0
  checkSent : Nat := 0
  taken : Nat := 0
  declined : Nat := 0
  expired : Nat := 0
  badAnswer : Nat := 0
  unplaced : Nat := 0
  deriving DecidableEq, Repr

/-- The pot supervision unit. An entry of the send list is the pot and its POT-ORDER frame (R31). -/
structure Psu where
  pots : Vector Pot 384 := Vector.replicate 384 {}
  seq : Byte := 0
  sendList : List (Fin 384 × Frame) := []
  counters : PsuCounters := {}
  deriving DecidableEq, Repr

/-! ### Anode effect unit (03_anode_effects) -/

/-- The end causes in the order of their codes 1..6 (R54). -/
inductive EndCause where
  | selfCleared | quenched | noData | bypassed | unconfigured | restart
  deriving DecidableEq, Repr

/-- An AE log record (section 3.3). It is OPEN while the end cause is absent and `closed` is clear. -/
structure AeRecord where
  place : Nat
  pot : Fin 384
  onsetDay : Nat
  onsetMs : Nat
  closed : Bool := false
  duration : Nat := 0
  peak : Nat := 0
  vnorm : Nat
  energy : Nat := 0
  ordersSent : Nat := 0
  quenchTaken : Nat := 0
  localQuench : Bool := false
  declines : Nat := 0
  relapses : Nat := 0
  persistent : Bool := false
  endCause : Option EndCause := none
  runCount : Nat := 0
  samples : Nat := 0
  truncated : Bool := false
  deriving DecidableEq, Repr

/-- A run of the trace store (section 3.4). -/
structure Run where
  place : Nat
  level : Nat
  count : Nat
  deriving DecidableEq, Repr

/-- The counters of R64. -/
structure AeuCounters where
  onsets : Nat := 0
  quenchSent : Nat := 0
  quenchTaken : Nat := 0
  quenchDeclined : Nat := 0
  persistent : Nat := 0
  unlogged : Nat := 0
  discardedRuns : Nat := 0
  deriving DecidableEq, Repr

/-- The anode effect unit. The log is in opening order. -/
structure Aeu where
  count : Nat := 0
  log : List AeRecord := []
  trace : List Run := []
  counters : AeuCounters := {}
  deriving DecidableEq, Repr

/-! ### Line regulator (04_line_current) -/

/-- The line state (R68). -/
inductive LineState where
  | low | energised | tripped
  deriving DecidableEq, Repr

/-- The configuration fields of the line (section 4.1). -/
structure LineConfig where
  inom : Nat := 0
  imin : Nat := 20000
  if0 : Nat := 0
  itrip : Nat := 2000
  sup : Nat := 50
  sdn : Nat := 200
  ki : Nat := 6
  cmax : Nat := 500
  hl : Nat := 3600000
  hr : Nat := 4000
  deriving DecidableEq, Repr

/-- The AE thresholds and timers (section 3.1), in mV, s and pots. -/
structure AeConfig where
  vae : Nat := 8000
  vclr : Nat := 6000
  vmax : Nat := 60000
  tq : Nat := 3
  tclr : Nat := 10
  tqx : Nat := 90
  holdLimit : Nat := 6
  deriving DecidableEq, Repr

/-- A step of the step store (section 4.6). -/
structure ProfileStep where
  offset : Int := 0
  duration : Nat := 1
  marker : Nat := 0
  last : Bool := true
  deriving DecidableEq, Repr

/-- A directory entry; an absent trigger class is NONE (section 4.6). -/
structure ProfileEntry where
  startStep : Fin 256 := 0
  trigger : Option Nat := none
  deriving DecidableEq, Repr

/-- The player's state (section 4.6). -/
inductive PlayerState where
  | idle | playing | held
  deriving DecidableEq, Repr

/-- The profile player (section 4.6). `last` is the last flag of the step as read when it was entered (R80, log 33). -/
structure Player where
  state : PlayerState := .idle
  profile : Option (Fin 8) := none
  step : Fin 256 := 0
  last : Bool := true
  stepEnd : Option Nat := none
  remaining : Option Nat := none
  op : Int := 0
  deriving DecidableEq, Repr

/-- The line regulator. If is computed (R78). -/
structure Line where
  cfg : LineConfig := {}
  ae : AeConfig := {}
  /-- s (R17). -/
  inhibitTime : Nat := 600
  /-- R155. -/
  cacheEnable : Bool := true
  il : Nat := 0
  vl : Nat := 0
  sampleTime : Option Nat := none
  /-- The Imin as it stood at the latest LINE-SAMPLE (R20, R66; log 21). -/
  iminInForce : Nat := 20000
  state : LineState := .low
  tripWatch : Option Nat := none
  it : Nat := 0
  c : Int := 0
  ig : Nat := 0
  hd : Nat := 0
  heatRemainder : Nat := 0
  heatRecovery : Bool := false
  aeHold : Bool := false
  belowFloor : Bool := false
  curtailing : Bool := false
  steps : Vector ProfileStep 256 := Vector.replicate 256 {}
  profiles : Vector ProfileEntry 8 := Vector.replicate 8 {}
  player : Player := {}
  deriving DecidableEq, Repr

/-! ### Group authority unit (05_rectifier_groups) -/

/-- The authority states in the order of their codes 0..4 (R157). -/
inductive Authority where
  | released | held | heldWatched | pending | pendingWatched
  deriving DecidableEq, Repr

/-- The acknowledge mode (R94). -/
inductive AckMode where
  | external | internal
  deriving DecidableEq, Repr

/-- The period of the step clock (R93). -/
inductive StepClock where
  | ms100 | s1 | s10 | s60
  deriving DecidableEq, Repr

/-- The status form a group is worked in (R107). -/
inductive Form where
  | full | basic
  deriving DecidableEq, Repr

/-- The form of the latest status taken (section 5.1). -/
inductive StatusForm where
  | full | short
  deriving DecidableEq, Repr

/-- The status mode (R90). -/
inductive StatusMode where
  | remote | localMode
  deriving DecidableEq, Repr

/-- The stale state (R105, R106). -/
inductive Stale where
  | fresh | holding | silent
  deriving DecidableEq, Repr

/-- The withdrawal state (R110, R111). -/
inductive Withdrawal where
  | none | withdrawing | withdrawn
  deriving DecidableEq, Repr

/-- A pending group order (section 5.1). -/
structure GroupOrder where
  setpoint : Nat
  seq : Byte
  sent : Nat
  withdraw : Bool
  unsent : Bool
  deriving DecidableEq, Repr

/-- A point of a derating curve: a temperature in 0.1 °C and a percentage (section 6.2). -/
structure CurvePoint where
  t : Int := 0
  p : Nat := 100
  deriving DecidableEq, Repr

/-- The configuration fields of a group (sections 5.1 and 6.1). -/
structure GroupConfig where
  present : Bool := false
  node : Addr := 0
  rated : Nat := 0
  idle : Nat := 200
  ack : AckMode := .external
  clock : StepClock := .s1
  latch : Nat := 10
  deadband : Nat := 5
  autoclaim : Bool := false
  lock : Bool := false
  derate : Nat := 90
  sinkOffset : Nat := 150
  minFlow : Nat := 400
  deriving DecidableEq, Repr

/-- The counters per group of R112. -/
structure GroupCounters where
  late : Nat := 0
  noAnswer : Nat := 0
  badAnswer : Nat := 0
  mismatch : Nat := 0
  badStatus : Nat := 0
  echoMismatch : Nat := 0
  shortWhileLocked : Nat := 0
  ordersSent : Nat := 0
  deriving DecidableEq, Repr

/-- A group record (sections 5.1 and 6.1). -/
structure Group where
  cfg : GroupConfig := {}
  curve : Vector CurvePoint 8 := Vector.replicate 8 {}
  authority : Authority := .released
  watcher : Option Addr := none
  form : Form := .full
  latestForm : StatusForm := .full
  mode : StatusMode := .localMode
  reported : Nat := 0
  tap : Nat := 0
  echo : Nat := 0
  tout : Int := 0
  tsink : Int := 0
  flow : Nat := 0
  confirmed : Nat := 0
  order : Option GroupOrder := none
  streak : Nat := 0
  wanted : Nat := 0
  stale : Stale := .silent
  lastStatus : Option Nat := none
  withdrawal : Withdrawal := .none
  stepCounter : Nat := 10
  stepOpen : Bool := false
  statusSince : Bool := false
  teq : Option Int := none
  pct : Nat := 100
  flowLow : Bool := false
  cap : Nat := 0
  counters : GroupCounters := {}
  deriving DecidableEq, Repr

/-- What a frame of GAU's send list is (R95). -/
inductive GauTag where
  | order (g : Fin 8)
  | answer
  | notice
  deriving DecidableEq, Repr

/-- A frame of GAU's send list with its tag. -/
structure GauItem where
  tag : GauTag
  frame : Frame
  deriving DecidableEq, Repr

/-- The group authority unit. -/
structure Gau where
  groups : Vector Group 8 := Vector.replicate 8 {}
  seq : Byte := 0
  sendList : List GauItem := []
  unmatchedStatus : Nat := 0
  unplaced : Nat := 0
  ignoredProbes : Nat := 0
  noticesDropped : Nat := 0
  deriving DecidableEq, Repr

/-! ### Cooling unit (06_rectifier_cooling) -/

/-- An entry of the stage table (section 6.4). -/
structure StageEntry where
  up : Int
  down : Int
  derate : Nat
  deriving DecidableEq, Repr

/-- The confirmation of the wanted stage (R122, R123). -/
inductive Confirmation where
  | confirmed | awaiting | failed
  deriving DecidableEq, Repr

/-- The cooling unit: the stage table (stage s at index s − 1), the station cooling record, Ic and the counters of R125. -/
structure Clu where
  stages : Vector StageEntry 4 := #v[⟨400, 370, 97⟩, ⟨450, 420, 94⟩, ⟨500, 470, 90⟩, ⟨550, 520, 85⟩]
  wanted : Nat := 0
  running : Nat := 0
  available : Nat := 4
  statusTime : Option Nat := none
  confirmation : Confirmation := .confirmed
  confirmEnd : Option Nat := none
  hottest : Option Int := none
  upSince : Option Nat := none
  downSince : Option Nat := none
  counted : Nat := 0
  pct : Nat := 100
  shortfall : Bool := false
  orderFrame : Option Frame := none
  ic : Nat := 0
  seq : Byte := 0
  ordersSent : Nat := 0
  unmatched : Nat := 0
  badStatus : Nat := 0
  deriving DecidableEq, Repr

/-! ### Energy unit (07_energy) -/

/-- The station clock when known (section 7.1). -/
structure Clock where
  day : Nat
  ms : Nat
  deriving DecidableEq, Repr

/-- A tariff entry (08_tariff section 8.1). -/
structure TariffEntry where
  rate : Nat := 0
  limit : Nat := 0
  cls : Nat := 0
  valid : Bool := false
  deriving DecidableEq, Repr

/-- The source of an entry, and the rate source of a slot, which may be MIXED (R132, R133). -/
inductive RateSource where
  | cache | fallback | default | mixed
  deriving DecidableEq, Repr

/-- The open slot (R129). An absent slot number is UNKNOWN. -/
structure OpenSlot where
  number : Option Nat := none
  es : Nat := 0
  costedMark : Nat := 0
  cost : Nat := 0
  aeEnergy : Nat := 0
  curtailed : Nat := 0
  minIl : Option Nat := none
  maxIl : Option Nat := none
  entry : TariffEntry := { valid := true }
  source : RateSource := .default
  cap : Option Nat := none
  capBinding : Bool := false
  timeStep : Bool := false
  gap : Bool := false
  part : Bool := false
  deriving DecidableEq, Repr

/-- An energy record (section 7.6). -/
structure EnergyRecord where
  number : Option Nat
  energy : Nat
  cost : Nat
  aeEnergy : Nat
  overrun : Nat
  curtailed : Nat
  minIl : Nat
  maxIl : Nat
  cls : Nat
  source : RateSource
  timeStep : Bool
  gap : Bool
  part : Bool
  lostBefore : Bool
  deriving DecidableEq, Repr

/-- The energy unit. `part` in a slot or record is the PARTIAL flag. The totals have no bound (log 7). -/
structure Egu where
  clock : Option Clock := none
  slot : OpenSlot := {}
  remainder : Nat := 0
  queue : List EnergyRecord := []
  queueHigh : Bool := false
  total : Nat := 0
  released : Nat := 0
  lost : Nat := 0
  marksTaken : Nat := 0
  badMarks : Nat := 0
  timeSteps : Nat := 0
  lostRecords : Nat := 0
  deriving DecidableEq, Repr

/-! ### Tariff unit (08_tariff) -/

/-- A tariff window; base and mask are 15-bit slot numbers (section 8.2). -/
structure TariffWindow where
  enable : Bool := false
  base : BitVec 15 := 0
  mask : BitVec 15 := 0
  mode : MapMode := .direct
  calendarBase : Half := 0
  own : TariffEntry := {}
  deriving DecidableEq, Repr

/-- The windows and the default entry of one copy, written or in force (section 8.1). The default entry's valid is set (log 34). -/
structure TariffSet where
  windows : Vector TariffWindow 4 := Vector.replicate 4 {}
  fallback : TariffEntry := { valid := true }
  deriving DecidableEq, Repr

/-- A cache place (section 8.3). What an invalid place holds after power-on is the model's choice (log 36). -/
structure CachePlace where
  valid : Bool := false
  tag : Nat := 0
  index : Half := 0
  entry : TariffEntry := {}
  deriving DecidableEq, Repr

/-- A fetch in flight (section 8.5). -/
structure Fetch where
  slot : Nat
  index : Half
  seq : Byte
  sent : Nat
  unsent : Bool
  deriving DecidableEq, Repr

/-- The slot lookup record (section 8.4). -/
structure SlotLookup where
  slot : Option Nat := none
  index : Option Half := none
  source : RateSource := .default
  awaiting : Bool := false
  prefetchMade : Bool := false
  deriving DecidableEq, Repr

/-- The counters of R156. -/
structure TruCounters where
  overlap : Nat := 0
  defaultUsed : Nat := 0
  hits : Nat := 0
  misses : Nat := 0
  fetchesSent : Nat := 0
  taken : Nat := 0
  invalid : Nat := 0
  timeouts : Nat := 0
  late : Nat := 0
  ignored : Nat := 0
  deriving DecidableEq, Repr

/-- The tariff unit. -/
structure Tru where
  written : TariffSet := {}
  inForce : TariffSet := {}
  cache : Vector CachePlace 8 := Vector.replicate 8 {}
  pointer : Fin 8 := 0
  lookup : SlotLookup := {}
  table : Vector (Option Fetch) 2 := Vector.replicate 2 none
  waitList : List (Nat × Half) := []
  declined : Option (Nat × Half) := none
  invalidation : Bool := false
  sendList : List Frame := []
  seq : Byte := 0
  counters : TruCounters := {}
  deriving DecidableEq, Repr

/-! ### Management and event unit (10_management) -/

/-- The part mode (R175). -/
inductive PartMode where
  | forwardOnly | observing | supervising
  deriving DecidableEq, Repr

/-- The errors in the order of their codes 1..5 (section 10.3). -/
inductive ErrorKind where
  | mapRange | mapInvalid | calInvalid | calTimeout | mgmtDenied
  deriving DecidableEq, Repr

/-- The detail of an error: source address, slot and detail index, or slot and calendar index, or SRC (section 10.3). -/
structure ErrorDetail where
  first : Nat := 0
  second : Nat := 0
  third : Nat := 0
  deriving DecidableEq, Repr

/-- The error log (section 10.3). An absent code is the power-on code 0. -/
structure ErrorLog where
  err : Bool := false
  code : Option ErrorKind := none
  detail : ErrorDetail := {}
  day : Nat := 0
  ms : Nat := 0
  lost : Bool := false
  mapRange : Nat := 0
  mapInvalid : Nat := 0
  calInvalid : Nat := 0
  calTimeout : Nat := 0
  mgmtDenied : Nat := 0
  deriving DecidableEq, Repr

/-- What the event summary holds for a kind (section 10.4). The enable of a MINOR or INFO kind is not used. -/
structure EventSummary where
  pending : Bool := false
  count : Nat := 0
  enable : Bool := true
  deriving DecidableEq, Repr

/-- The management and event unit. -/
structure Meu where
  mode : PartMode := .forwardOnly
  observationEnd : Option Nat := none
  management : Option Addr := none
  supervisor : Addr := 0
  server : Addr := 0
  cooler : Addr := 0
  errors : ErrorLog := {}
  events : Vector EventSummary 26 := Vector.replicate 26 {}
  /-- Set while the part drives ALARM# low (R173). -/
  alarm : Bool := false
  sendList : List Frame := []
  requestsTaken : Nat := 0
  requestOverrun : Nat := 0
  denied : Nat := 0
  deriving DecidableEq, Repr

/-! ### The part -/

/-- The state of the part and the queue of commands that wait for it. -/
structure State where
  /-- The commands that wait, first in, first out; the model's own. -/
  pending : List Instr := []
  /-- Set while the reset line is held low (R176). -/
  resetLow : Bool := false
  /-- The part's address, latched from the straps (R157). -/
  address : Addr := Config.addressBase
  /-- Part time, ms, without a bound (section 1.1; log 7). -/
  time : Nat := 0
  port : Port := {}
  smap : SectionMap := {}
  psu : Psu := {}
  aeu : Aeu := {}
  line : Line := {}
  gau : Gau := {}
  clu : Clu := {}
  egu : Egu := {}
  tru : Tru := {}
  meu : Meu := {}
  deriving DecidableEq, Repr

/-- The machine never stops with a fault: the spec counts, logs, reports or answers every error (R158, R167, R170, R171), and no
command of the table halts the part. So no constructor, and nobody raises one. -/
inductive Fault where
  deriving DecidableEq, Repr

/-- The refusals. -/
inductive Refusal where
  /-- A row with no meaning yet, raised by exec's arm alone; safe, since nothing is claimed about what the row does. No arm raises
  it: every row of the table has its meaning. -/
  | notModelled (mnemonic : String)
  deriving DecidableEq, Repr

/-- The part as the release of the reset line leaves it with the address straps at `straps` (R176, R157): every block at its
power-on values, part time 0, the bypass ended. -/
def State.powerOn (straps : Byte) : State :=
  { address := Config.addressBase + straps.setWidth 16 }

/-- The machine right after reset: the reset line has been released with the straps at 0, which the internal pull-downs give
unconnected straps (11_start_up section 11.5; log 5). -/
def State.reset : State := State.powerOn 0

end Sys2Proof.Machine
end

