-- ==== Sys2Proof/Machine/Flags.lean ====
section
/-! DEFINITION. The flags, levels, conditions and bounded counts the rules test, as functions of the state: no function here
changes anything. -/

namespace Sys2Proof.Machine

/-! ### Counters -/

/-- A saturating 16-bit counter (00_scope section 5.4). -/
def bump16 (n : Nat) : Nat := min (n + 1) 65535

/-- A saturating 32-bit counter (00_scope section 5.4). -/
def bump32 (n : Nat) : Nat := min (n + 1) 4294967295

/-- A sum that saturates at 32 bits. -/
def add32 (n k : Nat) : Nat := min (n + k) 4294967295

/-- A value saturated at 65535, as event values are. -/
def sat16 (n : Nat) : Nat := min n 65535

/-- A signed value clamped to 0..65535. -/
def clampHalf (z : Int) : Nat := min z.toNat 65535

/-! ### The part mode -/

/-- OBSERVING or SUPERVISING (R175). -/
def State.active (s : State) : Bool := s.meu.mode != .forwardOnly

/-- SUPERVISING (R175). -/
def State.supervising (s : State) : Bool := s.meu.mode == .supervising

/-! ### Events (10_management section 10.4) -/

/-- The level of an event kind. -/
def EventKind.level : EventKind → Level
  | .aeOnset | .groupWithdrawn | .capacityBelowFloor | .lineTrip => .urgent
  | .aePersistent | .potLost | .unannouncedCutIn | .groupWentLocal | .groupRefusing | .groupSilent | .heatRecovery
  | .demandOverrun | .coolingShortfall | .coolerNoResponse => .major
  | .quenchDeclined | .measurementFault | .groupFallback | .tariffError | .mapError | .timeStep | .energyQueueHigh => .minor
  | .aeEnd | .adviceDeclined | .demandCap | .profileMarker | .profileEnd => .info

/-- The code of a level, 0..3 (R157). -/
def Level.code : Level → Nat
  | .info => 0
  | .minor => 1
  | .major => 2
  | .urgent => 3

/-- All event kinds in the order of their codes. -/
def EventKind.all : List EventKind :=
  [.aeOnset, .aePersistent, .aeEnd, .quenchDeclined, .measurementFault, .potLost, .unannouncedCutIn, .adviceDeclined,
    .groupWentLocal, .groupRefusing, .groupSilent, .groupWithdrawn, .groupFallback, .capacityBelowFloor, .lineTrip,
    .heatRecovery, .demandCap, .demandOverrun, .profileMarker, .profileEnd, .coolingShortfall, .coolerNoResponse,
    .tariffError, .mapError, .timeStep, .energyQueueHigh]

/-- The place of a kind in the event summary: its code less 1. -/
def EventKind.index : EventKind → Fin 26
  | .aeOnset => 0
  | .aePersistent => 1
  | .aeEnd => 2
  | .quenchDeclined => 3
  | .measurementFault => 4
  | .potLost => 5
  | .unannouncedCutIn => 6
  | .adviceDeclined => 7
  | .groupWentLocal => 8
  | .groupRefusing => 9
  | .groupSilent => 10
  | .groupWithdrawn => 11
  | .groupFallback => 12
  | .capacityBelowFloor => 13
  | .lineTrip => 14
  | .heatRecovery => 15
  | .demandCap => 16
  | .demandOverrun => 17
  | .profileMarker => 18
  | .profileEnd => 19
  | .coolingShortfall => 20
  | .coolerNoResponse => 21
  | .tariffError => 22
  | .mapError => 23
  | .timeStep => 24
  | .energyQueueHigh => 25

/-- The code of a kind, 1..26. -/
def EventKind.code (k : EventKind) : Nat := k.index.val + 1

/-- URGENT or MAJOR: the kind can drive the ALARM line (section 10.4). -/
def EventKind.alarming (k : EventKind) : Bool := 2 ≤ k.level.code

/-- The ALARM line is to be driven low: an URGENT or MAJOR kind is both pending and enabled (R173). -/
def alarmHeld (events : Vector EventSummary 26) : Bool :=
  EventKind.all.any fun k => k.alarming && events[k.index].pending && events[k.index].enable

/-! ### The station clock (07_energy section 7.1) -/

/-- A clock whose ms of day has reached 86 400 000 is at 0 ms of the next day, and day 1 follows day 366 (R126). -/
def Clock.normal (c : Clock) : Clock :=
  if c.ms < Config.dayMs then c
  else { day := if c.day < 366 then c.day + 1 else 1, ms := 0 }

/-- The station clock as every rule reads it. -/
def State.clockNow (s : State) : Option Clock := s.egu.clock.map Clock.normal

/-- The day and ms of records and events: 0 and 0 while the clock is unknown (R171). -/
def State.stamp (s : State) : Nat × Nat :=
  match s.clockNow with
  | none => (0, 0)
  | some c => (c.day, c.ms)

/-- Linear time (section 7.1). -/
def Clock.linear (c : Clock) : Nat := (c.day - 1) * Config.dayMs + c.ms

/-- The slot of a clock (section 7.1). -/
def Clock.slot (c : Clock) : Nat := (c.day - 1) * 48 + c.ms / Config.slotMs

/-- The time from a clock reading to the next slot end of the day, 1..1 800 000 (section 7.1). -/
def Clock.left (c : Clock) : Nat := Config.slotMs - c.ms % Config.slotMs

/-- The slot after slot `n`; slot 0 follows 17567 (R130). -/
def nextSlot (n : Nat) : Nat := if n + 1 < Config.slotCount then n + 1 else 0

/-- t_rem of the open slot. It is 0 at the instant at which the clock has reached the slot's end and the slot end is not yet
worked (log 23); absent while the clock or the slot is unknown. -/
def State.timeLeft (s : State) : Option Nat :=
  match s.clockNow, s.egu.slot.number with
  | some c, some n => some (if c.slot = n then c.left else 0)
  | _, _ => none

/-! ### Pots -/

/-- STARTING or RUNNING (section 1.5). -/
def Supervision.worked : Supervision → Bool
  | .starting | .running => true
  | _ => false

/-- The advice orders, which QUENCH is not (section 2.4). -/
def OrderKind.advice : OrderKind → Bool
  | .quench => false
  | _ => true

/-- The order codes 1..4 (R157). -/
def OrderKind.code : OrderKind → Nat
  | .raise => 1
  | .lower => 2
  | .check => 3
  | .quench => 4

/-- ACTIVE or QUENCHING: the pot is in the AE count (section 3.2). -/
def AeState.counted : AeState → Bool
  | .active | .quenching => true
  | _ => false

/-- The codes of the AE states in event values (R44). -/
def AeState.code : AeState → Nat
  | .quiet => 0
  | .suspect => 1
  | .active => 2
  | .quenching => 3
  | .clearing => 4

/-- The codes of the end causes (R54). -/
def EndCause.code : EndCause → Nat
  | .selfCleared => 1
  | .quenched => 2
  | .noData => 3
  | .bypassed => 4
  | .unconfigured => 5
  | .restart => 6

/-- An inhibit is running at part time `now` (R17). -/
def Pot.inhibited (q : Pot) (now : Nat) : Bool :=
  match q.inhibitUntil with
  | none => false
  | some t => now < t

/-- The advice condition (section 2.3). -/
inductive AdviceCondition where
  | noisy | low | high | within
  deriving DecidableEq, Repr

/-- The advice condition of a band and NOISY flag (section 2.3). -/
def adviceCondition (band : Band) (noisy : Bool) : AdviceCondition :=
  if noisy then .noisy
  else match band with
    | .low => .low
    | .high => .high
    | .within => .within

/-- The advice a condition calls for (R30). -/
def AdviceCondition.order : AdviceCondition → Option OrderKind
  | .noisy => some .check
  | .low => some .raise
  | .high => some .lower
  | .within => none

/-- The band of Rf about the target (R28). -/
def classifyBand (cfg : PotConfig) (rf : Nat) : Band :=
  if rf < cfg.rt - cfg.bw then .low else if cfg.rt + cfg.bw < rf then .high else .within

/-- A reading taken now is computable: a LINE-SAMPLE has been taken, it is at most 500 ms old, and IL is at least the Imin in
force (R20). -/
def State.computable (s : State) : Bool :=
  match s.line.sampleTime with
  | none => false
  | some t => decide (s.time ≤ t + 500) && decide (s.line.iminInForce ≤ s.line.il)

/-- The onset threshold in force for a reading taken now (R42). -/
def State.onsetThreshold (s : State) (q : Pot) : Nat :=
  if q.inhibited s.time then s.line.ae.vae + 4000 else s.line.ae.vae

/-! ### Line -/

/-- The floor in use, If (R78). -/
def Line.floor (l : Line) : Nat := if l.heatRecovery then l.cfg.inom else l.cfg.if0

/-- Ig formed from It and c (R67). -/
def groupCommand (it : Nat) (c : Int) : Nat := clampHalf (it + c)

/-! ### Groups -/

/-- The held authority states (section 5.1). -/
def Authority.isHeld : Authority → Bool
  | .released => false
  | _ => true

/-- The authority states with a watcher. -/
def Authority.watched : Authority → Bool
  | .heldWatched | .pendingWatched => true
  | _ => false

/-- HELD or HELD-WATCHED. -/
def Authority.settled : Authority → Bool
  | .held | .heldWatched => true
  | _ => false

/-- The move to PENDING (R94). -/
def Authority.toPending : Authority → Authority
  | .held => .pending
  | .heldWatched => .pendingWatched
  | a => a

/-- The return from PENDING (R96). -/
def Authority.fromPending : Authority → Authority
  | .pending => .held
  | .pendingWatched => .heldWatched
  | a => a

/-- Setting a watcher (R102). -/
def Authority.withWatcher : Authority → Authority
  | .held => .heldWatched
  | .pending => .pendingWatched
  | a => a

/-- Removing a watcher (R102). -/
def Authority.withoutWatcher : Authority → Authority
  | .heldWatched => .held
  | .pendingWatched => .pending
  | a => a

/-- The authority codes (R157). -/
def Authority.code : Authority → Nat
  | .released => 0
  | .held => 1
  | .heldWatched => 2
  | .pending => 3
  | .pendingWatched => 4

/-- The acknowledge mode in force (section 5.1). -/
def Group.ackInForce (q : Group) : AckMode :=
  match q.form with
  | .full => q.cfg.ack
  | .basic => .internal

/-- BASIC-restricted (R94). -/
def Group.basicRestricted (q : Group) : Bool := q.form == .basic && !q.statusSince

/-- The group is in the available set (R84). -/
def Group.available (q : Group) : Bool :=
  q.cfg.present && q.authority.isHeld && q.stale == .fresh && q.withdrawal == .none && decide (0 < q.cap)

/-- The fixed load the group contributes (R84, R106). A SILENT group contributes none, although R179 counts the reported current of one that the
takeover leaves unclaimed. DESIGN CHOICE (log 52). -/
def Group.fixedLoad (q : Group) : Nat :=
  if !q.cfg.present || q.available then 0
  else match q.stale with
    | .silent => 0
    | .holding => if q.authority.isHeld then q.confirmed else q.reported
    | .fresh => q.reported

/-- The value the group is handed over at (R100, section 5.7). -/
def Group.handOver (q : Group) : Nat :=
  if q.authority.isHeld then
    match q.order with
    | some o => o.setpoint
    | none => q.confirmed
  else q.reported

/-- The magnitude of a difference. -/
def distance (a b : Nat) : Nat := (a - b) + (b - a)

/-- The period of a step clock, ms (R93). -/
def StepClock.period : StepClock → Nat
  | .ms100 => 100
  | .s1 => 1000
  | .s10 => 10000
  | .s60 => 60000

/-- The conditions of a claim (R91). -/
def State.claimable (s : State) (q : Group) : Bool :=
  q.cfg.present && q.authority == .released && q.mode == .remote && q.stale == .fresh && s.supervising

/-- The conditions of the zero order of a withdrawal (R110). -/
def State.zeroOrderDue (s : State) (q : Group) : Bool :=
  q.authority.isHeld && q.withdrawal != .none && q.order.isNone && decide (0 < q.confirmed) && s.supervising

/-- The conditions of a group order (R94); a latch of 0 freezes the group (R93). -/
def State.orderDue (s : State) (q : Group) : Bool :=
  q.authority.settled && q.stepOpen && decide (q.cfg.deadband ≤ distance q.wanted q.confirmed) && q.stale == .fresh
    && q.withdrawal == .none && !q.basicRestricted && s.supervising && decide (q.cfg.latch ≠ 0)

/-- The stale state worked from the last status time (R113). -/
def staleFrom (now : Nat) : Option Nat → Stale
  | none => .silent
  | some t => if t + 30000 ≤ now then .silent else if t + 3000 ≤ now then .holding else .fresh

/-! ### Cooling -/

/-- The group counts for the hottest temperature (R121). -/
def Group.counted (q : Group) : Bool := q.cfg.present && q.stale == .fresh && q.form == .full

/-- The entry of stage `n` of the stage table, 1..4; absent for any other number. -/
def Clu.stage (c : Clu) (n : Nat) : Option StageEntry := if n = 0 then none else c.stages[n - 1]?

/-- The up condition of R121. -/
def Clu.upHolds (c : Clu) : Bool :=
  match c.hottest, c.stage (c.wanted + 1) with
  | some t, some e => decide (e.up ≤ t)
  | _, _ => false

/-- The down condition of R121. -/
def Clu.downHolds (c : Clu) : Bool :=
  match c.hottest, c.stage c.wanted with
  | some t, some e => decide (t < e.down)
  | _, _ => false

/-- The counted stage (R124). -/
def Clu.countedStage (c : Clu) : Nat :=
  match c.confirmation with
  | .failed => min c.available c.running
  | _ => min c.available c.wanted

/-- The station percentage that the counted stage gives (R124). -/
def Clu.percentage (c : Clu) : Nat :=
  if c.wanted ≤ c.countedStage then 100
  else match c.stage (c.countedStage + 1) with
    | some e => e.derate
    | none => 100

/-! ### Ring port -/

/-- The code of a REPORT frame (R157). -/
def reportKind : Byte := 0x60

/-- A REPORT is due (R165). -/
def Port.reportDue (p : Port) : Bool :=
  !p.buffer.isEmpty && (decide (4 ≤ p.buffer.length) || p.deferralFlag || p.buffer.any (fun r => r.kind.level == .urgent))

/-- REPORT frames in the insert queue (R161). -/
def Port.reports (p : Port) : Nat := p.insert.countP (fun f => f.kind == reportKind)

end Sys2Proof.Machine
end

