-- ==== Sys2Proof/Machine/Ops.lean ====
section
/-! DEFINITION. The named operations on the state that every block shares: a pot record, a group record and their changes;
entering frames into the insert queue (R161, R162, R165); event records (R164), events (R171) and errors (R170); the send
lists; the forward queue (R160). -/

namespace Sys2Proof.Machine

/-! ### Records by number -/

/-- The pot record of pot `p`. -/
def State.pot (s : State) (p : Fin 384) : Pot := s.psu.pots[p]

/-- Change the record of pot `p`. -/
def State.modPot (s : State) (p : Fin 384) (f : Pot → Pot) : State :=
  { s with psu.pots := s.psu.pots.set p (f s.psu.pots[p]) }

/-- The group record of group `g`. -/
def State.group (s : State) (g : Fin 8) : Group := s.gau.groups[g]

/-- Change the record of group `g`. -/
def State.modGroup (s : State) (g : Fin 8) (f : Group → Group) : State :=
  { s with gau.groups := s.gau.groups.set g (f s.gau.groups[g]) }

/-- Change every AE log record of place `pl`: the log holds at most one (section 3.3). -/
def State.modRecord (s : State) (pl : Nat) (f : AeRecord → AeRecord) : State :=
  { s with aeu.log := s.aeu.log.map fun r => if r.place = pl then f r else r }

/-- Change the record of the effect that pot `p` is in, if the effect has one (R58). -/
def State.modOpenRecord (s : State) (p : Fin 384) (f : AeRecord → AeRecord) : State :=
  match (s.pot p).logIndex with
  | none => s
  | some pl => s.modRecord pl f

/-! ### The insert queue (R161) -/

/-- The rotation of the six sources that begins at a source (R161). -/
def Source.rotation : Source → List Source
  | .report => [.report, .meu, .gau, .psu, .tru, .clu]
  | .meu => [.meu, .gau, .psu, .tru, .clu, .report]
  | .gau => [.gau, .psu, .tru, .clu, .report, .meu]
  | .psu => [.psu, .tru, .clu, .report, .meu, .gau]
  | .tru => [.tru, .clu, .report, .meu, .gau, .psu]
  | .clu => [.clu, .report, .meu, .gau, .psu, .tru]

/-- The source after a source (R161). -/
def Source.next : Source → Source
  | .report => .meu
  | .meu => .gau
  | .gau => .psu
  | .psu => .tru
  | .tru => .clu
  | .clu => .report

/-- A source has a frame to offer. PSU, GAU, TRU and CLU are not offered in FORWARD-ONLY (R161). -/
def State.offers (s : State) : Source → Bool
  | .report => s.port.reportDue
  | .meu => !s.meu.sendList.isEmpty
  | .gau => s.active && !s.gau.sendList.isEmpty
  | .psu => s.active && !s.psu.sendList.isEmpty
  | .tru => s.active && !s.tru.sendList.isEmpty
  | .clu => s.active && s.clu.orderFrame.isSome

/-- A source offers a frame for which there is a place: below 32 frames, and for a REPORT below 24 REPORTs (R161). -/
def State.mayEnter (s : State) (src : Source) : Bool :=
  decide (s.port.insert.length < Config.insertPlaces) && s.offers src
    && (src != .report || decide (s.port.reports < Config.reportPlaces))

/-- A frame enters the insert queue at its tail; on an empty queue the wait count starts at 0 (R161, R163). -/
def Port.enter (p : Port) (f : Frame) : Port :=
  { p with insert := p.insert ++ [f], waitCount := if p.insert.isEmpty then 0 else p.waitCount }

/-- The frame takes its SEQ from the notice sequence counter as it enters (R162). -/
def Port.enterNumbered (p : Port) (f : Frame) : Port :=
  { p.enter { f with seq := p.noticeSeq } with noticeSeq := p.noticeSeq + 1 }

/-- The 14 bytes of an event record (R157). -/
def EventRecord.bytes (r : EventRecord) : List Byte :=
  [BitVec.ofNat 8 r.kind.code, BitVec.ofNat 8 r.kind.level.code] ++ be16 (BitVec.ofNat 16 r.day) ++ be32 (BitVec.ofNat 32 r.ms)
    ++ be16 (BitVec.ofNat 16 r.subject) ++ be16 (BitVec.ofNat 16 r.a) ++ be16 (BitVec.ofNat 16 r.b)

/-- A REPORT frame of some records, for a supervisor (R157, R165). -/
def reportFrame (own supervisor : Addr) (records : List EventRecord) : Frame :=
  { dest := supervisor, src := own, kind := reportKind, seq := 0,
    payload := BitVec.ofNat 8 records.length :: records.flatMap EventRecord.bytes }

/-- The REPORT is built from up to 4 of the oldest records as it enters (R165). An emptied buffer clears the deferral flag
(R164). -/
def State.buildReport (s : State) : State :=
  let records := s.port.buffer.take 4
  let rest := s.port.buffer.drop 4
  { s with port :=
      { s.port.enterNumbered (reportFrame s.address s.meu.supervisor records) with
        buffer := rest
        deferralFlag := s.port.deferralFlag && !rest.isEmpty
        counters.reportsSent := bump32 s.port.counters.reportsSent } }

/-- A pot order whose frame has entered the insert queue is no longer unsent (R31). -/
def Pot.clearUnsent (q : Pot) (seq : Byte) : Pot :=
  { q with order := q.order.map fun o => if o.seq = seq then { o with unsent := false } else o }

/-- A group order whose frame has entered the insert queue is no longer unsent (R95). -/
def Group.clearUnsent (q : Group) (seq : Byte) : Group :=
  { q with order := q.order.map fun o => if o.seq = seq then { o with unsent := false } else o }

/-- The head frame of a source's send list enters the insert queue, and the source clears its unsent flag (R161). -/
def State.enterFrom (s : State) : Source → State
  | .report => s.buildReport
  | .meu =>
    match s.meu.sendList with
    | [] => s
    | f :: rest => { s with meu.sendList := rest, port := s.port.enter f }
  | .gau =>
    match s.gau.sendList with
    | [] => s
    | i :: rest =>
      let s1 : State := { s with gau.sendList := rest }
      match i.tag with
      | .order g => { s1.modGroup g (fun q => q.clearUnsent i.frame.seq) with port := s.port.enter i.frame }
      | .answer => { s1 with port := s.port.enter i.frame }
      | .notice => { s1 with port := s.port.enterNumbered i.frame }
  | .psu =>
    match s.psu.sendList with
    | [] => s
    | (p, f) :: rest =>
      let s1 : State := { s with psu.sendList := rest }
      { s1.modPot p (fun q => q.clearUnsent f.seq) with port := s.port.enter f }
  | .tru =>
    match s.tru.sendList with
    | [] => s
    | f :: rest =>
      { s with
        tru.sendList := rest
        tru.table := s.tru.table.map fun e => e.map fun x => if x.seq = f.seq then { x with unsent := false } else x
        port := s.port.enter f }
  | .clu =>
    match s.clu.orderFrame with
    | none => s
    | some f => { s with clu.orderFrame := none, port := s.port.enter f }

/-- The first source at or after the rotation pointer that has a frame it may place (R161). -/
def State.nextSource (s : State) : Option Source := s.port.pointer.rotation.find? s.mayEnter

/-- The arbiter places frames for at most `n` rounds, moving the pointer past each source it takes from (R161). -/
def State.arbitrate : Nat → State → State
  | 0, s => s
  | n + 1, s =>
    match s.nextSource with
    | none => s
    | some src =>
      let s1 := s.enterFrom src
      State.arbitrate n { s1 with port.pointer := src.next }

/-- The arbiter works until no source has a frame it may place. Each round takes a place of the insert queue, so 32 rounds are
enough (R161). It is worked wherever a place or an offer may have come about (log 14). -/
def State.settle (s : State) : State := s.arbitrate Config.insertPlaces

/-! ### Event records (R164) -/

/-- Count a dropped record by its level (R164). -/
def PortCounters.drop (c : PortCounters) : Level → PortCounters
  | .info => { c with infoDrops := bump32 c.infoDrops }
  | .minor => { c with minorDrops := bump32 c.minorDrops }
  | .major => { c with majorDrops := bump32 c.majorDrops }
  | .urgent => { c with urgentDrops := bump32 c.urgentDrops }

/-- An INFO record. -/
def EventRecord.isInfo (r : EventRecord) : Bool := r.kind.level == .info

/-- A record enters at the tail and reloads the deferral timer (R164). -/
def Port.append (p : Port) (now : Nat) (r : EventRecord) : Port :=
  { p with buffer := p.buffer ++ [r], deferral := some (now + Config.deferralTime) }

/-- An event record arrives at the report buffer: it enters, displaces the oldest INFO record, or is dropped (R164). -/
def Port.record (p : Port) (now : Nat) (r : EventRecord) : Port :=
  if p.buffer.length < Config.recordPlaces then p.append now r
  else if r.isInfo || !p.buffer.any EventRecord.isInfo then { p with counters := p.counters.drop r.kind.level }
  else { p with buffer := p.buffer.eraseP EventRecord.isInfo, counters := p.counters.drop .info }.append now r

/-- Work the ALARM line (R173). -/
def Meu.evaluateAlarm (m : Meu) : Meu := { m with alarm := alarmHeld m.events }

/-- The event summary takes a raised kind: pending, counted, the ALARM line worked (R171, R173). -/
def Meu.takeEvent (m : Meu) (k : EventKind) : Meu :=
  let e := m.events[k.index]
  { m with events := m.events.set k.index { e with pending := true, count := bump32 e.count } }.evaluateAlarm

/-- Raise an event with its subject and values (R171). -/
def State.raise (s : State) (k : EventKind) (subject a b : Nat) : State :=
  let r : EventRecord := { kind := k, day := s.stamp.1, ms := s.stamp.2, subject := subject, a := a, b := b }
  State.settle { s with meu := s.meu.takeEvent k, port := s.port.record s.time r }

/-! ### Errors (R170) -/

/-- Count an error by its kind (R170). -/
def ErrorLog.count (l : ErrorLog) : ErrorKind → ErrorLog
  | .mapRange => { l with mapRange := bump32 l.mapRange }
  | .mapInvalid => { l with mapInvalid := bump32 l.mapInvalid }
  | .calInvalid => { l with calInvalid := bump32 l.calInvalid }
  | .calTimeout => { l with calTimeout := bump32 l.calTimeout }
  | .mgmtDenied => { l with mgmtDenied := bump32 l.mgmtDenied }

/-- An error is offered to the error log: counted, and held when the log is clear, else LOST is set (R170). -/
def ErrorLog.offer (l : ErrorLog) (k : ErrorKind) (d : ErrorDetail) (day ms : Nat) : ErrorLog :=
  if l.err then { l.count k with lost := true }
  else { l.count k with err := true, code := some k, detail := d, day := day, ms := ms }

/-- Offer an error to the error log (R170). -/
def State.offerError (s : State) (k : ErrorKind) (d : ErrorDetail) : State :=
  { s with meu.errors := s.meu.errors.offer k d s.stamp.1 s.stamp.2 }

/-! ### Send lists

The part never sends a frame to 0xFFFF (R157). A reply, an answer, a notice or an order for that address is not placed in its send list;
all else that its rule says happens, and an order so kept back stays unsent (log 42). -/

/-- The part may send the frame: it is not for the broadcast address (R157; log 42). -/
def sendable (f : Frame) : Bool := f.dest != Config.broadcast

/-- A MGMT-REPLY is appended to MEU's send list (R167). -/
def State.sendReply (s : State) (f : Frame) : State :=
  if sendable f then State.settle { s with meu.sendList := s.meu.sendList ++ [f] } else s

/-- A POT-ORDER frame of pot `p` is placed at the tail of PSU's send list, which holds at most one frame per pot (R31). -/
def State.sendPotOrder (s : State) (p : Fin 384) (f : Frame) : State :=
  let s1 : State := { s with psu.sendList := s.psu.sendList.filter fun e => e.1 != p }
  if sendable f then State.settle { s1 with psu.sendList := s1.psu.sendList ++ [(p, f)] } else s1

/-- The outstanding order of pot `p` becomes absent, and a frame of it still in the send list is removed (R31). -/
def State.dropPotOrder (s : State) (p : Fin 384) : State :=
  let s1 := s.modPot p fun q => { q with order := none }
  { s1 with psu.sendList := s.psu.sendList.filter (fun e => e.1 != p) }

/-- The item is a GROUP-ORDER of group `g`. -/
def GauItem.isOrderOf (g : Fin 8) (i : GauItem) : Bool := i.tag == .order g

/-- The item is a GROUP-ORDER. -/
def GauItem.isOrder (i : GauItem) : Bool :=
  match i.tag with
  | .order _ => true
  | _ => false

/-- Answers and notices in GAU's send list (R95). -/
def Gau.notices (u : Gau) : Nat := u.sendList.countP (fun i => !i.isOrder)

/-- Answers in GAU's send list (R95). -/
def Gau.answers (u : Gau) : Nat := u.sendList.countP (fun i => i.tag == .answer)

/-- Every GROUP-ORDER frame of the group is removed from the send list (R100). -/
def State.dropGroupFrames (s : State) (g : Fin 8) : State :=
  { s with gau.sendList := s.gau.sendList.filter (fun i => !i.isOrderOf g) }

/-- A GROUP-ORDER frame replaces the group's frame still in the list, in its place, or is appended (R95). -/
def State.sendGroupOrder (s : State) (g : Fin 8) (f : Frame) : State :=
  let item : GauItem := { tag := .order g, frame := f }
  let l := s.gau.sendList
  if sendable f then
    State.settle
      { s with gau.sendList := if l.any (GauItem.isOrderOf g) then l.map (fun i => if i.isOrderOf g then item else i) else l ++ [item] }
  else s.dropGroupFrames g

/-- Room is made for an answer or notice: when the 16 places are full the oldest notice is removed and counted (R95). -/
def Gau.makeRoom (u : Gau) : Gau :=
  if u.notices < Config.noticePlaces then u
  else { u with sendList := u.sendList.eraseP (fun i => i.tag == .notice), noticesDropped := bump32 u.noticesDropped }

/-- A PROBE-ANSWER is placed in GAU's send list (R95, R101). -/
def State.sendAnswer (s : State) (f : Frame) : State :=
  let u := s.gau.makeRoom
  if sendable f then State.settle { s with gau := { u with sendList := u.sendList ++ [{ tag := .answer, frame := f }] } } else s

/-- A WATCH-NOTICE is placed in GAU's send list; when all 16 places hold answers it is only counted (R95, R104). -/
def State.sendNotice (s : State) (f : Frame) : State :=
  if sendable f = false then s
  else if Config.noticePlaces ≤ s.gau.answers then { s with gau.noticesDropped := bump32 s.gau.noticesDropped }
  else
    let u := s.gau.makeRoom
    State.settle { s with gau := { u with sendList := u.sendList ++ [{ tag := .notice, frame := f }] } }

/-- A CALENDAR-ASK is placed in TRU's send list (R149). -/
def State.sendAsk (s : State) (f : Frame) : State := State.settle { s with tru.sendList := s.tru.sendList ++ [f] }

/-- A COOLER-ORDER becomes the waiting order frame in place of an earlier one (R122). -/
def State.sendCoolerOrder (s : State) (f : Frame) : State := State.settle { s with clu.orderFrame := some f }

/-! ### The forward queue (R160) -/

/-- A frame to be forwarded is appended, or dropped with a forward overrun when the queue holds 4 frames (R160). -/
def Port.forwardFrame (p : Port) (f : Frame) : Port :=
  if p.forward.length < Config.forwardPlaces then { p with forward := p.forward ++ [f] }
  else { p with counters.forwardOverrun := bump32 p.counters.forwardOverrun }

end Sys2Proof.Machine
end

