-- ==== Sys2Proof/Machine/Line.lean ====
section
/-! DEFINITION. The line regulator (04_line_current): allocation (R84, R85), capacity changes (R73, R74), the AE hold (R75), heat
debt and recovery (R77, R78), the line state (R68), composition, slew and trim (R71, R72, R76), the profile player (R81 to R83),
the trip and LINE-RESTART (R69, R70). -/

namespace Sys2Proof.Machine

/-! ### Allocation (R84, R85) -/

/-- The groups of the available set in ascending number (R84). -/
def State.availableSet (s : State) : List (Fin 8) := (List.finRange 8).filter fun g => (s.group g).available

/-- The sum of the capacities of the available set (R84). -/
def State.availableCap (s : State) : Nat := (s.availableSet.map fun g => (s.group g).cap).sum

/-- The sum of the fixed loads (R84). -/
def State.fixedLoads (s : State) : Nat := ((List.finRange 8).map fun g => (s.group g).fixedLoad).sum

/-- Ir: the part of the group command to be allocated (R84). -/
def State.toAllocate (s : State) : Nat := min (s.line.ig - s.fixedLoads) s.availableCap

/-- The remainder is given one cu at a time in order, skipping a group at its capacity (R85). Each entry is a share and a
capacity. -/
def giveOut : Nat → List (Nat × Nat) → List Nat
  | _, [] => []
  | r, (share, cap) :: rest =>
    if 0 < r ∧ share < cap then (share + 1) :: giveOut (r - 1) rest else share :: giveOut r rest

/-- The shares of `ir` among groups of the given capacities (R85). -/
def shares (ir : Nat) (caps : List Nat) : List Nat :=
  let base := caps.map fun c => ir * c / caps.sum
  giveOut (ir - base.sum) (base.zip caps)

/-- Write wanted setpoints to groups, one each. -/
def State.writeWanted (s : State) (ws : List (Fin 8 × Nat)) : State :=
  ws.foldl (fun s w => s.modGroup w.1 fun q => { q with wanted := w.2 }) s

/-- Run the allocation: nothing is written when the available set is empty (R85), and it is not run in FORWARD-ONLY (R86). -/
def State.allocate (s : State) : State :=
  let a := s.availableSet
  if s.active then s.writeWanted (a.zip (shares s.toAllocate (a.map fun g => (s.group g).cap))) else s

/-- What the allocation depends on beside Ig: per group its membership of the available set, its capacity and its fixed load,
and Ic (R85). -/
def State.allocationKey (s : State) : Nat × List (Bool × Nat × Nat) :=
  (s.clu.ic, (List.finRange 8).map fun g => ((s.group g).available, (s.group g).cap, (s.group g).fixedLoad))

/-- The allocation is run when something it depends on has changed since `before` (R85). -/
def State.reallocate (s before : State) : State :=
  if s.allocationKey = before.allocationKey then s else s.allocate

/-! ### Capacity (R73, R74) -/

/-- Work the below-floor flag (R74). -/
def State.workBelowFloor (s : State) : State :=
  if s.clu.ic < s.line.floor then
    if s.line.belowFloor then s
    else State.raise { s with line.belowFloor := true } .capacityBelowFloor 0 s.clu.ic s.line.floor
  else { s with line.belowFloor := false }

/-- It falls to the new Ic at once, Ig follows, and a trip watch ends when It is below Imin (R73, R68). -/
def Line.lowerTo (l : Line) (ic : Nat) : Line :=
  if ic < l.it then
    { l with it := ic, ig := groupCommand ic l.c, tripWatch := if ic < l.iminInForce then none else l.tripWatch }
  else l

/-- The line regulator takes a new Ic, in LOW and ENERGISED (R73, R74; log 22). -/
def State.takeCapacity (s : State) : State :=
  if s.line.state = .tripped then s else State.workBelowFloor { s with line := s.line.lowerTo s.clu.ic }

/-! ### AE hold (R75) -/

/-- Re-evaluate the AE hold flag (R75). -/
def State.workAeHold (s : State) : State :=
  { s with line.aeHold := decide (s.line.ae.holdLimit ≤ s.aeu.count) }

/-! ### Heat debt (R77, R78) -/

/-- Step the heat debt over `dt` with It as it stands (R77). An Inom that has been written counts here at once, before the composition at
which R66 has it take effect (log 43). -/
def Line.stepHeat (l : Line) (dt : Nat) : Line :=
  if l.it < l.cfg.inom then
    let sum := l.heatRemainder + (l.cfg.inom - l.it) * dt
    { l with hd := add32 l.hd (sum / 1000), heatRemainder := sum % 1000 }
  else
    let left := l.hd * 1000 + l.heatRemainder - l.cfg.hr * dt
    { l with hd := left / 1000, heatRemainder := left % 1000 }

/-- Work the heat recovery flag (R78). -/
def State.workHeatRecovery (s : State) : State :=
  let l := s.line
  if l.cfg.hl ≤ l.hd ∧ l.heatRecovery = false then
    State.raise { s with line.heatRecovery := true } .heatRecovery 0 (sat16 (l.hd / 1000)) l.cfg.inom
  else if l.hd < l.cfg.hl / 2 ∧ l.heatRecovery = true then { s with line.heatRecovery := false }
  else s

/-! ### A line sample's work on the line record -/

/-- Stage 4 of R67: the line state and the trip watch (R68). It stands as before this sample's composition. -/
def Line.workState (l : Line) (now : Nat) : Line :=
  if l.state = .tripped then l
  else
    { l with
      state := if l.cfg.imin ≤ l.il then .energised else .low
      tripWatch :=
        if l.il < l.cfg.itrip ∧ l.cfg.imin ≤ l.it then
          match l.tripWatch with
          | none => some now
          | some t => some t
        else none }

/-- Iw after the profile (R71, step 1). -/
def Line.profileCurrent (l : Line) : Nat := clampHalf (l.cfg.inom + l.player.op)

/-- The demand cap binds: it is below Iw as the profile has left it (R71, step 2). -/
def capBinds (cap : Option Nat) (iw : Nat) : Bool :=
  match cap with
  | none => false
  | some id => decide (id < iw)

/-- Iw after the demand cap (R71, step 2). -/
def capped (cap : Option Nat) (iw : Nat) : Nat :=
  match cap with
  | none => iw
  | some id => min iw id

/-- The working value Iw after all five steps (R71). -/
def Line.workingValue (l : Line) (cap : Option Nat) (ic : Nat) : Nat :=
  let iw := min (max (capped cap l.profileCurrent) l.floor) ic
  if l.aeHold then min iw l.it else iw

/-- The slew of It toward `iw` over `dt` (R72). -/
def Line.slew (l : Line) (iw ic dt : Nat) : Nat :=
  let it := min l.it ic
  if it < iw then min iw (it + l.cfg.sup * dt / 1000)
  else if iw < it then max iw (it - l.cfg.sdn * dt / 1000)
  else it

/-- EGU is told whether its cap bound; DEMAND-CAP is raised at each entry into a binding cap (R136). -/
def State.workCapBinding (s : State) (bound : Bool) (iw : Nat) : State :=
  if bound then
    if s.egu.slot.capBinding then s
    else
      State.raise { s with egu.slot.capBinding := true } .demandCap (s.egu.slot.number.getD 65535) (s.egu.slot.cap.getD 0) iw
  else { s with egu.slot.capBinding := false }

/-- Stage 5 of R67: composition and slew, in LOW and ENERGISED (R71, R72, R74, R136). The trip watch ends when It falls below
Imin (R68). -/
def State.compose (s : State) (dt : Nat) : State :=
  let l := s.line
  let bound := capBinds s.egu.slot.cap l.profileCurrent
  let iw := l.workingValue s.egu.slot.cap s.clu.ic
  let it := l.slew iw s.clu.ic dt
  let s1 := s.workCapBinding bound l.profileCurrent
  let s2 := { s1 with line :=
    { s1.line with
      it := it
      curtailing := decide (iw < l.cfg.inom) && (decide (l.player.op < 0) || bound)
      tripWatch := if it < l.cfg.imin then none else s1.line.tripWatch } }
  s2.workBelowFloor

/-- The conditions of the trim (R76). -/
def State.trims (s : State) : Bool :=
  s.line.state == .energised && s.supervising && s.aeu.count == 0 && !s.availableSet.isEmpty

/-- The trim stepped by the error of this sample and clamped (R76). -/
def Line.trimmed (l : Line) : Int :=
  let c := l.c + ((l.it : Int) - l.il).tdiv (2 ^ l.cfg.ki)
  max (-(l.cfg.cmax : Int)) (min c l.cfg.cmax)

/-- Stage 6 of R67: the trim, then Ig (R76). -/
def State.workTrim (s : State) : State :=
  let c := if s.trims then s.line.trimmed else s.line.c
  { s with line := { s.line with c := c, ig := groupCommand s.line.it c } }

/-! ### The profile player (R81 to R83) -/

/-- The player becomes IDLE with Op = 0 (R81). -/
def Player.stopped (p : Player) : Player :=
  { p with state := .idle, profile := none, stepEnd := none, remaining := none, op := 0 }

/-- The player enters a step of profile `n` (R82). -/
def State.enterStep (s : State) (n : Fin 8) (k : Fin 256) : State :=
  let st := s.line.steps[k]
  let s1 : State := { s with line.player :=
    { state := .playing, profile := some n, step := k, last := st.last, stepEnd := some (s.time + st.duration * 1000),
      remaining := none, op := st.offset } }
  if st.marker = 0 then s1 else s1.raise .profileMarker n.val st.marker k.val

/-- Starting a profile enters its start step (R82). -/
def State.startProfile (s : State) (n : Fin 8) : State := s.enterStep n s.line.profiles[n].startStep

/-- The step being played runs out: the profile ends or the next step is entered (R82). -/
def State.runOut (s : State) : State :=
  let p := s.line.player
  match p.profile with
  | none => { s with line.player := p.stopped }
  | some n =>
    if h : p.last = false ∧ p.step.val + 1 < 256 then s.enterStep n ⟨p.step.val + 1, h.2⟩
    else
      State.raise { s with line.player := p.stopped } .profileEnd n.val p.step.val (if p.last then 1 else 2)

/-- The lowest profile whose trigger class is met by a price class (R83). -/
def Line.triggered (l : Line) (cls : Nat) : Option (Fin 8) :=
  (List.finRange 8).find? fun n =>
    match l.profiles[n].trigger with
    | none => false
    | some t => decide (t ≤ cls)

/-- The price class of a new slot is tested against the trigger classes (R83). -/
def State.trigger (s : State) (cls : Nat) : State :=
  if s.line.player.state = .idle ∧ s.line.state ≠ .tripped ∧ s.active = true then
    match s.line.triggered cls with
    | none => s
    | some n => s.startProfile n
  else s

/-! ### Trip and restart (R69, R70, R86) -/

/-- Every held group is given wanted 0 (R69). -/
def State.zeroWanted (s : State) : State :=
  { s with gau.groups := s.gau.groups.map fun q => if q.authority.isHeld then { q with wanted := 0 } else q }

/-- Entry into TRIPPED: the allocation with Ig = 0 gives every held group wanted 0, those outside the available set among them (R69;
log 28). -/
def State.trip (s : State) : State :=
  let it := s.line.it
  let s1 : State := { s with line :=
    { s.line with state := .tripped, it := 0, c := 0, ig := 0, tripWatch := none, player := s.line.player.stopped } }
  s1.allocate.zeroWanted.raise .lineTrip 0 s.line.il it

/-- It becomes the smaller of IL and Ic, c 0 and Ig It, and the line state follows IL (R70, R86). -/
def Line.restarted (l : Line) (ic : Nat) : Line :=
  { l with
    it := min l.il ic, c := 0, ig := min l.il ic, tripWatch := none
    state := if l.iminInForce ≤ l.il then .energised else .low }

end Sys2Proof.Machine
end

