-- ==== Sys2Proof/Machine/Groups.lean ====
section
/-! DEFINITION. The group authority unit (05_rectifier_groups): notices, orders and their decision (R94, R95, R104, R110),
release and claim (R91, R92, R100), answers (R96 to R99), probes (R101 to R103), status mode and withdrawal (R90, R111). -/

namespace Sys2Proof.Machine

/-! ### Matching frames to groups -/

/-- The lowest present group with a node address (R88, R89). -/
def State.groupAt (s : State) (a : Addr) : Option (Fin 8) :=
  (List.finRange 8).find? fun g => (s.group g).cfg.present && (s.group g).cfg.node == a

/-! ### Notices (R104) -/

/-- A WATCH-NOTICE frame (R157, R104). Its SEQ is taken as it enters the insert queue (R162). -/
def noticeFrame (own dest : Addr) (g : Fin 8) (confirmed : Nat) (a : Authority) : Frame :=
  { dest := dest, src := own, kind := 0x26, seq := 0,
    payload := [BitVec.ofNat 8 g.val] ++ be16 (BitVec.ofNat 16 confirmed) ++ [BitVec.ofNat 8 a.code] }

/-- Notify the watcher of group `g`, if it has one, of the record as it stands (R104): at the confirmation itself, before what the same frame
goes on to do, such as a release or a further order (log 47). -/
def State.notify (s : State) (g : Fin 8) : State :=
  let q := s.group g
  match q.watcher with
  | none => s
  | some w => s.sendNotice (noticeFrame s.address w g q.confirmed q.authority)

/-! ### Orders (R94, R95, R110) -/

/-- A GROUP-ORDER frame (R95, R157). -/
def orderFrame (own dest : Addr) (seq : Byte) (setpoint : Nat) (withdraw : Bool) : Frame :=
  { dest := dest, src := own, kind := 0x22, seq := seq,
    payload := be16 (BitVec.ofNat 16 setpoint) ++ [if withdraw then 1 else 0] }

/-- An order of `setpoint` is decided for group `g` (R94); a zero order of a withdrawal keeps step-open (R110). It too clears
status-since-order, and an INTERNAL group's notice goes before the frame (log 26, 27). -/
def State.decideOrder (s : State) (g : Fin 8) (setpoint : Nat) (withdraw : Bool) : State :=
  let q := s.group g
  let seq := s.gau.seq
  let frame := orderFrame s.address q.cfg.node seq setpoint withdraw
  let s1 : State := { s with gau.seq := seq + 1 }
  let s2 := s1.modGroup g fun q =>
    { q with
      stepOpen := q.stepOpen && withdraw
      statusSince := false
      counters.ordersSent := bump32 q.counters.ordersSent }
  match q.ackInForce with
  | .external =>
    (s2.modGroup g fun q =>
      { q with
        order := some { setpoint := setpoint, seq := seq, sent := s.time, withdraw := withdraw, unsent := true }
        authority := q.authority.toPending }).sendGroupOrder g frame
  | .internal => ((s2.modGroup g fun q => { q with confirmed := setpoint }).notify g).sendGroupOrder g frame

/-- The order that group `g` is due, if any, is decided (R94, R110). -/
def State.decideFor (s : State) (g : Fin 8) : State :=
  let q := s.group g
  if s.zeroOrderDue q then s.decideOrder g 0 true
  else if s.orderDue q then s.decideOrder g q.wanted false
  else s

/-- The orders that are due are decided in ascending group number. -/
def State.decideAll (s : State) : State := (List.finRange 8).foldl State.decideFor s

/-- The orders that a step has made due are decided when the step's own work is done (log 15). A zero order that confirms at
once may change a fixed load: then the allocation is run and orders are decided again (R85). -/
def State.regulate (s : State) : State :=
  let s1 := s.decideAll
  if s1.allocationKey = s.allocationKey then s1 else s1.allocate.decideAll

/-! ### Release and claim (R91, R100) -/

/-- Steps 2 to 4 of a release: the order abandoned and its frames removed, RELEASED, the last notice sent (R100). -/
def State.releaseCore (s : State) (g : Fin 8) : State :=
  if (s.group g).authority.isHeld then
    let s1 := (s.modGroup g fun q => { q with order := none, authority := .released, streak := 0 }).dropGroupFrames g
    (s1.notify g).modGroup g fun q => { q with watcher := none }
  else s

/-- A release of group `g`, with the allocation rerun (R100). A release of a RELEASED group changes nothing. -/
def State.releaseGroup (s : State) (g : Fin 8) : State :=
  if (s.group g).authority.isHeld then (s.releaseCore g).allocate else s

/-- Every held group is released, in ascending number, as one change (R113; log 16). -/
def State.releaseAll (s : State) : State := (List.finRange 8).foldl State.releaseCore s

/-- The effects of a claim on the record (R91). -/
def Group.claimed (q : Group) : Group :=
  { q with
    confirmed := q.reported, wanted := q.reported, authority := .held, streak := 0, order := none
    stepCounter := q.cfg.latch, stepOpen := false }

/-- The wanted setpoint of a held group in withdrawal becomes 0 (R110). -/
def Group.withdrawWanted (q : Group) : Group :=
  if q.authority.isHeld && q.withdrawal != .none then { q with wanted := 0 } else q

/-- A claim of group `g` whose conditions hold: the record, the allocation, and R110 when the group is withdrawn (R91). -/
def State.claimGroup (s : State) (g : Fin 8) : State :=
  (s.modGroup g Group.claimed).allocate.modGroup g Group.withdrawWanted

/-- An occasion of the autoclaim (R92). -/
def State.autoclaim (s : State) (g : Fin 8) : State :=
  let q := s.group g
  if q.cfg.autoclaim && s.claimable q then s.claimGroup g else s

/-! ### Answers (R96 to R99) -/

/-- The pending order of group `g` ends and the group is held again (R96 to R98). -/
def State.endOrder (s : State) (g : Fin 8) : State :=
  s.modGroup g fun q => { q with order := none, authority := q.authority.fromPending }

/-- A matched TAKEN answer (R96). -/
def State.orderTaken (s : State) (g : Fin 8) (o : GroupOrder) : State :=
  ((s.endOrder g).modGroup g fun q => { q with confirmed := o.setpoint, streak := 0 }).notify g

/-- A matched REFUSED answer; the third in a row releases the group with GROUP-REFUSING (R97). -/
def State.orderRefused (s : State) (g : Fin 8) (o : GroupOrder) : State :=
  let s1 := (s.endOrder g).modGroup g fun q => { q with streak := q.streak + 1 }
  if 3 ≤ (s1.group g).streak then
    (s1.releaseGroup g).raise .groupRefusing g.val o.setpoint (s1.group g).confirmed
  else s1

/-- A GROUP-ANSWER is matched and worked (R96, R97, R99). -/
def State.takeGroupAnswer (s : State) (src : Addr) (seq result : Byte) (setpoint : Nat) : State :=
  match s.groupAt src with
  | none => { s with gau.unplaced := bump32 s.gau.unplaced }
  | some g =>
    let late := s.modGroup g fun q => { q with counters.late := bump16 q.counters.late }
    match (s.group g).order with
    | none => late
    | some o =>
      if o.unsent || o.seq != seq then late
      else
        let s1 := if setpoint = o.setpoint then s
          else s.modGroup g fun q => { q with counters.mismatch := bump16 q.counters.mismatch }
        if result = 1 then ((s1.orderTaken g o).reallocate s).regulate
        else if result = 2 then ((s1.orderRefused g o).reallocate s).regulate
        else s1.modGroup g fun q => { q with counters.badAnswer := bump16 q.counters.badAnswer }

/-- A pending order times out (R98). -/
def State.orderTimeout (s : State) (g : Fin 8) : State :=
  (((s.endOrder g).dropGroupFrames g).modGroup g fun q =>
    { q with counters.noAnswer := bump16 q.counters.noAnswer }).regulate

/-! ### Probes (R101 to R103) -/

/-- The results of a probe in the order of their codes 0..5 (R157). -/
inductive ProbeResult where
  | ok | nothingPending | busy | badState | badRequest | noGroup
  deriving DecidableEq, Repr

/-- The codes of the probe results (R157). -/
def ProbeResult.code : ProbeResult → Byte
  | .ok => 0
  | .nothingPending => 1
  | .busy => 2
  | .badState => 3
  | .badRequest => 4
  | .noGroup => 5

/-- The value of a data request, and whether it is IF-PENDING with no order pending; absent for a code that names no kind
(section 5.7). -/
def Group.probeValue (q : Group) (data : Byte) : Option (Nat × Bool) :=
  if data = 0 then some (0, false)
  else if data = 1 then some (q.confirmed, false)
  else if data = 2 then
    match q.order with
    | some o => some (o.setpoint, false)
    | none => some (0, true)
  else if data = 3 then some (q.handOver, false)
  else none

/-- WATCH (R102). -/
def State.probeWatch (s : State) (g : Fin 8) (src : Addr) : State × ProbeResult :=
  let q := s.group g
  if q.authority = .released then (s, .badState)
  else
    match q.watcher with
    | some w => (s, if w = src then .ok else .busy)
    | none => (s.modGroup g fun q => { q with watcher := some src, authority := q.authority.withWatcher }, .ok)

/-- UNWATCH (R102). -/
def State.probeUnwatch (s : State) (g : Fin 8) (src : Addr) : State × ProbeResult :=
  if (s.group g).watcher = some src then
    (s.modGroup g fun q => { q with watcher := none, authority := q.authority.withoutWatcher }, .ok)
  else (s, .busy)

/-- TAKE-LOCAL (R103). -/
def State.probeTakeLocal (s : State) (g : Fin 8) : State × ProbeResult := (s.releaseGroup g, .ok)

/-- RETURN-REMOTE (R103). -/
def State.probeReturnRemote (s : State) (g : Fin 8) : State × ProbeResult :=
  if (s.group g).cfg.autoclaim then (s.autoclaim g, .ok) else (s, .badState)

/-- The next-state of a probe is applied; absent for a code that names none (section 5.7). -/
def State.probeNext (s : State) (g : Fin 8) (next : Byte) (src : Addr) : Option (State × ProbeResult) :=
  if next = 0 then some (s, .ok)
  else if next = 1 then some (s.probeWatch g src)
  else if next = 2 then some (s.probeUnwatch g src)
  else if next = 3 then some (s.probeTakeLocal g)
  else if next = 4 then some (s.probeReturnRemote g)
  else none

/-- A PROBE-ANSWER frame (R101, R157). -/
def answerFrame (own dest : Addr) (seq : Byte) (r : ProbeResult) (value : Nat) (a : Authority) : Frame :=
  { dest := dest, src := own, kind := 0x25, seq := seq,
    payload := [r.code] ++ be16 (BitVec.ofNat 16 value) ++ [BitVec.ofNat 8 a.code] }

/-- The result of a probe: the next-state's BUSY or BAD-STATE, else NOTHING-PENDING, else OK (R101, step 5). -/
def probeResult (nextResult : ProbeResult) (nothing : Bool) : ProbeResult :=
  match nextResult with
  | .ok => if nothing then .nothingPending else .ok
  | r => r

/-- A GROUP-PROBE is taken and answered (R101). One whose SRC is 0xFFFF is worked, and its answer is not sent (R157; log 42). -/
def State.takeProbe (s : State) (src : Addr) (seq : Byte) (group data next : Byte) : State :=
  if s.active = false ∨ Config.noticePlaces ≤ s.gau.answers then { s with gau.ignoredProbes := bump32 s.gau.ignoredProbes }
  else if h : group.toNat < 8 then
    let g : Fin 8 := ⟨group.toNat, h⟩
    let q := s.group g
    if q.cfg.present then
      match q.probeValue data, s.probeNext g next src with
      | some (value, nothing), some (s1, r) =>
        let s2 := s1.sendAnswer (answerFrame s.address src seq (probeResult r nothing) value (s1.group g).authority)
        s2.regulate
      | _, _ => s.sendAnswer (answerFrame s.address src seq .badRequest 0 q.authority)
    else s.sendAnswer (answerFrame s.address src seq .noGroup 0 .released)
  else s.sendAnswer (answerFrame s.address src seq .noGroup 0 .released)

/-! ### Status mode and withdrawal (R90, R110, R111) -/

/-- Stage 3 of R89: a LOCAL status of a held group releases it with GROUP-WENT-LOCAL, and the mode is recorded (R90). -/
def State.workStatusMode (s : State) (g : Fin 8) (m : StatusMode) : State :=
  let q := s.group g
  let s1 :=
    if m = .localMode ∧ q.authority.isHeld = true then
      (s.releaseGroup g).raise .groupWentLocal g.val q.reported q.confirmed
    else s
  s1.modGroup g fun q => { q with mode := m }

/-- Stage 4 of R89: a withdrawing group at idle current is WITHDRAWN (R111). -/
def Group.workIdle (q : Group) : Group :=
  if q.withdrawal = .withdrawing ∧ q.reported ≤ q.cfg.idle then { q with withdrawal := .withdrawn } else q

/-- A report of low flow starts a withdrawal (R110). -/
def State.startWithdrawal (s : State) (g : Fin 8) : State :=
  let q := s.group g
  if q.withdrawal = .none then
    (s.modGroup g fun q => Group.withdrawWanted { q with withdrawal := .withdrawing }).raise .groupWithdrawn g.val q.reported q.flow
  else s

/-- A report of restored flow ends a withdrawal (R111). -/
def State.endWithdrawal (s : State) (g : Fin 8) : State := s.modGroup g fun q => { q with withdrawal := .none }

/-! ### The step timer (R93) -/

/-- A step counter counts down at a tick of its clock; a latch of 0 stops it (R93). `now` is the part time of the tick. -/
def Group.countDown (q : Group) (now : Nat) : Group :=
  if q.cfg.latch ≠ 0 ∧ now % q.cfg.clock.period = 0 then { q with stepCounter := q.stepCounter - 1 } else q

/-- The counter reaches 0: step-open is set and the counter reloaded (R93). -/
def Group.openStep (q : Group) : Group := { q with stepOpen := true, stepCounter := q.cfg.latch }

end Sys2Proof.Machine
end

