-- ==== Sys2Proof/Machine/Cooling.lean ====
section
/-! DEFINITION. The cooling unit (06_rectifier_cooling): the derating curve (R116), curve computation and capacity (R117 to R119),
station stages and cooler orders (R121 to R124); and the group steps that reach it: statuses (R89, R107, R108), staleness (R105,
R106), SET-FULL (R109), presence (R88). -/

namespace Sys2Proof.Machine

/-! ### The curve (R115, R116) -/

/-- The floor of a quotient rounded up. -/
def ceilDiv (a b : Nat) : Nat := (a + b - 1) / b

/-- The percentage on the segment from point `a` to the next point `b` (R116, step 3). -/
def segment (a b : CurvePoint) (t : Int) : Nat :=
  a.p - ceilDiv ((a.p - b.p) * (t - a.t).toNat) (b.t - a.t).toNat

/-- The percentage of the points from `a` on, at or above whose temperature `t` lies: the segment that holds `t`, or the last
point (R116, steps 2 and 3). -/
def curveFrom (t : Int) : CurvePoint → List CurvePoint → Nat
  | a, [] => a.p
  | a, b :: rest => if a.t ≤ t ∧ t < b.t then segment a b t else curveFrom t b rest

/-- The curve read at a temperature (R116). -/
def readCurve (curve : Vector CurvePoint 8) (t : Int) : Nat :=
  if t < curve[0].t then curve[0].p
  else if curve[7].t ≤ t then curve[7].p
  else curveFrom t curve[0] curve.toList.tail

/-- Temperatures do not fall and percentages do not rise from point to point (R115). -/
def curveOrdered : List CurvePoint → Bool
  | a :: b :: rest => decide (a.t ≤ b.t) && decide (b.p ≤ a.p) && curveOrdered (b :: rest)
  | _ => true

/-! ### Percentage and capacity (R117, R118) -/

/-- Teq of the cooling values recorded (R117, step 1). -/
def Group.equivalent (q : Group) : Int := max q.tout (q.tsink - q.cfg.sinkOffset)

/-- A curve computation (R117). -/
def Group.computeCurve (q : Group) : Group :=
  if q.flow < q.cfg.minFlow then { q with teq := some q.equivalent, flowLow := true, pct := 0 }
  else { q with teq := some q.equivalent, flowLow := false, pct := readCurve q.curve q.equivalent }

/-- pct_g of a status in BASIC form: the basic derate, or 0 while flow low is set (R117). -/
def Group.basicPct (q : Group) : Group := { q with pct := if q.flowLow then 0 else q.cfg.derate }

/-- Cap_g evaluated (R118). -/
def Group.evaluate (q : Group) (station : Nat) : Group :=
  { q with cap := if q.cfg.present ∧ q.stale ≠ .silent then q.cfg.rated * q.pct / 100 * station / 100 else 0 }

/-- Cap_g of group `g` evaluated (R118). In FORWARD-ONLY a capacity changes only by writes of present, which set it themselves, so that no
other evaluation is made there (R125, section 6.7; log 41). -/
def State.evaluateCap (s : State) (g : Fin 8) : State := if s.active then s.modGroup g fun q => q.evaluate s.clu.pct else s

/-- Cap_g of every group evaluated (R124, R125). -/
def State.evaluateAll (s : State) : State := (List.finRange 8).foldl State.evaluateCap s

/-- The sum of Cap_g over the present groups that are FRESH or HOLDING (R119, step 2). -/
def State.stationCapacity (s : State) : Nat :=
  ((List.finRange 8).map fun g =>
    if (s.group g).cfg.present && (s.group g).stale != .silent then (s.group g).cap else 0).sum

/-! ### Stage conditions (R121) -/

/-- A condition that holds keeps its start or starts now; one that fails has none (R121). -/
def since (holds : Bool) (old : Option Nat) (now : Nat) : Option Nat :=
  if holds then some (old.getD now) else none

/-- The largest of the temperatures, if any (R121). -/
def maxTemp : List Int → Option Int
  | [] => none
  | t :: ts =>
    match maxTemp ts with
    | none => some t
    | some u => some (max t u)

/-- The hottest temperature over the counted groups (R121). -/
def State.hottestNow (s : State) : Option Int :=
  maxTemp ((List.finRange 8).filterMap fun g => if (s.group g).counted then (s.group g).teq else none)

/-- The hottest temperature and the two stage conditions are re-evaluated (R121). -/
def State.evaluateStage (s : State) : State :=
  let c := { s.clu with hottest := s.hottestNow }
  { s with clu := { c with upSince := since c.upHolds c.upSince s.time, downSince := since c.downHolds c.downSince s.time } }

/-! ### Handing on (R119) -/

/-- Ic is formed, and the line regulator takes what has changed since `before` (R119, steps 2 and 3). -/
def State.handCapacity (s before : State) : State :=
  let s1 : State := { s with clu.ic := s.stationCapacity }
  let s2 := if s1.clu.ic = before.clu.ic then s1 else s1.takeCapacity
  s2.reallocate before

/-- The results of an evaluation are handed on: Ic, the line regulator, the station stage (R119, steps 2 to 4). -/
def State.handOn (s before : State) : State := (s.handCapacity before).evaluateStage

/-- A curve computation for group `g` with all it hands on (R117, R119). In FORWARD-ONLY the capacity that it reports on is the one that
stands (log 41). -/
def State.curveComputation (s : State) (g : Fin 8) : State :=
  let s1 := (s.modGroup g Group.computeCurve).evaluateCap g
  let q := s1.group g
  let s2 :=
    if q.flowLow then s1.startWithdrawal g
    else if 0 < q.cap then s1.endWithdrawal g
    else s1
  s2.handOn s

/-- pct_g of BASIC form and the evaluation, with all it hands on (R117, R119). -/
def State.basicComputation (s : State) (g : Fin 8) : State :=
  ((s.modGroup g Group.basicPct).evaluateCap g).handOn s

/-! ### Station percentage (R124) -/

/-- The counted stage and the station percentage formed (R124). -/
def Clu.rated (c : Clu) : Clu := { c with counted := c.countedStage, pct := c.percentage }

/-- Work the shortfall flag by the station percentage (R124). R124 enters the shortfall where the counted stage is below the wanted stage, and the
table of section 6.4 has the flag while pct_station is below 100. They part at a derate of 100: here the flag is not set then, and no event is
raised. DESIGN CHOICE (log 25). -/
def State.workShortfall (s : State) : State :=
  if s.clu.pct < 100 then
    if s.clu.shortfall then s
    else State.raise { s with clu.shortfall := true } .coolingShortfall 0 s.clu.wanted s.clu.counted
  else { s with clu.shortfall := false }

/-- Work the counted stage, the station percentage and the shortfall flag; a changed percentage evaluates every capacity and hands the
results on (R124, R119). R124 gives these no order among themselves: here the capacities and Ic are handed on, with CAPACITY-BELOW-FLOOR,
before COOLING-SHORTFALL is raised. DESIGN CHOICE (log 48). -/
def State.workPercentage (s : State) : State :=
  let s1 : State := { s with clu := s.clu.rated }
  State.workShortfall (if s1.clu.pct = s.clu.pct then s1 else s1.evaluateAll.handOn s)

/-! ### Cooler orders and stages (R121, R122) -/

/-- A COOLER-ORDER frame (R122, R157). -/
def coolerFrame (own dest : Addr) (seq : Byte) (stage : Nat) : Frame :=
  { dest := dest, src := own, kind := 0x40, seq := seq, payload := [BitVec.ofNat 8 stage] }

/-- A COOLER-ORDER for the wanted stage is decided (R122). -/
def State.orderStage (s : State) : State :=
  let c := s.clu
  let done := decide (c.running = c.wanted)
  let s1 : State := { s with clu :=
    { c with
      seq := c.seq + 1
      ordersSent := bump32 c.ordersSent
      confirmation := if done then .confirmed else .awaiting
      confirmEnd := if done then none else some (s.time + 60000) } }
  s1.sendCoolerOrder (coolerFrame s.address s.meu.cooler c.seq c.wanted)

/-- The wanted stage changes: the order, the station percentage, and the stage conditions afresh (R121, R122, R124). -/
def State.changeStage (s : State) (wanted : Nat) : State :=
  let s1 : State := { s with clu := { s.clu with wanted := wanted, upSince := none, downSince := none } }
  s1.orderStage.workPercentage.evaluateStage.regulate

/-- The confirmation after a good status (R123). -/
def Clu.confirm (c : Clu) (now : Nat) : Clu :=
  if c.running = c.wanted then { c with confirmation := .confirmed, confirmEnd := none }
  else if c.confirmation = .confirmed then { c with confirmation := .awaiting, confirmEnd := some (now + 60000) }
  else c

/-- A COOLER-STATUS (R123; log 35). -/
def State.takeCoolerStatus (s : State) (src : Addr) (running available : Byte) : State :=
  if s.active then
    if src ≠ s.meu.cooler then { s with clu.unmatched := bump32 s.clu.unmatched }
    else if 4 < running.toNat ∨ 4 < available.toNat then { s with clu.badStatus := bump32 s.clu.badStatus }
    else
      let c := { s.clu with statusTime := some s.time, running := running.toNat, available := available.toNat }
      (State.workPercentage { s with clu := c.confirm s.time }).regulate
  else s

/-- The confirm end is reached while AWAITING (R123). -/
def State.coolerFails (s : State) : State :=
  let s1 : State := { s with clu := { s.clu with confirmation := .failed, confirmEnd := none } }
  (s1.raise .coolerNoResponse 0 s.clu.wanted s.clu.running).workPercentage.regulate

/-! ### Group statuses (R89, R107, R108) -/

/-- The cooling values and the echo of a full status (R89). -/
structure FullStatus where
  echo : Nat
  tout : Int
  tsink : Int
  flow : Nat
  deriving DecidableEq, Repr

/-- Stage 1 of R89: the last status time, FRESH, status since order. -/
def Group.refresh (q : Group) (now : Nat) : Group :=
  { q with lastStatus := some now, stale := .fresh, statusSince := true }

/-- Stage 2 of R89 for a full status. -/
def Group.recordFull (q : Group) (current tap : Nat) (v : FullStatus) : Group :=
  { q with
    reported := current, tap := tap, echo := v.echo, tout := v.tout, tsink := v.tsink, flow := v.flow, latestForm := .full
    counters.echoMismatch :=
      if q.authority.settled ∧ v.echo ≠ q.confirmed then bump32 q.counters.echoMismatch else q.counters.echoMismatch }

/-- The fallback takes a pending order as confirmed (R107). -/
def State.confirmPending (s : State) (g : Fin 8) : State :=
  match (s.group g).order with
  | none => s
  | some o =>
    (s.modGroup g fun q =>
      { q with confirmed := o.setpoint, order := none, authority := q.authority.fromPending, streak := 0 }).notify g

/-- Stage 2 of R89 for a short status without full-form lock (R107). -/
def State.recordShort (s : State) (g : Fin 8) (current tap : Nat) : State :=
  let q := s.group g
  let s1 := s.modGroup g fun q => { q with reported := current, tap := tap, latestForm := .short }
  match q.form with
  | .basic => s1.basicComputation g
  | .full =>
    let s2 := (s1.modGroup g fun q => { q with form := .basic }).raise .groupFallback g.val current q.confirmed
    (s2.basicComputation g).confirmPending g

/-- Stage 2 of R89 for a short status under full-form lock (R108). -/
def Group.recordLocked (q : Group) (current : Nat) : Group :=
  { q with reported := current, counters.shortWhileLocked := bump32 q.counters.shortWhileLocked }

/-- Stages 1 and 2 of R89, with what the cooling unit does at once for a short status. -/
def State.recordStatus (s : State) (g : Fin 8) (current tap : Nat) (full : Option FullStatus) : State :=
  let s1 := s.modGroup g fun q => q.refresh s.time
  match full with
  | some v => s1.modGroup g fun q => q.recordFull current tap v
  | none =>
    if (s.group g).cfg.lock then s1.modGroup g fun q => q.recordLocked current
    else s1.recordShort g current tap

/-- Stage 5 of R89: a curve computation for a full status in FULL form, the basic derate for one in BASIC form (R117); a short
status under lock that has made the group FRESH evaluates its capacity (R118; log 24). -/
def State.coolStatus (s : State) (g : Fin 8) (wasFresh : Bool) (full : Option FullStatus) : State :=
  match full, (s.group g).form with
  | some _, .full => s.curveComputation g
  | some _, .basic => s.basicComputation g
  | none, _ => if (s.group g).cfg.lock && !wasFresh then (s.evaluateCap g).handOn s else s

/-- The mode of a status code (R157). -/
def statusMode (code : Byte) : Option StatusMode :=
  if code = 1 then some .remote else if code = 2 then some .localMode else none

/-- A good status of group `g` in its stages (R89), then the autoclaim (R92) and the orders that are due (R94). -/
def State.workStatus (s : State) (g : Fin 8) (m : StatusMode) (current tap : Nat) (full : Option FullStatus) : State :=
  let q := s.group g
  let s1 := s.recordStatus g current tap full
  let s2 := (s1.workStatusMode g m).modGroup g Group.workIdle
  let s3 := s2.coolStatus g (q.stale == .fresh) full
  let s4 := if q.mode = .localMode ∧ m = .remote then s3.autoclaim g else s3
  (s4.reallocate s).regulate

/-- A GROUP-STATUS, full or short (R89). -/
def State.takeStatus (s : State) (src : Addr) (mode : Byte) (current : Half) (tap : Byte) (full : Option FullStatus) : State :=
  if s.active then
    match s.groupAt src with
    | none => { s with gau.unmatchedStatus := bump32 s.gau.unmatchedStatus }
    | some g =>
      match statusMode mode with
      | some m =>
        if 1 ≤ tap.toNat ∧ tap.toNat ≤ 35 then s.workStatus g m current.toNat tap.toNat full
        else s.modGroup g fun q => { q with counters.badStatus := bump16 q.counters.badStatus }
      | none => s.modGroup g fun q => { q with counters.badStatus := bump16 q.counters.badStatus }
  else s

/-! ### Staleness (R105, R106) -/

/-- A FRESH group becomes HOLDING (R105, R118; log 24). -/
def State.holdGroup (s : State) (g : Fin 8) : State :=
  let s1 := (s.modGroup g fun q => { q with stale := .holding }).evaluateCap g
  ((s1.handOn s).reallocate s).regulate

/-- A HOLDING group becomes SILENT, loses its capacity and is released (R106). -/
def State.silenceGroup (s : State) (g : Fin 8) : State :=
  let q := s.group g
  let s1 := ((s.modGroup g fun q => { q with stale := .silent }).evaluateCap g).handOn s
  let s2 := if q.authority.isHeld then (s1.releaseGroup g).raise .groupSilent g.val q.confirmed 30 else s1
  (s2.reallocate s).regulate

/-! ### SET-FULL and presence (R109, R88) -/

/-- A BASIC group returns to FULL form, with a curve computation in every part mode (R109, R117). In FORWARD-ONLY, which R109 and R117 do not
name, pct_g is computed and Cap_g stands, as section 6.7 says (log 41). -/
def State.setFull (s : State) (g : Fin 8) : State :=
  (((s.modGroup g fun q => { q with form := .full }).curveComputation g).reallocate s).regulate

/-- A group becomes present (R88, R114). -/
def Group.appear (q : Group) : Group :=
  { q with
    cfg.present := true, authority := .released, stale := .silent, lastStatus := none, watcher := none, form := .full
    withdrawal := .none, stepCounter := q.cfg.latch, stepOpen := false, pct := 100, flowLow := false, teq := none, cap := 0 }

/-- A group stops being present (R88, R114). -/
def Group.vanish (q : Group) : Group := { q with cfg.present := false, stale := .silent, cap := 0 }

/-- A write of present that changes it, with the capacity handed on (R88, R118, R119). -/
def State.changePresence (s : State) (g : Fin 8) (present : Bool) : State :=
  let s1 := (s.modGroup g fun q => if present then q.appear else q.vanish).evaluateCap g
  ((s1.handOn s).reallocate s).regulate

end Sys2Proof.Machine
end

