-- ==== Sys2Proof/Machine/Effects.lean ====
section
/-! DEFINITION. The anode effect unit (03_anode_effects): pot orders as both units decide them (R31, R32), the AE count (R56), the
AE log and trace store (R58, R59, R61), AE energy (R63), quench orders (R47, R53), the work of a reading (R44 to R55), forced
closing (R57) and the answers to QUENCH orders (R50, R51). -/

namespace Sys2Proof.Machine

/-! ### Pot orders (R31, R32) -/

/-- A POT-ORDER frame (R31, R157). -/
def potOrderFrame (own dest : Addr) (seq : Byte) (slot : Nat) (k : OrderKind) : Frame :=
  { dest := dest, src := own, kind := 0x30, seq := seq, payload := [BitVec.ofNat 8 slot, BitVec.ofNat 8 k.code] }

/-- An order of kind `k` is decided for pot `p`: it becomes the outstanding order and its frame goes to the send list. While the
order address is absent no order can be sent (R31, R32, section 1.4). -/
def State.decidePotOrder (s : State) (p : Fin 384) (k : OrderKind) : State :=
  match (s.pot p).orderAddress with
  | none => s
  | some (node, slot) =>
    let seq := s.psu.seq
    let o : PotOrder := { kind := k, seq := seq, sent := s.time, dest := node, slot := slot, unsent := true }
    let s1 := s.modPot p fun q => { q with order := some o }
    State.sendPotOrder { s1 with psu.seq := seq + 1 } p (potOrderFrame s.address node seq slot k)

/-- An outstanding advice of the pot is cancelled, and the band dwell count becomes 0 (R37). -/
def State.cancelAdvice (s : State) (p : Fin 384) : State :=
  match (s.pot p).order with
  | some o => if o.kind.advice then (s.dropPotOrder p).modPot p fun q => { q with dwell := 0 } else s
  | none => s

/-- An outstanding QUENCH order of the pot is cancelled (R53, R54). -/
def State.cancelQuench (s : State) (p : Fin 384) : State :=
  match (s.pot p).order with
  | some o => if o.kind.advice then s else s.dropPotOrder p
  | none => s

/-! ### AE count (R56) -/

/-- The AE count changes, and the AE hold follows it (R56, R75). -/
def State.setAeCount (s : State) (n : Nat) : State := State.workAeHold { s with aeu.count := n }

/-! ### AE log (R58, R59) -/

/-- The places of the log that no record holds, lowest first (R58). -/
def Aeu.freePlaces (u : Aeu) : List Nat :=
  (List.range Config.logPlaces).filter fun pl => !u.log.any fun r => r.place == pl

/-- A new OPEN record of the pot's effect (R58). -/
def newRecord (pl : Nat) (p : Fin 384) (q : Pot) : AeRecord :=
  { place := pl, pot := p, onsetDay := q.fx.onsetDay, onsetMs := q.fx.onsetMs, vnorm := q.fx.vnorm }

/-- Place a new record of pot `p`'s effect: a free place, or that of the oldest CLOSED record, whose runs are freed, or none
(R58). The result is the place taken. -/
def Aeu.place (u : Aeu) (p : Fin 384) (q : Pot) : Aeu × Option Nat :=
  if u.log.length < Config.logPlaces then
    match u.freePlaces with
    | pl :: _ => ({ u with log := u.log ++ [newRecord pl p q] }, some pl)
    | [] => ({ u with counters.unlogged := bump32 u.counters.unlogged }, none)
  else
    match u.log.find? (·.closed) with
    | some old =>
      ({ u with
          log := u.log.eraseP (·.closed) ++ [newRecord old.place p q]
          trace := u.trace.filter fun r => r.place != old.place }, some old.place)
    | none => ({ u with counters.unlogged := bump32 u.counters.unlogged }, none)

/-- The record of pot `p`'s effect is closed with the pot's duration and a cause, and the pot names no record any more (R59). What
is left below one Wh is dropped, and the persistent flag, which stands until the effect is closed, is cleared (log 19). The record's
duration stops at 32 bits, and the pot's has no bound (log 7). -/
def State.closeRecord (s : State) (p : Fin 384) (cause : EndCause) : State :=
  let q := s.pot p
  let s1 := s.modOpenRecord p fun r =>
    { r with closed := true, duration := min q.fx.duration 4294967295, endCause := some cause }
  s1.modPot p fun q => { q with logIndex := none, fx.energyRemainder := 0, fx.persistent := false }

/-! ### Trace store (R61) -/

/-- The level of a voltage (section 3.4). -/
def levelOf (vp : Nat) : Nat := min (vp / 250) 255

/-- The last run of a place takes one more reading of its level; absent when a new run is needed (R61). -/
def extendLast (pl level : Nat) : List Run → Option (List Run)
  | [] => none
  | r :: rest =>
    if rest.any fun x => x.place == pl then (extendLast pl level rest).map (r :: ·)
    else if r.place = pl ∧ r.level = level ∧ r.count < 255 then some ({ r with count := r.count + 1 } :: rest)
    else none

/-- The first run is removed from a full store, and its record is marked (R61). -/
def Aeu.discardFirst (u : Aeu) : Aeu :=
  if u.trace.length < Config.storeRuns then u
  else
    match u.trace with
    | [] => u
    | r :: rest =>
      { u with
        trace := rest
        log := u.log.map fun x => if x.place = r.place then { x with runCount := x.runCount - 1, truncated := true } else x
        counters.discardedRuns := bump32 u.counters.discardedRuns }

/-- The record of place `pl` counts an entered reading of voltage `vp`, in a new run or not (R61, R59). -/
def AeRecord.enter (vp : Nat) (fresh : Bool) (r : AeRecord) : AeRecord :=
  { r with peak := max r.peak vp, runCount := if fresh then r.runCount + 1 else r.runCount }

/-- A reading of voltage `vp` is entered in the trace of the record at place `pl` (R61). One that finds the record full counts as a
sample only (log 18). -/
def Aeu.enterTrace (u : Aeu) (pl vp : Nat) : Aeu :=
  let mapAt (f : AeRecord → AeRecord) (l : List AeRecord) := l.map fun r => if r.place = pl then f r else r
  let u1 : Aeu := { u with log := mapAt (fun r => { r with samples := min (r.samples + 1) 65535 }) u.log }
  match extendLast pl (levelOf vp) u1.trace with
  | some t => { u1 with trace := t, log := mapAt (AeRecord.enter vp false) u1.log }
  | none =>
    if u1.log.any fun r => r.place == pl && decide (Config.recordRuns ≤ r.runCount) then
      { u1 with log := mapAt (fun r => { r with truncated := true }) u1.log }
    else
      let u2 := u1.discardFirst
      { u2 with
        trace := u2.trace ++ [{ place := pl, level := levelOf vp, count := 1 }]
        log := mapAt (AeRecord.enter vp true) u2.log }

/-- A reading of pot `p` is entered in the trace of its effect's record, if the effect has one (R52, R54). -/
def State.traceReading (s : State) (p : Fin 384) (vp : Nat) : State :=
  match (s.pot p).logIndex with
  | none => s
  | some pl => { s with aeu := s.aeu.enterTrace pl vp }

/-! ### AE energy (R63) -/

/-- A reading that leaves the pot ACTIVE or QUENCHING adds AE energy (R63). It is worked before stage 5 of R10, so the last sample
time is that of the reading before. -/
def State.addAeEnergy (s : State) (p : Fin 384) (vp : Nat) : State :=
  let q := s.pot p
  if q.ae.counted ∧ q.fx.vnorm < vp then
    let dt := min (s.time - q.lastTime) 5000
    let sum := q.fx.energyRemainder + (vp - q.fx.vnorm) * s.line.il * dt
    let wh := sum / 360000000
    let s1 := s.modPot p fun q => { q with fx.energyRemainder := sum % 360000000 }
    let s2 := s1.modOpenRecord p fun r => { r with energy := add32 r.energy wh }
    { s2 with egu.slot.aeEnergy := add32 s2.egu.slot.aeEnergy wh }
  else s

/-! ### Quench orders and persistence (R47, R53) -/

/-- A QUENCH order is decided: attempts and counts, QUENCHING, and the quench timeout (R47, R53). -/
def State.decideQuench (s : State) (p : Fin 384) : State :=
  let s1 := s.decidePotOrder p .quench
  let s2 := s1.modPot p fun q =>
    { q with
      attempts := q.attempts + 1, ae := .quenching, fx.quenchDue := none
      fx.quenchTimeout := some (s.time + s.line.ae.tqx * 1000) }
  let s3 := s2.modOpenRecord p fun r => { r with ordersSent := r.ordersSent + 1 }
  { s3 with aeu.counters.quenchSent := bump32 s3.aeu.counters.quenchSent }

/-- The conditions of R47, and an order address to send to (log 37). -/
def State.quenchReady (s : State) (q : Pot) : Bool :=
  q.ae == .active && (match q.fx.quenchDue with | none => false | some t => decide (t ≤ s.time)) && q.cfg.autoQuench
    && !q.fx.persistent && s.supervising && q.orderAddress.isSome

/-- A QUENCH order is decided if the last of its conditions has come to hold (R47). -/
def State.tryQuench (s : State) (p : Fin 384) : State :=
  if s.quenchReady (s.pot p) then s.decideQuench p else s

/-- The AE duration with the span up to now while the pot is in the AE count. -/
def State.effectDuration (s : State) (q : Pot) : Nat :=
  if q.ae.counted then q.fx.duration + (s.time - q.fx.spanStart) else q.fx.duration

/-- The persistent flag is set, with its event and counter (R53). -/
def State.setPersistent (s : State) (p : Fin 384) : State :=
  let s1 := s.modPot p fun q => { q with fx.persistent := true, fx.quenchTimeout := none }
  let s2 := s1.modOpenRecord p fun r => { r with persistent := true }
  let s3 : State := { s2 with aeu.counters.persistent := bump32 s2.aeu.counters.persistent }
  s3.raise .aePersistent p.val (s.pot p).attempts (sat16 (s.effectDuration (s.pot p) / 1000))

/-- The quench timeout of a QUENCHING pot is reached (R53). -/
def State.quenchExpires (s : State) (p : Fin 384) : State :=
  let q := s.pot p
  if 2 ≤ q.attempts then (s.cancelQuench p).setPersistent p
  else if q.cfg.autoQuench ∧ s.supervising = true ∧ q.orderAddress.isSome then (s.cancelQuench p).decideQuench p
  else s.modPot p fun q => { q with fx.quenchTimeout := some (s.time + s.line.ae.tqx * 1000) }

/-! ### Ends of an effect (R54, R57) -/

/-- AE-END of the pot's effect (R54). -/
def State.raiseAeEnd (s : State) (p : Fin 384) (cause : EndCause) : State :=
  s.raise .aeEnd p.val (sat16 ((s.pot p).fx.duration / 1000)) cause.code

/-- The clear end of a CLEARING pot is reached (R54). -/
def State.effectEnds (s : State) (p : Fin 384) : State :=
  let q := s.pot p
  let cause : EndCause := if 1 ≤ q.attempts ∨ q.localQuench then .quenched else .selfCleared
  let s1 := s.modPot p fun q => { q with ae := .quiet, fx.clearEnd := none }
  ((s1.closeRecord p cause).cancelQuench p).raiseAeEnd p cause

/-- QUIET, with every AE timer absent (R57, step 4). -/
def Pot.quieted (q : Pot) : Pot :=
  { q with ae := .quiet, fx.qualificationEnd := none, fx.quenchDue := none, fx.quenchTimeout := none, fx.clearEnd := none }

/-- The AE duration takes the span up to now and the AE count falls, as the pot leaves ACTIVE or QUENCHING (R52, R57). -/
def State.endSpan (s : State) (p : Fin 384) : State :=
  let s1 := s.modPot p fun q => { q with fx.duration := q.fx.duration + (s.time - q.fx.spanStart) }
  s1.setAeCount (s.aeu.count - 1)

/-- An open effect of the pot is closed by force; a SUSPECT pot becomes QUIET; a QUIET pot is left as it is (R57). -/
def State.forceClose (s : State) (p : Fin 384) (cause : EndCause) : State :=
  match (s.pot p).ae with
  | .quiet => s
  | .suspect => s.modPot p Pot.quieted
  | .clearing => ((s.closeRecord p cause).raiseAeEnd p cause).modPot p Pot.quieted
  | _ => (((s.endSpan p).closeRecord p cause).raiseAeEnd p cause).modPot p Pot.quieted

/-! ### The work of a reading (R44 to R55) -/

/-- A reading above Vmax: counted and reported, with the AE state that it finds (R44, R55; log 20). -/
def State.measurementFault (s : State) (p : Fin 384) (vp : Nat) : State :=
  let code := (s.pot p).ae.code
  (s.modPot p fun q => { q with faults := bump16 q.faults }).raise .measurementFault p.val vp code

/-- A QUIET pot's reading at or above the onset threshold enters SUSPECT (R44, R37). -/
def State.onset (s : State) (p : Fin 384) (vp : Nat) : State :=
  let s1 := s.modPot p fun q =>
    { q with
      ae := .suspect
      dwell := 0
      fx := { q.fx with
        onsetTime := s.time, onsetDay := s.stamp.1, onsetMs := s.stamp.2, onsetVoltage := vp, vnorm := q.fx.quietVoltage
        qualificationEnd := some (s.time + s.line.ae.tq * 1000) } }
  s1.cancelAdvice p

/-- The effect's fields as it opens (R46, step 1). -/
def Pot.opened (q : Pot) (now : Nat) : Pot :=
  { q with
    ae := .active, attempts := 0, localQuench := false
    fx := { q.fx with
      persistent := false, duration := 0, energyRemainder := 0, spanStart := now, qualificationEnd := none } }

/-- A second high reading opens an anode effect (R46). -/
def State.confirmOnset (s : State) (p : Fin 384) (vp : Nat) : State :=
  let s1 := s.modPot p fun q => q.opened s.time
  let s2 := s1.setAeCount (s1.aeu.count + 1)
  let placed := s2.aeu.place p (s2.pot p)
  let s3 : State := { s2 with aeu := { placed.1 with counters.onsets := bump32 placed.1.counters.onsets } }
  let s4 := s3.modPot p fun q => { q with logIndex := placed.2 }
  let s5 := (s4.traceReading p (s4.pot p).fx.onsetVoltage).traceReading p vp
  let s6 := s5.modPot p fun q => { q with fx.quenchDue := some (s.time + q.cfg.tqd * 1000) }
  let s7 := (s6.tryQuench p).raise .aeOnset p.val vp (s6.pot p).fx.vnorm
  s7.addAeEnergy p vp

/-- A reading of a SUSPECT pot (R45). -/
def State.workSuspect (s : State) (p : Fin 384) (vp : Nat) : State :=
  let quiet := s.modPot p fun q => { q with ae := .quiet, fx.qualificationEnd := none }
  if s.line.ae.vmax < vp then
    (quiet.modPot p fun q => { q with faults := bump16 q.faults }).raise .measurementFault p.val vp AeState.suspect.code
  else if s.onsetThreshold (s.pot p) ≤ vp then s.confirmOnset p vp
  else quiet.modPot p fun q => { q with glitches := bump16 q.glitches, fx.quietVoltage := vp }

/-- An ACTIVE or QUENCHING pot's reading below Vclr enters CLEARING (R52). The record's duration stops at 32 bits (log 7). -/
def State.beginClearing (s : State) (p : Fin 384) (vp : Nat) : State :=
  let s1 := (s.endSpan p).modPot p fun q =>
    { q with
      ae := .clearing
      fx := { q.fx with quenchDue := none, quenchTimeout := none, clearEnd := some (s.time + s.line.ae.tclr * 1000) } }
  let s2 := s1.modOpenRecord p fun r => { r with duration := min (s1.pot p).fx.duration 4294967295 }
  s2.traceReading p vp

/-- A CLEARING pot's reading at or above the onset threshold relapses (R54). -/
def State.relapse (s : State) (p : Fin 384) (vp : Nat) : State :=
  let s1 := s.modPot p fun q =>
    let fx := { q.fx with clearEnd := none, spanStart := s.time }
    if 1 ≤ q.attempts ∨ q.localQuench then
      { q with
        ae := .quenching
        fx := { fx with quenchTimeout := if q.fx.persistent then none else some (s.time + s.line.ae.tqx * 1000) } }
    else { q with ae := .active, fx := { fx with quenchDue := some (s.time + q.cfg.tqd * 1000) } }
  let s2 := s1.modOpenRecord p fun r => { r with relapses := min (r.relapses + 1) 255 }
  let s3 := (s2.setAeCount (s2.aeu.count + 1)).tryQuench p
  (s3.traceReading p vp).addAeEnergy p vp

/-- The anode effect unit works a computable reading of a STARTING or RUNNING pot (R43 to R45, R52, R54, R55). A reading above Vmax
is a measurement fault in every state, whatever the onset threshold in force (log 17). -/
def State.workEffect (s : State) (p : Fin 384) (vp : Nat) : State :=
  let q := s.pot p
  match q.ae with
  | .suspect => s.workSuspect p vp
  | .quiet =>
    if s.line.ae.vmax < vp then s.measurementFault p vp
    else if s.onsetThreshold q ≤ vp then s.onset p vp
    else s.modPot p fun q => { q with fx.quietVoltage := vp }
  | .clearing =>
    if s.line.ae.vmax < vp then s.measurementFault p vp
    else if vp < s.line.ae.vclr then s.traceReading p vp
    else if vp < s.onsetThreshold q then
      (s.modPot p fun q => { q with fx.clearEnd := some (s.time + s.line.ae.tclr * 1000) }).traceReading p vp
    else s.relapse p vp
  | _ =>
    if s.line.ae.vmax < vp then s.measurementFault p vp
    else if vp < s.line.ae.vclr then s.beginClearing p vp
    else (s.traceReading p vp).addAeEnergy p vp

/-- The qualification end is reached with the pot still SUSPECT (R45). -/
def Pot.glitch (q : Pot) : Pot :=
  { q with ae := .quiet, glitches := bump16 q.glitches, fx.qualificationEnd := none }

/-! ### The pot node's claim (R48, R49) -/

/-- A FEED marker of an ACTIVE or QUENCHING pot (R48, R49). -/
def State.takeFeed (s : State) (p : Fin 384) : State :=
  let s1 := s.modPot p fun q =>
    match q.ae with
    | .active =>
      { q with
        ae := .quenching, localQuench := true
        fx := { q.fx with quenchDue := none, quenchTimeout := some (s.time + s.line.ae.tqx * 1000) } }
    | _ => { q with localQuench := true }
  s1.modOpenRecord p fun r => { r with localQuench := true }

/-! ### Answers to QUENCH orders (R50, R51) -/

/-- TAKEN (R50). -/
def State.quenchTaken (s : State) (p : Fin 384) : State :=
  let s1 := (s.dropPotOrder p).modOpenRecord p fun r => { r with quenchTaken := r.quenchTaken + 1 }
  { s1 with aeu.counters.quenchTaken := bump32 s1.aeu.counters.quenchTaken }

/-- A declined QUENCHING pot returns to ACTIVE with a new quench due after its first attempt, or is persistent (R51). -/
def State.afterDecline (s : State) (p : Fin 384) : State :=
  let q := s.pot p
  if q.ae = .quenching ∧ 2 ≤ q.attempts then s.setPersistent p
  else if q.ae = .quenching ∧ q.attempts = 1 then
    (s.modPot p fun q =>
      { q with ae := .active, fx := { q.fx with quenchTimeout := none, quenchDue := some (s.time + q.cfg.tqd * 1000) } }).tryQuench p
  else s

/-- DECLINED (R51). -/
def State.quenchDeclined (s : State) (p : Fin 384) (seq : Byte) : State :=
  let s1 := (s.dropPotOrder p).modOpenRecord p fun r => { r with declines := r.declines + 1 }
  let s2 : State := { s1 with aeu.counters.quenchDeclined := bump32 s1.aeu.counters.quenchDeclined }
  (s2.raise .quenchDeclined p.val (s.pot p).attempts seq.toNat).afterDecline p

end Sys2Proof.Machine
end

