-- ==== Sys2Proof/Machine/Pots.lean ====
section
/-! DEFINITION. The section map and the pot supervision unit (01_pot_intake, 02_pot_resistance): windows and translation (R1 to R3),
supervision states (R7 to R15), markers (R16 to R19), resistance, filters, band and dwell (R23 to R29), advice (R30 to R37), pot
answers (R33 to R38), LOST (R12). -/

namespace Sys2Proof.Machine

/-! ### Supervision states (R7, R9, R12) -/

/-- What every entry into STARTING does to the record (R7). -/
def Pot.enterStarting (q : Pot) : Pot :=
  { q with
    sup := .starting, startingCount := 0, rf := 0, nf := 0, band := .within, noisy := false, dwell := 0, parked := none }

/-- Enabling an UNCONFIGURED pot (R8). -/
def State.enablePot (s : State) (p : Fin 384) : State :=
  if (s.pot p).sup = .unconfigured then
    s.modPot p fun q => { q.enterStarting with cfg.enabled := true, lastTime := s.time }
  else s

/-- Disabling a pot: its effect closed, its order cancelled (R9, R37). -/
def State.disablePot (s : State) (p : Fin 384) : State :=
  if (s.pot p).sup = .unconfigured then s
  else
    (((s.forceClose p .unconfigured).cancelAdvice p).dropPotOrder p).modPot p fun q =>
      { q with cfg.enabled := false, sup := .unconfigured, inhibitUntil := none, parked := none }

/-- A silent pot enters LOST (R12). -/
def State.losePot (s : State) (p : Fin 384) : State :=
  let s1 := ((s.forceClose p .noData).dropPotOrder p).modPot p fun q => { q with sup := .lost, dwell := 0 }
  s1.raise .potLost p.val (s1.pot p).lastVoltage 0

/-! ### Readings -/

/-- A reading handed to PSU (R2). Its arrival time is the part time. -/
structure Reading where
  vp : Nat
  marker : Byte
  src : Addr
  slot : Nat
  deriving DecidableEq, Repr

/-- The resistance of R23 with its LOW-V and SAT flags. -/
def resistance (vb il vp : Nat) : Nat × Bool × Bool :=
  if vp ≤ vb then (0, true, false)
  else
    let r := ((vp - vb) * 100000 + il / 2) / il
    if 250000 < r then (250000, false, true) else (r, false, false)

/-- A filter's step from `old` toward `new` with a shift: toward zero, and at least one while they differ (R25, R26). -/
def filterStep (old new shift : Nat) : Nat :=
  if old < new then old + max 1 ((new - old) / 2 ^ shift)
  else if new < old then old - max 1 ((old - new) / 2 ^ shift)
  else old

/-- The filters of a computed reading: primed, set by TAP, held or stepped (R25 to R27). -/
def Pot.stepFilters (q : Pot) (r : Nat) (tap : Bool) : Pot :=
  if q.sup = .starting ∧ q.startingCount = 0 then { q with rf := r, nf := 0 }
  else if tap then { q with rf := r, nf := filterStep q.nf (distance r q.rf) q.cfg.kn }
  else if q.ae ≠ .quiet then q
  else { q with rf := filterStep q.rf r q.cfg.k, nf := filterStep q.nf (distance r q.rf) q.cfg.kn }

/-- A computed reading is held: the AE state is not QUIET and the reading neither primes nor taps (R27). -/
def Pot.holds (q : Pot) (tap : Bool) : Bool :=
  q.ae != .quiet && !tap && !(q.sup == .starting && q.startingCount == 0)

/-- The band and NOISY are classified (R28). -/
def Pot.classify (q : Pot) : Pot :=
  { q with band := classifyBand q.cfg q.rf, noisy := decide (q.cfg.nlim < q.nf) }

/-- The band dwell count of a RUNNING pot, from the condition before the classification (R29). -/
def Pot.workDwell (q : Pot) (before : AdviceCondition) : Pot :=
  if q.sup = .running then
    { q with dwell := if adviceCondition q.band q.noisy = before then min (q.dwell + 1) 255 else 1 }
  else q

/-- The first part of R11 on the record: resistance, filters, band, dwell. -/
def Pot.compute (q : Pot) (il vp : Nat) (tap : Bool) : Pot :=
  let r := resistance q.cfg.vb il vp
  let q1 := { q with lastResistance := r.1, lowV := r.2.1, sat := r.2.2 }
  if q1.holds tap then q1
  else ((q1.stepFilters r.1 tap).classify).workDwell (adviceCondition q.band q.noisy)

/-- The advice that R30 decides for the record, if any. -/
def State.adviceFor (s : State) (q : Pot) : Option OrderKind :=
  if q.sup = .running ∧ q.cfg.advice = true ∧ q.ae = .quiet ∧ q.inhibited s.time = false ∧ q.order = none
      ∧ s.supervising = true ∧ q.cfg.nd ≤ q.dwell then
    (adviceCondition q.band q.noisy).order
  else none

/-- The advice-sent counter of a kind (R31, R40). -/
def PsuCounters.sent (c : PsuCounters) : OrderKind → PsuCounters
  | .raise => { c with raiseSent := bump32 c.raiseSent }
  | .lower => { c with lowerSent := bump32 c.lowerSent }
  | .check => { c with checkSent := bump32 c.checkSent }
  | .quench => c

/-- An advice is decided for pot `p` when R30 holds (R30, R31). -/
def State.decideAdvice (s : State) (p : Fin 384) : State :=
  match s.adviceFor (s.pot p) with
  | none => s
  | some k =>
    if (s.pot p).orderAddress.isSome then
      State.decidePotOrder { s with psu.counters := s.psu.counters.sent k } p k
    else s

/-- In STARTING the starting count is incremented, and at 10 the pot enters RUNNING (R11). -/
def Pot.countStarting (q : Pot) : Pot :=
  if q.sup = .starting then
    { q with startingCount := q.startingCount + 1, sup := if 10 ≤ q.startingCount + 1 then .running else .starting }
  else q

/-- A computable reading of a STARTING or RUNNING pot (R11). -/
def State.workComputable (s : State) (p : Fin 384) (vp : Nat) (tap : Bool) : State :=
  let s1 := s.modPot p fun q => q.compute s.line.il vp tap
  -- a held reading decides no advice: its AE state is not QUIET (R27, R30)
  ((s1.decideAdvice p).workEffect p vp).modPot p Pot.countStarting

/-- Stage 4 of R10: the reading is worked in the state the marker has left (R11, R14, R15, R21). -/
def State.workReading (s : State) (p : Fin 384) (r : Reading) : State :=
  let q := s.pot p
  match q.sup with
  | .starting | .running =>
    if s.computable then s.workComputable p r.vp (r.marker == 4)
    else s.modPot p fun q => { q with staleCurrent := bump16 q.staleCurrent }
  | .bypassing => if r.vp < 1000 then s.modPot p fun q => { q with parked := some r.vp, sup := .bypassed } else s
  | .bypassed =>
    match q.parked with
    | none => s
    | some v =>
      if 500 < distance r.vp v then (s.modPot p Pot.enterStarting).raise .unannouncedCutIn p.val r.vp v else s
  | _ => s

/-! ### Markers (R16 to R19) -/

/-- An ignored marker (R16). -/
def Pot.ignoreMarker (q : Pot) : Pot := { q with ignoredMarkers := bump16 q.ignoredMarkers }

/-- ANODE-CHANGE or BEAM-RAISE (R17). -/
def State.startInhibit (s : State) (p : Fin 384) : State :=
  s.modPot p fun q =>
    { q with inhibitUntil := if s.line.inhibitTime = 0 then none else some (s.time + s.line.inhibitTime * 1000) }

/-- CUT-OUT on a STARTING or RUNNING pot (R19). -/
def State.cutOut (s : State) (p : Fin 384) : State :=
  ((s.forceClose p .bypassed).dropPotOrder p).modPot p fun q =>
    { q with sup := .bypassing, inhibitUntil := none, dwell := 0, parked := none }

/-- Stage 3 of R10: the marker is taken by the table of section 1.6. -/
def State.takeMarker (s : State) (p : Fin 384) (m : Byte) : State :=
  let q := s.pot p
  let ignore := s.modPot p Pot.ignoreMarker
  if m = 0 then s
  else if q.sup.worked then
    if m = 1 then if q.ae.counted then s.takeFeed p else ignore
    else if m = 2 ∨ m = 3 then s.startInhibit p
    else if m = 4 then (s.modPot p fun q => { q with dwell := 0 }).cancelAdvice p
    else if m = 5 then s.cutOut p
    else ignore
  else if m = 6 ∧ (q.sup = .bypassing ∨ q.sup = .bypassed) then s.modPot p Pot.enterStarting
  else ignore

/-- A reading of a pot, in the five stages of R10. -/
def State.takeReading (s : State) (p : Fin 384) (r : Reading) : State :=
  if (s.pot p).sup = .unconfigured then s
  else
    let s1 := s.modPot p fun q => { q with orderAddress := some (r.src, r.slot) }
    let s2 := if (s1.pot p).sup = .lost then s1.modPot p Pot.enterStarting else s1
    let s3 := s2.takeMarker p r.marker
    let s4 := s3.workReading p r
    s4.modPot p fun q => { q with lastVoltage := r.vp, lastTime := s.time }

/-! ### The section map (R1 to R3) -/

/-- A window hits an address (R1). -/
def SectionWindow.hits (w : SectionWindow) (a : Addr) : Bool := w.enable && ((a ^^^ w.base) &&& ~~~w.mask) == 0

/-- A map error of a slot (R3). -/
def State.mapError (s : State) (k : ErrorKind) (src : Addr) (slot index : Nat) : State :=
  (s.offerError k { first := src.toNat, second := slot, third := index }).raise .mapError src.toNat slot index

/-- A slot of a frame that matched window `w` is translated and handed over (R2). -/
def State.takeSlot (s : State) (w : SectionWindow) (src : Addr) (slot : Nat) (r : SlotReading) : State :=
  let reading : Reading := { vp := r.voltage.toNat, marker := r.marker, src := src, slot := slot }
  let index := w.indexBase + (src &&& w.mask).toNat * 8 + slot
  if r.marker = 7 then s
  else
    match w.mode with
    | .direct => if h : index < 384 then s.takeReading ⟨index, h⟩ reading else s.mapError .mapRange src slot index
    | .mapped =>
      if h : index < 512 then
        match s.smap.potMap[index] with
        | some p => s.takeReading p reading
        | none => s.mapError .mapInvalid src slot index
      else s.mapError .mapRange src slot index

/-- A POT-SAMPLE from a source address (R1). The window is used as it stands at the frame's arrival (R4). -/
def State.takePotSample (s : State) (src : Addr) (slots : Vector SlotReading 8) : State :=
  if s.active then
    match s.smap.windows.toList.filter fun w => w.hits src with
    | [] => { s with smap.unmatched := bump32 s.smap.unmatched }
    | w :: more =>
      let s1 : State := if more.isEmpty then s else { s with smap.overlap := bump32 s.smap.overlap }
      (List.finRange 8).foldl (fun s i => s.takeSlot w src i.val slots[i]) s1
  else s

/-! ### Answers (R33 to R38) -/

/-- The order of the record matches an answer (R33). -/
def Pot.answeredBy (q : Pot) (src : Addr) (slot : Nat) (seq : Byte) : Bool :=
  match q.order with
  | none => false
  | some o => o.dest == src && o.slot == slot && o.seq == seq && !o.unsent

/-- A late answer (R38). -/
def State.lateAnswer (s : State) (src : Addr) (slot : Nat) : State :=
  match (List.finRange 384).find? fun p => (s.pot p).orderAddress == some (src, slot) with
  | some p => s.modPot p fun q => { q with lateAnswers := bump16 q.lateAnswers }
  | none => { s with psu.counters.unplaced := bump32 s.psu.counters.unplaced }

/-- The advice of pot `p` ends: the order absent, the dwell count 0 (R34 to R36). -/
def State.clearAdvice (s : State) (p : Fin 384) : State := (s.dropPotOrder p).modPot p fun q => { q with dwell := 0 }

/-- DECLINED for an advice (R35). -/
def State.adviceDeclined (s : State) (p : Fin 384) (o : PotOrder) : State :=
  let s1 := s.clearAdvice p
  State.raise { s1 with psu.counters.declined := bump32 s1.psu.counters.declined } .adviceDeclined p.val o.kind.code o.seq.toNat

/-- TAKEN for an advice (R34). -/
def State.adviceTaken (s : State) (p : Fin 384) : State :=
  let s1 := s.clearAdvice p
  { s1 with psu.counters.taken := bump32 s1.psu.counters.taken }

/-- An answer to the order `o` of pot `p` (R33 to R35, R50, R51). -/
def State.answerOrder (s : State) (p : Fin 384) (o : PotOrder) (result : Byte) : State :=
  if result = 1 then if o.kind.advice then s.adviceTaken p else s.quenchTaken p
  else if result = 2 then if o.kind.advice then s.adviceDeclined p o else s.quenchDeclined p o.seq
  else { s with psu.counters.badAnswer := bump32 s.psu.counters.badAnswer }

/-- A POT-ANSWER (R33). -/
def State.takePotAnswer (s : State) (src : Addr) (seq slot result : Byte) : State :=
  match (List.finRange 384).find? fun p => (s.pot p).answeredBy src slot.toNat seq with
  | none => s.lateAnswer src slot.toNat
  | some p =>
    match (s.pot p).order with
    | none => s.lateAnswer src slot.toNat
    | some o => s.answerOrder p o result

/-- An advice expires (R36). -/
def State.expireAdvice (s : State) (p : Fin 384) : State :=
  let s1 := s.clearAdvice p
  { s1 with psu.counters.expired := bump32 s1.psu.counters.expired }

/-! ### Restart (R22) -/

/-- A pot record at warm restart and START (R22, R65). -/
def State.restartPot (s : State) (p : Fin 384) : State :=
  let s1 := s.forceClose p .restart
  s1.modPot p fun q =>
    if q.sup = .unconfigured then { q with inhibitUntil := none, order := none }
    else { q.enterStarting with inhibitUntil := none, order := none, lastTime := s.time }

/-- Every pot record at warm restart and START, in ascending pot index (R22). -/
def State.restartPots (s : State) : State := (List.finRange 384).foldl State.restartPot s

end Sys2Proof.Machine
end

