-- ==== Sys2Proof/Machine/Energy.lean ====
section
/-! DEFINITION. The energy unit (07_energy): energy of a line sample (R131), the demand cap (R134, R135), pricing and entries (R133),
closing a slot (R137), the energy record queue (R138, R139), curtailed time (R79, R132). -/

namespace Sys2Proof.Machine

/-! ### Energy and the demand cap (R131, R134, R135) -/

/-- dt of a line sample taken now, and whether the clamp to 1000 ms was applied (R67, stage 1; R131). -/
def State.sampleInterval (s : State) : Nat × Bool :=
  match s.line.sampleTime with
  | none => (0, false)
  | some t => (min (s.time - t) 1000, decide (1000 < s.time - t))

/-- The largest value of a 32-bit count. -/
def count32Max : Nat := 4294967295

/-- Stages 1 to 4 of R131 on a sample of `vl`, `il` over `dt`. -/
def Egu.addSample (u : Egu) (vl il dt : Nat) (clamped : Bool) : Egu :=
  let sum := u.remainder + vl * il * dt
  let wh := sum / 3600000
  let es := min (u.slot.es + wh) count32Max
  { u with
    remainder := sum % 3600000
    total := u.total + wh
    lost := u.lost + (u.slot.es + wh - es)
    slot := { u.slot with
      es := es
      gap := u.slot.gap || clamped
      minIl := some (min (u.slot.minIl.getD il) il)
      maxIl := some (max (u.slot.maxIl.getD il) il) } }

/-- The cap of R135 for a demand limit in kWh, the slot's energy in Wh, the time left in ms and the line voltage in dV. -/
def demandCap (el es left vl : Nat) : Nat := sat16 ((el * 1000 - es) * 3600000 / left / vl)

/-- The demand cap after a sample of line voltage `vl` (R134). -/
def State.nextCap (s : State) (vl : Nat) : Option Nat :=
  let slot := s.egu.slot
  if slot.number = none ∨ slot.entry.limit = 0 then none
  else
    match s.timeLeft with
    | none => slot.cap
    | some left => if left ≤ 60000 ∨ vl = 0 then slot.cap else some (demandCap slot.entry.limit slot.es left vl)

/-- EGU works a line sample (R131). The cap is worked from Es after stage 3 (R134), also for the first sample of a slot, whose cap R130 says
is computed against Es = 0. DESIGN CHOICE (log 50). -/
def State.takeEnergy (s : State) (il vl dt : Nat) (clamped : Bool) : State :=
  let s1 : State := { s with egu := s.egu.addSample vl il dt clamped }
  { s1 with egu.slot.cap := s1.nextCap vl }

/-- An interval of curtailed time is added to the open slot (R79, R132). An Inom that has been written counts here at once (R66; log 43). The
spec gives the sum no width, and here it has no bound. DESIGN CHOICE (log 7). -/
def State.addCurtailed (s : State) (dt : Nat) : State :=
  if s.line.curtailing ∧ s.line.it < s.line.cfg.inom then { s with egu.slot.curtailed := s.egu.slot.curtailed + dt } else s

/-! ### Cost (R133) -/

/-- The cost of a chunk of `w` Wh at a rate, rounded half up (R133). -/
def chunkCost (w rate : Nat) : Nat := (w * rate + 500000) / 1000000

/-- A chunk is priced at the entry in force (R133). -/
def OpenSlot.price (o : OpenSlot) : OpenSlot :=
  { o with cost := o.cost + chunkCost (o.es - o.costedMark) o.entry.rate, costedMark := o.es }

/-- A new entry while the slot runs (R133). -/
def OpenSlot.newEntry (o : OpenSlot) (e : TariffEntry) (src : RateSource) : OpenSlot :=
  { o.price with entry := e, source := if src = o.source then o.source else .mixed }

/-! ### Closing (R137, R138) -/

/-- The overrun of a priced slot (R137, stage 2). -/
def OpenSlot.overrun (o : OpenSlot) : Nat :=
  if o.number = none ∨ o.entry.limit = 0 then 0 else o.es - o.entry.limit * 1000

/-- The energy record of a priced slot (section 7.6). -/
def OpenSlot.record (o : OpenSlot) : EnergyRecord :=
  { number := o.number, energy := o.es, cost := o.cost, aeEnergy := o.aeEnergy, overrun := o.overrun
    curtailed := o.curtailed / 1000, minIl := o.minIl.getD 0, maxIl := o.maxIl.getD 0, cls := o.entry.cls
    source := o.source, timeStep := o.timeStep, gap := o.gap, part := o.part, lostBefore := false }

/-- A full queue loses its head record for the one to be appended (R138). -/
def Egu.appendRecord (u : Egu) (r : EnergyRecord) : Egu :=
  if u.queue.length < Config.energyPlaces then { u with queue := u.queue ++ [r] }
  else
    match u.queue with
    | [] => { u with queue := [r] }
    | old :: rest =>
      { u with
        queue := rest ++ [{ r with lostBefore := true }]
        lost := u.lost + old.energy
        lostRecords := bump32 u.lostRecords }

/-- A record is appended, with ENERGY-QUEUE-HIGH at the entry into a high queue (R138). -/
def State.appendRecord (s : State) (r : EnergyRecord) : State :=
  let s1 : State := { s with egu := s.egu.appendRecord r }
  if Config.energyHigh ≤ s1.egu.queue.length ∧ s1.egu.queueHigh = false then
    State.raise { s1 with egu.queueHigh := true } .energyQueueHigh 0 s1.egu.queue.length (r.number.getD 65535)
  else s1

/-- Between a close and the opening that follows it in the same step, no slot is open and Es is 0: the energy stands in the record
(R137, R129). -/
def Egu.emptySlot (u : Egu) : Egu := { u with slot := { u.slot.price with es := 0, costedMark := 0 } }

/-- The open slot is closed (R137). The slot's energy passes to its record. -/
def State.closeSlot (s : State) : State :=
  let o := s.egu.slot.price
  let s1 : State := { s with egu := s.egu.emptySlot }
  let s2 :=
    if 0 < o.overrun then
      s1.raise .demandOverrun (o.number.getD 65535) (sat16 (o.overrun / 1000)) (sat16 o.entry.limit)
    else s1
  s2.appendRecord o.record

/-! ### Release (R139) -/

/-- The energy of some records. -/
def energySum (rs : List EnergyRecord) : Nat := (rs.map EnergyRecord.energy).sum

/-- The oldest `n` records are removed into released Wh (R139). -/
def Egu.release (u : Egu) (n : Nat) : Egu :=
  { u with
    queue := u.queue.drop n
    released := u.released + energySum (u.queue.take n)
    queueHigh := u.queueHigh && decide (Config.energyHigh ≤ (u.queue.drop n).length) }

end Sys2Proof.Machine
end

