-- ==== Sys2Proof/Machine/Tariff.lean ====
section
/-! DEFINITION. The tariff unit (08_tariff): resolution (R146), the cache (R147), fetches (R149), the slot start (R148), the
prefetch (R150), answers and timeouts (R151 to R154). -/

namespace Sys2Proof.Machine

/-! ### Resolution (R146) -/

/-- What a slot number resolves to (R146): an entry with its source, or a calendar lookup with its fallback. -/
inductive Resolution where
  | entry (e : TariffEntry) (src : RateSource)
  | lookup (index : Half) (fallback : TariffEntry) (src : RateSource)
  deriving DecidableEq, Repr

/-- The 15-bit value of a slot number (R146). -/
def slotBits (n : Nat) : BitVec 15 := BitVec.ofNat 15 n

/-- A window hits a slot number (R146). -/
def TariffWindow.hits (w : TariffWindow) (n : Nat) : Bool := w.enable && ((slotBits n ^^^ w.base) &&& ~~~w.mask) == 0

/-- The windows of a set that hit, lowest number first (R146). -/
def TariffSet.hitting (t : TariffSet) (n : Nat) : List TariffWindow := t.windows.toList.filter fun w => w.hits n

/-- The calendar index of slot `n` in a window (R146). -/
def TariffWindow.index (w : TariffWindow) (n : Nat) : Half := w.calendarBase + (slotBits n &&& w.mask).setWidth 16

/-- A window's own entry when it is valid, else the default entry, with its source (R146). -/
def TariffSet.own (t : TariffSet) (w : TariffWindow) : TariffEntry × RateSource :=
  if w.own.valid then (w.own, .fallback) else (t.fallback, .default)

/-- A slot number resolved against a set (R146). -/
def TariffSet.resolve (t : TariffSet) (n : Nat) : Resolution :=
  match t.hitting n with
  | [] => .entry t.fallback .default
  | w :: _ =>
    match w.mode with
    | .direct => .entry (t.own w).1 (t.own w).2
    | .mapped => .lookup (w.index n) (t.own w).1 (t.own w).2

/-! ### The cache (R147) -/

/-- The place is valid with tag `n`. -/
def CachePlace.tagged (p : CachePlace) (n : Nat) : Bool := p.valid && p.tag == n

/-- A calendar lookup in the cache (R147). -/
def Tru.lookupCache (u : Tru) (n : Nat) (i : Half) : Option TariffEntry :=
  (u.cache.toList.find? fun p => p.tagged n && p.index == i).map CachePlace.entry

/-- The lowest place that is valid with tag `n`. -/
def Tru.taggedPlace (u : Tru) (n : Nat) : Option (Fin 8) := (List.finRange 8).find? fun k => u.cache[k].tagged n

/-- An entry is placed in the cache for slot `n` and index `i` (R147). -/
def Tru.placeEntry (u : Tru) (n : Nat) (i : Half) (e : TariffEntry) : Tru :=
  let p : CachePlace := { valid := true, tag := n, index := i, entry := e }
  match u.taggedPlace n with
  | some k => { u with cache := u.cache.set k p }
  | none => { u with cache := u.cache.set u.pointer p, pointer := u.pointer + 1 }

/-- Every valid place that fails a test is made invalid. -/
def Tru.keepPlaces (u : Tru) (keep : CachePlace → Bool) : Tru :=
  { u with cache := u.cache.map fun p => { p with valid := p.valid && keep p } }

/-! ### Fetches (R149) -/

/-- The lowest free place of the fetch table: R149 says only that a fetch takes a free place (log 44). -/
def Tru.freePlace (u : Tru) : Option (Fin 2) := (List.finRange 2).find? fun k => u.table[k].isNone

/-- The fetch table or the wait list holds a fetch for slot `n` with index `i` (R148, R149). -/
def Tru.holdsFetch (u : Tru) (n : Nat) (i : Half) : Bool :=
  u.table.toList.any (fun e => match e with | some f => f.slot == n && f.index == i | none => false)
    || u.waitList.contains (n, i)

/-- A CALENDAR-ASK frame (R149, R157). -/
def askFrame (own server : Addr) (seq : Byte) (i : Half) (n : Nat) : Frame :=
  { dest := server, src := own, kind := 0x50, seq := seq, payload := be16 i ++ be16 (BitVec.ofNat 16 n) }

/-- A fetch is issued into place `k` (R149). -/
def State.issueFetch (s : State) (k : Fin 2) (n : Nat) (i : Half) : State :=
  let seq := s.tru.seq
  let f : Fetch := { slot := n, index := i, seq := seq, sent := s.time, unsent := true }
  let u : Tru := { s.tru with
    table := s.tru.table.set k (some f)
    seq := seq + 1
    counters.fetchesSent := bump32 s.tru.counters.fetchesSent }
  State.sendAsk { s with tru := u } (askFrame s.address s.meu.server seq i n)

/-- The fetch of a place is freed. -/
def Tru.freeFetch (u : Tru) (k : Fin 2) : Tru := { u with table := u.table.set k none }

/-- A waiting fetch is still wanted: its slot is the open slot or the next, it does not hit the cache and is not the declined note
(R149). -/
def Tru.stillWanted (u : Tru) (e : Nat × Half) : Bool :=
  (match u.lookup.slot with | some o => e.1 == o || e.1 == nextSlot o | none => false)
    && (u.lookupCache e.1 e.2).isNone && u.declined != some e

/-- The oldest wanted entry of the wait list is issued into the freed place `k`; those before it are dropped (R149). -/
def State.refillFrom (s : State) (k : Fin 2) : List (Nat × Half) → State
  | [] => { s with tru.waitList := [] }
  | e :: rest =>
    if s.tru.stillWanted e then State.issueFetch { s with tru.waitList := rest } k e.1 e.2 else s.refillFrom k rest

/-- The freed place `k` takes the next wait-list entry (R149). -/
def State.refill (s : State) (k : Fin 2) : State := s.refillFrom k s.tru.waitList

/-- The place that holds a fetch for slot `n`, if any. -/
def Tru.placeOf (u : Tru) (n : Nat) : Option (Fin 2) :=
  (List.finRange 2).find? fun k => match u.table[k] with | some f => f.slot == n | none => false

/-- A fetch for slot `n` with another index is abandoned, a waiting one removed, and the freed place refilled (R148, R149; log 29). -/
def State.abandonOther (s : State) (n : Nat) : State :=
  let s1 : State := { s with tru.waitList := s.tru.waitList.filter fun e => e.1 != n }
  match s1.tru.placeOf n with
  | none => s1
  | some k => State.refill { s1 with tru := s1.tru.freeFetch k } k

/-- A fetch for slot `n` and index `i` is requested (R149). -/
def State.requestFetch (s : State) (n : Nat) (i : Half) : State :=
  if s.tru.holdsFetch n i then s
  else
    let s1 := s.abandonOther n
    match s1.tru.freePlace with
    | some k => s1.issueFetch k n i
    | none => { s1 with tru.waitList := s1.tru.waitList ++ [(n, i)] }

/-! ### The prefetch (R150) -/

/-- The conditions of the prefetch (R150). They are tested whenever they may hold: a slot that a START or RESTART lets go on in its last
minute is prefetched at the part time of the command, before the station clock next passes a whole ms. DESIGN CHOICE (log 49). -/
def State.prefetchDue (s : State) : Bool :=
  s.active && s.tru.lookup.slot.isSome && (match s.timeLeft with | some t => decide (t ≤ 60000) | none => false)
    && !s.tru.lookup.prefetchMade && !s.tru.invalidation

/-- The prefetch for the slot after the open slot (R150). -/
def State.makePrefetch (s : State) : State :=
  match s.tru.lookup.slot with
  | none => s
  | some o =>
    let n := nextSlot o
    let s1 : State := { s with tru.lookup.prefetchMade := true }
    match s1.tru.written.resolve n with
    | .entry _ _ => s1
    | .lookup i _ _ =>
      if (s1.tru.lookupCache n i).isSome || s1.tru.declined == some (n, i) then s1 else s1.requestFetch n i

/-- The prefetch point is tested (R150). -/
def State.testPrefetch (s : State) : State := if s.prefetchDue then s.makePrefetch else s

/-! ### The slot start (R148) -/

/-- Steps 1 to 3 of R148: copies in force, a pending invalidation, the lookup anew, stale waiting fetches dropped. -/
def Tru.beginSlot (u : Tru) (n : Nat) : Tru :=
  let u1 := if u.invalidation then { u.keepPlaces (fun _ => false) with invalidation := false } else u
  { u1 with
    inForce := u.written
    lookup := { u1.lookup with slot := some n, index := none, awaiting := false, prefetchMade := false }
    waitList := u1.waitList.filter fun e => e.1 == n || e.1 == nextSlot n }

/-- The counters of a resolution at a slot start (R146). -/
def Tru.countResolution (u : Tru) (n : Nat) : Tru :=
  match u.inForce.hitting n with
  | [] => { u with counters.defaultUsed := bump32 u.counters.defaultUsed }
  | [_] => u
  | _ => { u with counters.overlap := bump32 u.counters.overlap }

/-- A lookup falls back: a miss is counted, and the fallback awaits an answer or not (R148, step 6). -/
def Tru.fallBack (u : Tru) (awaiting : Bool) : Tru :=
  { u with counters.misses := bump32 u.counters.misses, lookup.awaiting := awaiting }

/-- Steps 5 and 6 of R148: the entry chosen for slot `n`. -/
def State.chooseEntry (s : State) (n : Nat) : State × TariffEntry × RateSource :=
  match s.tru.inForce.resolve n with
  | .entry e src => (s, e, src)
  | .lookup i e src =>
    let s1 : State := { s with tru.lookup.index := some i }
    match s1.tru.lookupCache n i with
    | some c => ({ s1 with tru.counters.hits := bump32 s1.tru.counters.hits }, c, .cache)
    | none =>
      if s1.tru.declined = some (n, i) then ({ s1 with tru := s1.tru.fallBack false }, e, src)
      else if s1.tru.holdsFetch n i then ({ s1 with tru := s1.tru.fallBack true }, e, src)
      else
        let s2 := s1.requestFetch n i
        ({ s2 with tru := s2.tru.fallBack true }, e, src)

/-- A slot start with slot number `n` (R148). -/
def State.startSlot (s : State) (n : Nat) : State :=
  let s1 : State := { s with tru := (s.tru.beginSlot n).countResolution n }
  let c := s1.chooseEntry n
  let u := if s.line.cacheEnable then c.1.tru else c.1.tru.keepPlaces fun p => p.tag == n
  let s2 : State := { c.1 with
    tru := { u with lookup.source := c.2.2 }
    egu.slot.entry := c.2.1
    egu.slot.source := c.2.2 }
  (s2.trigger c.2.1.cls).testPrefetch

/-! ### Answers (R151 to R154) -/

/-- The fields of a CALENDAR-ENTRY (R157). -/
structure CalendarAnswer where
  index : Half
  slot : Half
  valid : Byte
  cls : Byte
  rate : Long
  limit : Long
  deriving DecidableEq, Repr

/-- The place whose fetch an answer matches (R151). R162 pairs an answer by its SRC too, and R151 names none: here the SRC is not tested.
DESIGN CHOICE (log 51). -/
def Tru.matchAnswer (u : Tru) (seq : Byte) (a : CalendarAnswer) : Option (Fin 2) :=
  (List.finRange 2).find? fun k =>
    match u.table[k] with
    | some f => f.seq == seq && f.index == a.index && f.slot == a.slot.toNat && !f.unsent
    | none => false

/-- The answer is a valid one (R151). -/
def CalendarAnswer.good (a : CalendarAnswer) : Bool :=
  a.valid != 0 && decide (a.cls.toNat ≤ 7) && decide (a.rate.toNat ≤ Config.rateMax)

/-- The entry an answer carries (R151). -/
def CalendarAnswer.entry (a : CalendarAnswer) : TariffEntry :=
  { rate := a.rate.toNat, limit := a.limit.toNat, cls := a.cls.toNat, valid := true }

/-- The slot lookup awaits an answer for slot `n` and index `i` (R151 to R153). -/
def Tru.awaits (u : Tru) (n : Nat) (i : Half) : Bool :=
  u.lookup.awaiting && u.lookup.slot == some n && u.lookup.index == some i

/-- The slot lookup stops awaiting slot `n` and index `i` (R151 to R153). -/
def Tru.endAwait (u : Tru) (n : Nat) (i : Half) : Tru :=
  if u.awaits n i then { u with lookup.awaiting := false } else u

/-- A TARIFF-ERROR with its error (R152, R153). -/
def State.tariffError (s : State) (k : ErrorKind) (n : Nat) (i : Half) (code : Nat) : State :=
  (s.offerError k { first := n, second := i.toNat }).raise .tariffError n i.toNat code

/-- A valid answer from place `k` (R151; a declined note of the same slot and index becomes absent, R152). -/
def State.validAnswer (s : State) (k : Fin 2) (a : CalendarAnswer) : State :=
  let n := a.slot.toNat
  let awaited := s.tru.awaits n a.index
  let u := ((s.tru.freeFetch k).placeEntry n a.index a.entry).endAwait n a.index
  let s1 : State := { s with tru := { u with
    counters.taken := bump32 u.counters.taken
    declined := if u.declined = some (n, a.index) then none else u.declined } }
  let s2 : State := if awaited then { s1 with egu.slot := s1.egu.slot.newEntry a.entry .cache } else s1
  s2.refill k

/-- An invalid answer from place `k` (R152). -/
def State.invalidAnswer (s : State) (k : Fin 2) (a : CalendarAnswer) : State :=
  let n := a.slot.toNat
  let u := (s.tru.freeFetch k).endAwait n a.index
  let s1 : State := { s with tru := { u with
    counters.invalid := bump32 u.counters.invalid
    declined := some (n, a.index) } }
  (s1.tariffError .calInvalid n a.index 1).refill k

/-- A CALENDAR-ENTRY addressed to the part (R151, R154). -/
def State.takeCalendarEntry (s : State) (seq : Byte) (a : CalendarAnswer) : State :=
  if s.active then
    match s.tru.matchAnswer seq a with
    | none => { s with tru.counters.late := bump32 s.tru.counters.late }
    | some k => if a.good then s.validAnswer k a else s.invalidAnswer k a
  else { s with tru.counters.ignored := bump32 s.tru.counters.ignored }

/-- The fetch of place `k` times out (R153). -/
def State.fetchExpires (s : State) (k : Fin 2) : State :=
  match s.tru.table[k] with
  | none => s
  | some f =>
    let u := (s.tru.freeFetch k).endAwait f.slot f.index
    let s1 : State := { s with tru := { u with
      sendList := u.sendList.filter fun x => x.seq != f.seq
      counters.timeouts := bump32 u.counters.timeouts } }
    (s1.tariffError .calTimeout f.slot f.index 2).refill k

/-! ### Restart (R156) -/

/-- What warm restart and START do to the tariff unit (R156). -/
def Tru.restarted (u : Tru) : Tru :=
  { u.keepPlaces (fun _ => false) with
    invalidation := false, table := Vector.replicate 2 none, waitList := [], sendList := [], declined := none
    lookup := { u.lookup with awaiting := false, prefetchMade := false } }

end Sys2Proof.Machine
end

