-- ==== Sys2Proof/Machine/Slots.lean ====
section
/-! DEFINITION. The station clock and its slots (07_energy): opening (R129), the slot end (R130), time marks (R127, R128), restart
(R142), the advance of the clock (R126); and a LINE-SAMPLE, which the line regulator and the energy unit take together (R67). -/

namespace Sys2Proof.Machine

/-! ### Opening and ends (R129, R130) -/

/-- A slot is opened for slot number `n`, with the flags of its cause, and its tariff entry chosen (R129). -/
def State.openSlot (s : State) (n : Nat) (timeStep part : Bool) : State :=
  State.startSlot { s with egu.slot := { number := some n, timeStep := timeStep, part := part } } n

/-- The station clock has reached the end of the open slot by its own advance (R130). -/
def State.slotEndDue (s : State) : Bool :=
  s.active && (match s.clockNow, s.egu.slot.number with | some c, some n => c.slot != n | _, _ => false)

/-- The open slot ends and the next is opened; the clock passes into the next day where the day has ended (R126, R130). -/
def State.endSlot (s : State) : State :=
  match s.egu.slot.number with
  | none => s
  | some n => (State.closeSlot { s with egu.clock := s.clockNow }).openSlot (nextSlot n) false false

/-- The end of a station day (R126). -/
def State.endDay (s : State) : State := { s with egu.clock := s.clockNow }

/-! ### Time marks (R127, R128) -/

/-- A mark is in range (R127). -/
def goodMark (day ms : Nat) : Bool := decide (1 ≤ day) && decide (day ≤ 366) && decide (ms < Config.dayMs)

/-- The first mark: the UNKNOWN slot is closed and the mark's slot opened PARTIAL (R127, case 1). -/
def State.firstMark (s : State) (c : Clock) : State :=
  (State.closeSlot { s with egu.clock := some c }).openSlot c.slot false true

/-- A time step of the clock from `old` to `new` is reported (R127, case 2). -/
def State.reportStep (s : State) (old new : Clock) : State :=
  State.raise
    { s with egu := { s.egu with slot := { s.egu.slot with timeStep := true }, timeSteps := bump32 s.egu.timeSteps } }
    .timeStep new.slot (sat16 (distance new.linear old.linear / 1000)) (if old.linear < new.linear then 1 else 2)

/-- A later mark: a step above 2000 ms is reported, and a mark into another slot closes and opens (R127, case 2; R128). -/
def State.laterMark (s : State) (old c : Clock) : State :=
  let step := decide (2000 < distance c.linear old.linear)
  let s1 : State := { s with egu.clock := some c }
  let s2 := if step then s1.reportStep old c else s1
  if s2.egu.slot.number = some c.slot then s2 else s2.closeSlot.openSlot c.slot step false

/-- A TIME-MARK (R127). The prefetch point is tested as the mark moves the clock (R150). -/
def State.takeMark (s : State) (day ms : Nat) : State :=
  if s.active then
    if goodMark day ms then
      let s1 : State := { s with egu.marksTaken := bump32 s.egu.marksTaken }
      let s2 :=
        match s.clockNow with
        | none => s1.firstMark { day := day, ms := ms }
        | some old => s1.laterMark old { day := day, ms := ms }
      s2.testPrefetch
    else { s with egu.badMarks := bump32 s.egu.badMarks }
  else s

/-! ### Restart (R142) -/

/-- The open slot at warm restart and START (R142). -/
def State.restartSlot (s : State) : State :=
  let flagged : State := { s with egu.slot.part := true }
  let kept : State := { s with egu.slot := { s.egu.slot with part := true, cap := none, capBinding := false } }
  match s.clockNow with
  | none => kept
  | some c => if s.egu.slot.number = some c.slot then kept else flagged.closeSlot.openSlot c.slot false true

/-! ### Line samples (R67) -/

/-- Stage 3 of R67, with the Imin that pot readings use until the next sample (R20). -/
def Line.record (l : Line) (il vl now : Nat) : Line :=
  { l with il := il, vl := vl, sampleTime := some now, iminInForce := l.cfg.imin }

/-- Stage 5 of R67: the target is composed in LOW and ENERGISED. -/
def State.composeStage (s : State) (dt : Nat) : State := if s.line.state = .tripped then s else s.compose dt

/-- Stages 1 to 4 of R67, with the energy unit's work before stage 5 (R131). -/
def State.sampleStages (s : State) (il vl : Nat) : State :=
  let dt := s.sampleInterval
  let s1 := State.workHeatRecovery { s.addCurtailed dt.1 with line := s.line.stepHeat dt.1 }
  let s2 : State := { s1 with line := (s1.line.record il vl s.time).workState s.time }
  s2.takeEnergy il vl dt.1 dt.2

/-- A LINE-SAMPLE in its stages (R67, R131). -/
def State.workLineSample (s : State) (il vl : Nat) : State :=
  let dt := s.sampleInterval
  (((s.sampleStages il vl).composeStage dt.1).workTrim.allocate).regulate

/-- A LINE-SAMPLE (R67). -/
def State.takeLineSample (s : State) (il vl : Nat) : State := if s.active then s.workLineSample il vl else s

end Sys2Proof.Machine
end

