-- ==== Sys2Proof/Machine/Startup.lean ====
section
/-! DEFINITION. Start-up, restart and takeover (11_start_up R177 to R179): what START and RESTART do to each block (R22, R65, R86,
R113, R125, R142, R156), STOP, and the takeover at the observation end. -/

namespace Sys2Proof.Machine

/-! ### The blocks at START and RESTART -/

/-- The group record at START and RESTART, once released (R113). -/
def Group.restarted (q : Group) (now : Nat) : Group :=
  { q with
    order := none, stepCounter := q.cfg.latch, stepOpen := false
    stale := if q.cfg.present then staleFrom now q.lastStatus else q.stale }

/-- The group authority unit at START and RESTART (R113). -/
def State.restartGroups (s : State) : State :=
  let s1 := s.releaseAll
  { s1 with gau := { s1.gau with groups := s1.gau.groups.map fun q => q.restarted s.time } }

/-- The station cooling record at START and RESTART (R125). -/
def Clu.restarted (c : Clu) : Clu :=
  { c with
    wanted := c.running, confirmation := .confirmed, confirmEnd := none, upSince := none, downSince := none
    orderFrame := none }

/-- The cooling unit at START and RESTART: the record, the station percentage with the capacities evaluated from it, Ic, and the stage
conditions (R125). Ic is handed to the line regulator by R86 alone, which keeps the below-floor flag (log 32). -/
def State.restartCooling (s : State) : State :=
  let s1 := State.evaluateAll { s with clu := s.clu.restarted.rated }
  (State.workShortfall { s1 with clu.ic := s1.stationCapacity }).evaluateStage

/-- The line regulator at START and RESTART (R86). -/
def State.restartLine (s : State) : State :=
  { s with line := { s.line.restarted s.clu.ic with player := s.line.player.stopped } }

/-- The part mode becomes OBSERVING, and the frames that the blocks discard leave the send lists before any frame is admitted (R177,
R31, R125, R156; log 31). The answers and notices that the group authority unit held back in FORWARD-ONLY are offered from this moment,
and enter the insert queue as it has places (R161; log 14). -/
def State.beginRestart (s : State) : State :=
  State.settle
    { s with
      meu := { s.meu with mode := .observing, observationEnd := some (s.time + 10000) }
      psu := { s.psu with sendList := [] }
      clu := { s.clu with orderFrame := none }
      tru := { s.tru with sendList := [] }
      gau := { s.gau with sendList := s.gau.sendList.filter fun i => !i.isOrder } }

/-- The effects of START and RESTART, block by block in the order that R177 asks for (log 31). -/
def State.restart (s : State) : State :=
  let s1 := s.beginRestart
  let s2 := s1.restartPots.restartGroups.restartCooling.restartLine
  State.restartSlot { s2 with tru := s2.tru.restarted }

/-! ### STOP and takeover -/

/-- STOP in OBSERVING and SUPERVISING (R178). -/
def State.stop (s : State) : State :=
  let s1 := s.releaseAll
  { s1 with
    line := { s1.line with player := s1.line.player.stopped, tripWatch := none }
    meu := { s1.meu with mode := .forwardOnly, observationEnd := none } }

/-- The claims of the takeover, in ascending group number (R179). -/
def State.claimAll (s : State) : State := (List.finRange 8).foldl State.autoclaim s

/-- The QUENCH orders that entry into SUPERVISING decides at once, in ascending pot index (R65; log 38). -/
def State.quenchAll (s : State) : State := (List.finRange 384).foldl State.tryQuench s

/-- The observation end: SUPERVISING and the claims (R179), then what SUPERVISING allows at once. A SILENT group that is not claimed is no fixed
load, as R84 and R106 say, although R179 counts one. DESIGN CHOICE (log 52). -/
def State.takeOver (s : State) : State :=
  let s1 : State := { s with meu := { s.meu with mode := .supervising, observationEnd := none } }
  s1.claimAll.quenchAll.regulate

end Sys2Proof.Machine
end

