-- ==== Sys2Proof/Machine/Reads.lean ====
section
/-! DEFINITION. The fields that a READ returns (10_management R168 and the rules of the objects' owners), object by object in field
order. An absent field is `none`. What the spec leaves open in a reply is logged (log 8, 9, 34, 36). -/

namespace Sys2Proof.Machine

/-- The fields of an object in order. -/
abbrev Fields := List (Option Long)

/-! ### Values (section 10.1) -/

/-- A number as a value; what a number above 4 bytes reads as is left open (log 8). -/
def numValue (n : Nat) : Option Long := some (if n < 4294967296 then BitVec.ofNat 32 n else Config.wideValue n)

/-- A signed number as a value. -/
def intValue (z : Int) : Option Long := some (BitVec.ofInt 32 z)

/-- A flag or a yes/no field as a value. -/
def flagValue (b : Bool) : Option Long := some (if b then 1 else 0)

/-- An optional number as a value. -/
def optValue (n : Option Nat) : Option Long := n.bind numValue

/-- A 64-bit count as two values, the high half first. -/
def wideValues (n : Nat) : Fields := [numValue (n / 4294967296), numValue (n % 4294967296)]

/-- A state that the spec does not code (log 8). -/
def stateValue (f : Config.UncodedField) (k : Nat) : Option Long := some (Config.stateCode f k)

/-- A node address as a value. -/
def addrValue (a : Addr) : Option Long := numValue a.toNat

/-- A slot number; UNKNOWN is given as 65535 (R138; log 9). -/
def slotValue (n : Option Nat) : Option Long := numValue (n.getD 65535)

/-! ### Pots (R6, R24, section 3.2) -/

/-- The position of a supervision state in the list of section 1.4. -/
def Supervision.position : Supervision → Nat
  | .unconfigured => 0
  | .starting => 1
  | .running => 2
  | .bypassing => 3
  | .bypassed => 4
  | .lost => 5

/-- The position of a band in the list of section 1.4. -/
def Band.position : Band → Nat
  | .low => 0
  | .within => 1
  | .high => 2

/-- The six numbers of an outstanding order (section 2.4). -/
def potOrderFields : Option PotOrder → Fields
  | none => List.replicate 6 none
  | some o =>
    [numValue o.kind.code, numValue o.seq.toNat, numValue o.sent, addrValue o.dest, numValue o.slot, flagValue o.unsent]

/-- The configuration fields of a pot (section 1.4). -/
def PotConfig.fields (c : PotConfig) : Fields :=
  [flagValue c.enabled, numValue c.vb, numValue c.rt, numValue c.bw, numValue c.k, numValue c.kn, numValue c.nlim,
    flagValue c.advice, numValue c.nd, flagValue c.autoQuench, numValue c.tqd]

/-- The dynamic fields of section 1.4, then those of R24. -/
def Pot.dynamicFields (q : Pot) : Fields :=
  [stateValue .supervision q.sup.position, numValue q.ae.code, numValue q.rf, numValue q.nf, numValue q.startingCount,
      numValue q.lastVoltage, numValue q.lastTime, stateValue .band q.band.position, flagValue q.noisy, numValue q.dwell]
    ++ potOrderFields q.order
    ++ [q.orderAddress.bind fun a => addrValue a.1, q.orderAddress.bind fun a => numValue a.2, optValue q.inhibitUntil,
      optValue q.parked, optValue q.logIndex, numValue q.attempts, flagValue q.localQuench, numValue q.glitches,
      numValue q.faults, numValue q.lateAnswers, numValue q.staleCurrent, numValue q.ignoredMarkers,
      numValue q.lastResistance, flagValue q.lowV, flagValue q.sat]

/-- The working fields of section 3.2. -/
def Effect.fields (x : Effect) : Fields :=
  [numValue x.quietVoltage, numValue x.onsetTime, numValue x.onsetDay, numValue x.onsetMs, numValue x.onsetVoltage,
    numValue x.vnorm, optValue x.qualificationEnd, optValue x.quenchDue, optValue x.quenchTimeout, optValue x.clearEnd,
    numValue x.spanStart, numValue x.duration, flagValue x.persistent, numValue x.energyRemainder]

/-- The fields of POT (R168). -/
def Pot.fields (q : Pot) : Fields := q.cfg.fields ++ q.dynamicFields ++ q.fx.fields

/-! ### Section map (R4, R5) -/

/-- The code of a mode (section 10.1). -/
def MapMode.code : MapMode → Nat
  | .direct => 0
  | .mapped => 1

/-- The fields of SECTION (R4). -/
def SectionWindow.fields (w : SectionWindow) : Fields :=
  [flagValue w.enable, addrValue w.base, addrValue w.mask, numValue w.mode.code, numValue w.indexBase]

/-- The field of MAP; UNUSED is 65535 (section 10.1). -/
def mapField : Option (Fin 384) → Fields
  | none => [numValue 65535]
  | some p => [numValue p.val]

/-! ### Line (R66) -/

/-- The position of a line state in the list of section 4.1. -/
def LineState.position : LineState → Nat
  | .low => 0
  | .energised => 1
  | .tripped => 2

/-- The position of a player state in the list of section 4.6. -/
def PlayerState.position : PlayerState → Nat
  | .idle => 0
  | .playing => 1
  | .held => 2

/-- The fields of LINE (R168). -/
def Line.fields (l : Line) (aeCount : Nat) : Fields :=
  [numValue l.cfg.inom, numValue l.cfg.imin, numValue l.cfg.if0, numValue l.cfg.itrip, numValue l.cfg.sup, numValue l.cfg.sdn,
      numValue l.cfg.ki, numValue l.cfg.cmax, numValue l.cfg.hl, numValue l.cfg.hr]
    ++ [numValue l.ae.vae, numValue l.ae.vclr, numValue l.ae.vmax, numValue l.ae.tq, numValue l.ae.tclr, numValue l.ae.tqx,
      numValue l.ae.holdLimit, numValue l.inhibitTime, flagValue l.cacheEnable]
    ++ [numValue l.il, numValue l.vl, optValue l.sampleTime, stateValue .lineState l.state.position, optValue l.tripWatch,
      numValue l.it, intValue l.c, numValue l.ig, numValue l.hd, numValue l.heatRemainder, flagValue l.heatRecovery,
      numValue l.floor, flagValue l.aeHold, flagValue l.belowFloor, flagValue l.curtailing]
    ++ [numValue aeCount, stateValue .playerState l.player.state.position, l.player.profile.bind fun n => numValue n.val,
      numValue l.player.step.val, intValue l.player.op]

/-- The fields of PROFILE-STEP (R80). -/
def ProfileStep.fields (p : ProfileStep) : Fields := [intValue p.offset, numValue p.duration, numValue p.marker, flagValue p.last]

/-- The fields of PROFILE; a trigger class NONE is 255 (section 10.1). -/
def ProfileEntry.fields (p : ProfileEntry) : Fields := [numValue p.startStep.val, numValue (p.trigger.getD 255)]

/-! ### Groups (R87, R114) -/

/-- The code of an acknowledge mode (section 10.1). -/
def AckMode.code : AckMode → Nat
  | .external => 0
  | .internal => 1

/-- The code of a step clock (section 10.1). -/
def StepClock.code : StepClock → Nat
  | .ms100 => 0
  | .s1 => 1
  | .s10 => 2
  | .s60 => 3

/-- The code of a status mode (R157). -/
def StatusMode.code : StatusMode → Nat
  | .remote => 1
  | .localMode => 2

/-- The position of a form in the list of section 5.1. -/
def Form.position : Form → Nat
  | .full => 0
  | .basic => 1

/-- The position of a status form in the list of section 5.1. -/
def StatusForm.position : StatusForm → Nat
  | .full => 0
  | .short => 1

/-- The position of a stale state in the list of section 5.1. -/
def Stale.position : Stale → Nat
  | .fresh => 0
  | .holding => 1
  | .silent => 2

/-- The position of a withdrawal state in the list of section 5.1. -/
def Withdrawal.position : Withdrawal → Nat
  | .none => 0
  | .withdrawing => 1
  | .withdrawn => 2

/-- The five numbers of a pending order (section 5.1). -/
def groupOrderFields : Option GroupOrder → Fields
  | none => List.replicate 5 none
  | some o => [numValue o.setpoint, numValue o.seq.toNat, numValue o.sent, flagValue o.withdraw, flagValue o.unsent]

/-- The configuration fields of a group (section 5.1), the sink offset and the minimum flow (section 6.1). -/
def GroupConfig.fields (c : GroupConfig) : Fields :=
  [flagValue c.present, addrValue c.node, numValue c.rated, numValue c.idle, numValue c.ack.code, numValue c.clock.code,
    numValue c.latch, numValue c.deadband, flagValue c.autoclaim, flagValue c.lock, numValue c.derate, numValue c.sinkOffset,
    numValue c.minFlow]

/-- The fields of GROUP (R168). -/
def Group.fields (q : Group) : Fields :=
  q.cfg.fields
    ++ [numValue q.authority.code, q.watcher.bind addrValue, stateValue .form q.form.position,
      stateValue .latestForm q.latestForm.position, numValue q.mode.code, numValue q.reported, numValue q.tap, numValue q.echo,
      intValue q.tout, intValue q.tsink, numValue q.flow, numValue q.confirmed]
    ++ groupOrderFields q.order
    ++ [numValue q.streak, numValue q.wanted, stateValue .staleState q.stale.position, optValue q.lastStatus,
      stateValue .withdrawal q.withdrawal.position, numValue q.stepCounter, flagValue q.stepOpen, flagValue q.statusSince]
    ++ [q.teq.bind intValue, numValue q.pct, flagValue q.flowLow, numValue q.cap]

/-- The field of a point of CURVE: T and p (R115). -/
def CurvePoint.fields (p : CurvePoint) : Fields := [intValue p.t, numValue p.p]

/-- A point of a whole curve in the form of a CURVE write: T and p of two bytes each (section 10.1; log 9). -/
def CurvePoint.packed (p : CurvePoint) : Option Long := some (BitVec.ofInt 16 p.t ++ BitVec.ofNat 16 p.p)

/-! ### Stages (R120) -/

/-- The position of a confirmation in the list of section 6.4. -/
def Confirmation.position : Confirmation → Nat
  | .confirmed => 0
  | .awaiting => 1
  | .failed => 2

/-- The fields of a stage of STAGE (R120). -/
def StageEntry.fields (e : StageEntry) : Fields := [intValue e.up, intValue e.down, numValue e.derate]

/-- The stage that a waiting order frame carries (log 9). -/
def orderFrameField (f : Option Frame) : Option Long := f.bind fun x => numValue (byteAt x.payload 0).toNat

/-- The fields of the station cooling record with Ic (R120, stage 0). -/
def Clu.fields (c : Clu) : Fields :=
  [numValue c.wanted, numValue c.running, numValue c.available, optValue c.statusTime,
    stateValue .confirmation c.confirmation.position, optValue c.confirmEnd, c.hottest.bind intValue, optValue c.upSince,
    optValue c.downSince, numValue c.counted, numValue c.pct, flagValue c.shortfall, orderFrameField c.orderFrame,
    numValue c.ic]

/-! ### Tariffs (R144, R145, R156) -/

/-- The four numbers of a tariff entry (R168). -/
def TariffEntry.fields (e : TariffEntry) : Fields :=
  [numValue e.rate, numValue e.limit, numValue e.cls, flagValue e.valid]

/-- The fields of one copy of a tariff window (section 8.2). -/
def TariffWindow.fields (w : TariffWindow) : Fields :=
  [flagValue w.enable, numValue w.base.toNat, numValue w.mask.toNat, numValue w.mode.code, numValue w.calendarBase.toNat]
    ++ w.own.fields

/-- The position of a source in the list of section 7.6. -/
def RateSource.position : RateSource → Nat
  | .cache => 0
  | .fallback => 1
  | .default => 2
  | .mixed => 3

/-- The fields of a cache place (section 8.3). -/
def CachePlace.fields (p : CachePlace) : Fields :=
  [flagValue p.valid, numValue p.tag, numValue p.index.toNat] ++ p.entry.fields

/-- The fields of a place of the fetch table (section 8.5). The spec does not say how an unused place reads: here as five absent fields.
DESIGN CHOICE (log 9). -/
def fetchFields : Option Fetch → Fields
  | none => List.replicate 5 none
  | some f => [numValue f.slot, numValue f.index.toNat, numValue f.seq.toNat, numValue f.sent, flagValue f.unsent]

/-- A slot and index, or two absent fields. -/
def pairFields : Option (Nat × Half) → Fields
  | none => [none, none]
  | some e => [numValue e.1, numValue e.2.toNat]

/-- The fields of the slot lookup (section 8.4). -/
def SlotLookup.fields (l : SlotLookup) : Fields :=
  [slotValue l.slot, l.index.bind fun i => numValue i.toNat, stateValue .rateSource l.source.position, flagValue l.awaiting,
    flagValue l.prefetchMade]

/-- The fields of TARIFF-DEFAULT at index 9 (R156). The wait list is always two pairs, absent where no fetch waits (log 9). -/
def Tru.workingFields (u : Tru) : Fields :=
  [numValue u.pointer.val] ++ fetchFields u.table[0] ++ fetchFields u.table[1] ++ pairFields u.waitList[0]?
    ++ pairFields u.waitList[1]? ++ u.lookup.fields ++ pairFields u.declined ++ [flagValue u.invalidation]

/-- The fields of TARIFF-DEFAULT at an index (R144, R156). -/
def Tru.defaultFields (u : Tru) (index : Nat) : Option Fields :=
  if index = 0 then some (u.written.fallback.fields ++ u.inForce.fallback.fields)
  else if index ≤ 8 then u.cache[index - 1]?.map CachePlace.fields
  else if index = 9 then some u.workingFields
  else none

/-! ### Energy (R140) -/

/-- The fields of an energy record (section 7.6). -/
def EnergyRecord.fields (r : EnergyRecord) : Fields :=
  [slotValue r.number, numValue r.energy] ++ wideValues r.cost
    ++ [numValue r.aeEnergy, numValue r.overrun, numValue r.curtailed, numValue r.minIl, numValue r.maxIl, numValue r.cls,
      stateValue .rateSource r.source.position, flagValue r.timeStep, flagValue r.gap, flagValue r.part, flagValue r.lostBefore]

/-- The fields of the open slot, with the station clock, the energy remainder and the queue length (R140). An unknown clock is a day and a ms
of day that are both absent (log 9). -/
def State.openSlotFields (s : State) : Fields :=
  let o := s.egu.slot
  [slotValue o.number, numValue o.es, numValue o.costedMark] ++ wideValues o.cost
    ++ [numValue o.aeEnergy, numValue o.curtailed, optValue o.minIl, optValue o.maxIl] ++ o.entry.fields
    ++ [stateValue .rateSource o.source.position, optValue o.cap, flagValue o.capBinding, flagValue o.timeStep, flagValue o.gap,
      flagValue o.part]
    ++ [s.clockNow.bind fun c => numValue c.day, s.clockNow.bind fun c => numValue c.ms, numValue s.egu.remainder,
      numValue s.egu.queue.length]

/-! ### AE log (R60) -/

/-- The fields of an AE log record, its place last (log 9); an OPEN record's duration includes the current span (R60), and stops at 32 bits
(log 7). -/
def State.recordFields (s : State) (r : AeRecord) : Fields :=
  let duration := if r.closed then r.duration else min (s.effectDuration (s.pot r.pot)) 4294967295
  [numValue r.pot.val, numValue r.onsetDay, numValue r.onsetMs, stateValue .recordStatus (if r.closed then 1 else 0),
    numValue duration, numValue r.peak, numValue r.vnorm, numValue r.energy, numValue r.ordersSent, numValue r.quenchTaken,
    flagValue r.localQuench, numValue r.declines, numValue r.relapses, flagValue r.persistent,
    r.endCause.bind fun c => numValue c.code, numValue r.runCount, numValue r.samples, flagValue r.truncated,
    numValue r.place]

/-! ### Errors and events (R170, R172) -/

/-- The code of an error (section 10.3). -/
def ErrorKind.code : ErrorKind → Nat
  | .mapRange => 1
  | .mapInvalid => 2
  | .calInvalid => 3
  | .calTimeout => 4
  | .mgmtDenied => 5

/-- The code the error log shows: 0 before any error. -/
def codeValue : Option ErrorKind → Nat
  | none => 0
  | some k => k.code

/-- The fields of ERROR-LOG (R170). -/
def ErrorLog.fields (l : ErrorLog) : Fields :=
  [flagValue l.err, numValue (codeValue l.code), numValue l.detail.first, numValue l.detail.second, numValue l.detail.third,
    numValue l.day, numValue l.ms, flagValue l.lost, numValue l.mapRange, numValue l.mapInvalid, numValue l.calInvalid,
    numValue l.calTimeout, numValue l.mgmtDenied]

/-- The pending kinds. -/
def Meu.pendingKinds (m : Meu) : List EventKind := EventKind.all.filter fun k => m.events[k.index].pending

/-- The highest pending level; NONE is 255 (R171, R172). -/
def Meu.highestLevel (m : Meu) : Nat :=
  match m.pendingKinds with
  | [] => 255
  | ks => (ks.map fun k => k.level.code).foldl max 0

/-- The kind of an index 1..26. -/
def kindOfIndex (index : Nat) : Option EventKind := EventKind.all.find? fun k => k.code == index

/-- The position of a state of the ALARM line: released, driven low (R173). -/
def alarmPosition (driven : Bool) : Nat := if driven then 1 else 0

/-- The fields of EVENTS at an index (R172). The spec gives the state of the ALARM line no code, so index 0 reads it as a free value. DESIGN
CHOICE (log 8). -/
def Meu.eventFields (m : Meu) (index : Nat) : Option Fields :=
  if index = 0 then some [numValue m.highestLevel, numValue m.pendingKinds.length,
      stateValue .alarmLine (alarmPosition m.alarm)]
  else
    (kindOfIndex index).map fun k =>
      let e := m.events[k.index]
      [numValue k.level.code, flagValue e.pending, numValue e.count, if k.alarming then flagValue e.enable else none]

/-! ### Counters (R174) -/

/-- The part mode codes (section 11.1). -/
def PartMode.code : PartMode → Nat
  | .forwardOnly => 0
  | .observing => 1
  | .supervising => 2

/-- The ring port's counters, the notice sequence counter and the lengths of the three queues (R166). -/
def Port.counterFields (p : Port) : Fields :=
  [numValue p.counters.malformed, numValue p.counters.badCheck, numValue p.counters.stripped, numValue p.counters.unknownKind,
    numValue p.counters.shortPayload, numValue p.counters.forwarded, numValue p.counters.forwardOverrun,
    numValue p.counters.inserted, numValue p.counters.reportsSent, numValue p.counters.infoDrops, numValue p.counters.minorDrops,
    numValue p.counters.majorDrops, numValue p.counters.urgentDrops, numValue p.noticeSeq.toNat, numValue p.forward.length,
    numValue p.insert.length, numValue p.buffer.length]

/-- The counters of the pot supervision unit (R40, R32). -/
def Psu.counterFields (u : Psu) : Fields :=
  [numValue u.counters.raiseSent, numValue u.counters.lowerSent, numValue u.counters.checkSent, numValue u.counters.taken,
    numValue u.counters.declined, numValue u.counters.expired, numValue u.counters.badAnswer, numValue u.counters.unplaced,
    numValue u.seq.toNat]

/-- The counters of the anode effect unit (R64). -/
def Aeu.counterFields (u : Aeu) : Fields :=
  [numValue u.counters.onsets, numValue u.counters.quenchSent, numValue u.counters.quenchTaken,
    numValue u.counters.quenchDeclined, numValue u.counters.persistent, numValue u.counters.unlogged,
    numValue u.counters.discardedRuns]

/-- The part-wide counters of the group authority unit (R112, R95). -/
def Gau.counterFields (u : Gau) : Fields :=
  [numValue u.unmatchedStatus, numValue u.unplaced, numValue u.ignoredProbes, numValue u.noticesDropped, numValue u.seq.toNat]

/-- The counters of the cooling unit (R125). -/
def Clu.counterFields (c : Clu) : Fields :=
  [numValue c.ordersSent, numValue c.unmatched, numValue c.badStatus, numValue c.seq.toNat]

/-- The counters of the energy unit, the queue length and the totals (R143, R141). -/
def Egu.counterFields (u : Egu) : Fields :=
  [numValue u.marksTaken, numValue u.badMarks, numValue u.timeSteps, numValue u.lostRecords, numValue u.queue.length]
    ++ wideValues u.total ++ wideValues u.released ++ wideValues u.lost

/-- The counters of the tariff unit (R156). -/
def Tru.counterFields (u : Tru) : Fields :=
  [numValue u.counters.overlap, numValue u.counters.defaultUsed, numValue u.counters.hits, numValue u.counters.misses,
    numValue u.counters.fetchesSent, numValue u.counters.taken, numValue u.counters.invalid, numValue u.counters.timeouts,
    numValue u.counters.late, numValue u.counters.ignored, numValue u.seq.toNat]

/-- The counters of the management and event unit, the part mode and the observation end (R174, R175). -/
def Meu.counterFields (m : Meu) : Fields :=
  [numValue m.requestsTaken, numValue m.requestOverrun, numValue m.denied, numValue m.mode.code, optValue m.observationEnd]

/-- The counters of a group (R112). -/
def GroupCounters.fields (c : GroupCounters) : Fields :=
  [numValue c.late, numValue c.noAnswer, numValue c.badAnswer, numValue c.mismatch, numValue c.badStatus,
    numValue c.echoMismatch, numValue c.shortWhileLocked, numValue c.ordersSent]

/-- The fields of COUNTERS at an index (R174). -/
def State.counterFields (s : State) (index : Nat) : Option Fields :=
  if index = 0 then some s.port.counterFields
  else if index = 1 then some [numValue s.smap.overlap, numValue s.smap.unmatched]
  else if index = 2 then some s.psu.counterFields
  else if index = 3 then some s.aeu.counterFields
  else if index = 4 then some s.gau.counterFields
  else if index = 5 then some s.clu.counterFields
  else if index = 6 then some s.egu.counterFields
  else if index = 7 then some s.tru.counterFields
  else if index = 8 then some s.meu.counterFields
  else if 16 ≤ index then s.gau.groups[index - 16]?.map fun q => q.counters.fields
  else none

/-! ### An object's fields -/

/-- The fields of an object at an index; absent for an index outside the object's ranges (R167, R168). CURVE is read at a point and
TRACE at a run, by rules of their own. -/
def State.objectFields (s : State) (o : Object) (index : Nat) : Option Fields :=
  match o with
  | .pot => s.psu.pots[index]?.map Pot.fields
  | .map => s.smap.potMap[index]?.map mapField
  | .sectionWindow => s.smap.windows[index]?.map SectionWindow.fields
  | .group => s.gau.groups[index]?.map Group.fields
  | .curve | .trace => none
  | .stage => if index = 0 then some s.clu.fields else s.clu.stages[index - 1]?.map StageEntry.fields
  | .profileStep => s.line.steps[index]?.map ProfileStep.fields
  | .profile => s.line.profiles[index]?.map ProfileEntry.fields
  | .tariffWindow =>
    match s.tru.written.windows[index]?, s.tru.inForce.windows[index]? with
    | some w, some v => some (w.fields ++ v.fields)
    | _, _ => none
  | .tariffDefault => s.tru.defaultFields index
  | .line => some (s.line.fields s.aeu.count)
  | .energyRecord => if index = 65535 then some s.openSlotFields else s.egu.queue[index]?.map EnergyRecord.fields
  | .aeLog => s.aeu.log[index]?.map s.recordFields
  | .errorLog => if index = 0 then some s.meu.errors.fields else none
  | .counters => s.counterFields index
  | .mgmtAddress => if index = 0 then some [s.meu.management.bind addrValue] else none
  | .supervisorAddress => if index = 0 then some [addrValue s.meu.supervisor] else none
  | .serverAddress => if index = 0 then some [addrValue s.meu.server] else none
  | .coolerAddress => if index = 0 then some [addrValue s.meu.cooler] else none
  | .events => s.meu.eventFields index

end Sys2Proof.Machine
end

