-- ==== Sys2Proof/Machine/Management.lean ====
section
/-! DEFINITION. Management requests (10_management R167 to R172): the reply, the WRITE of every object by its owner's rule, the READ,
the commands, the access check and the request whole. -/

namespace Sys2Proof.Machine

/-! ### Replies (section 10.1) -/

/-- The reply codes. -/
inductive ReplyCode where
  | ok | clamped | badObject | badIndex | badValue | badState | denied
  deriving DecidableEq, Repr

/-- The code of a reply code. -/
def ReplyCode.code : ReplyCode → Byte
  | .ok => 0
  | .clamped => 1
  | .badObject => 2
  | .badIndex => 3
  | .badValue => 4
  | .badState => 5
  | .denied => 6

/-- A reply: its code and the bytes after it. -/
structure Reply where
  code : ReplyCode
  body : List Byte := []
  deriving DecidableEq, Repr

/-- A MGMT-REPLY frame (R157, R167). -/
def replyFrame (own dest : Addr) (seq : Byte) (r : Reply) : Frame :=
  { dest := dest, src := own, kind := 0x71, seq := seq, payload := r.code.code :: r.body }

/-- What working a request gives: the state and the reply. -/
abbrev Worked := State × Reply

/-- A request is refused: the object is left unchanged (00_scope section 5.5). -/
def State.refuse (s : State) (c : ReplyCode) : Worked := (s, { code := c })

/-- A command is answered OK with no values. -/
def State.done (s : State) : Worked := (s, { code := .ok })

/-- A WRITE is answered OK or CLAMPED with the value as written (R167). -/
def State.wrote (s : State) (value : Long) (clamped : Bool) : Worked :=
  (s, { code := if clamped then .clamped else .ok, body := be32 value })

/-! ### Value checks -/

/-- The nearest number of a range. -/
def clampNat (lo hi v : Nat) : Nat := max lo (min v hi)

/-- A number is written at the nearest end of its range (R6, R41, R66, R80, R87). -/
def writeClamped (lo hi v : Nat) (f : Nat → State) : Worked :=
  let w := clampNat lo hi v
  (f w).wrote (BitVec.ofNat 32 w) (w != v)

/-- A number is written if it is in a range from 0, else refused BAD-VALUE. -/
def State.writeUpTo (s : State) (hi v : Nat) (f : Nat → State) : Worked :=
  if v ≤ hi then (f v).wrote (BitVec.ofNat 32 v) false else s.refuse .badValue

/-- A yes/no field (R6, R87). -/
def State.writeFlag (s : State) (v : Nat) (f : Bool → State) : Worked := s.writeUpTo 1 v fun n => f (n == 1)

/-- A choice by its code; a value that names none is refused BAD-VALUE (R87). -/
def State.writeChoice {α : Type} (s : State) (choice : Nat → Option α) (v : Nat) (f : α → State) : Worked :=
  match choice v with
  | none => s.refuse .badValue
  | some a => (f a).wrote (BitVec.ofNat 32 v) false

/-- A WRITE whose payload stops before the values its field needs is refused BAD-VALUE (R167, check 4). -/
def State.needing (s : State) (bytes : Nat) (values : List Byte) (w : Worked) : Worked :=
  if values.length < bytes then s.refuse .badValue else w

/-- The modes by code (section 10.1). -/
def mapModeOf (v : Nat) : Option MapMode := if v = 0 then some .direct else if v = 1 then some .mapped else none

/-- The acknowledge modes by code (section 10.1). -/
def ackModeOf (v : Nat) : Option AckMode := if v = 0 then some .external else if v = 1 then some .internal else none

/-- The step clocks by code (section 10.1). -/
def stepClockOf (v : Nat) : Option StepClock :=
  if v = 0 then some .ms100 else if v = 1 then some .s1 else if v = 2 then some .s10 else if v = 3 then some .s60 else none

/-- 2^n − 1 for some n up to `bits` (R4, R145). -/
def isMask (bits v : Nat) : Bool := (List.range (bits + 1)).any fun n => v + 1 == 2 ^ n

/-! ### POT (R6, R8, R9, R47) -/

/-- A configuration field changes. -/
def State.setPotCfg (s : State) (p : Fin 384) (f : PotConfig → PotConfig) : State := s.modPot p fun q => { q with cfg := f q.cfg }

/-- A configuration field changes and the band dwell count becomes 0 (R6). -/
def State.setPotBand (s : State) (p : Fin 384) (f : PotConfig → PotConfig) : State :=
  s.modPot p fun q => { q with cfg := f q.cfg, dwell := 0 }

/-- A write of enabled (R8, R9). -/
def State.writeEnabled (s : State) (p : Fin 384) (v : Nat) : Worked :=
  s.writeFlag v fun b => if b then s.enablePot p else s.disablePot p

/-- A write of automatic quench may decide an order at once (R6, R47). -/
def State.writeAutoQuench (s : State) (p : Fin 384) (v : Nat) : Worked :=
  s.writeFlag v fun b => (s.setPotCfg p fun c => { c with autoQuench := b }).tryQuench p

/-- A write of a field of pot `p` (R6). -/
def State.writePotField (s : State) (p : Fin 384) (field v : Nat) : Worked :=
  match field with
  | 0 => s.writeEnabled p v
  | 1 => writeClamped 0 3000 v fun w => s.setPotCfg p fun c => { c with vb := w }
  | 2 => writeClamped 0 250000 v fun w => s.setPotBand p fun c => { c with rt := w }
  | 3 => writeClamped 0 65535 v fun w => s.setPotBand p fun c => { c with bw := w }
  | 4 => writeClamped 1 8 v fun w => s.setPotCfg p fun c => { c with k := w }
  | 5 => writeClamped 1 8 v fun w => s.setPotCfg p fun c => { c with kn := w }
  | 6 => writeClamped 0 65535 v fun w => s.setPotCfg p fun c => { c with nlim := w }
  | 7 => s.writeFlag v fun b => s.setPotCfg p fun c => { c with advice := b }
  | 8 => writeClamped 1 255 v fun w => s.setPotBand p fun c => { c with nd := w }
  | 9 => s.writeAutoQuench p v
  | 10 => writeClamped 0 255 v fun w => s.setPotCfg p fun c => { c with tqd := w }
  | _ => s.refuse .badValue

/-- A WRITE of POT (R6). -/
def State.writePot (s : State) (index field : Nat) (values : List Byte) : Worked :=
  s.needing 4 values
    (if h : index < 384 then s.writePotField ⟨index, h⟩ field (valueOf values) else s.refuse .badIndex)

/-! ### SECTION and MAP (R4, R5) -/

/-- A window changes. -/
def State.setSection (s : State) (w : Fin 8) (f : SectionWindow → SectionWindow) : State :=
  { s with smap.windows := s.smap.windows.set w (f s.smap.windows[w]) }

/-- The largest index base of a mode (R4). -/
def MapMode.baseMax : MapMode → Nat
  | .direct => 383
  | .mapped => 511

/-- A write of a field of section window `w` (R4). -/
def State.writeSectionField (s : State) (w : Fin 8) (field v : Nat) : Worked :=
  match field with
  | 0 => s.writeFlag v fun b => s.setSection w fun x => { x with enable := b }
  | 1 => s.writeUpTo 65535 v fun n => s.setSection w fun x => { x with base := BitVec.ofNat 16 n }
  | 2 =>
    if isMask 8 v then (s.setSection w fun x => { x with mask := BitVec.ofNat 16 v }).wrote (BitVec.ofNat 32 v) false
    else s.refuse .badValue
  | 3 => s.writeChoice mapModeOf v fun m => s.setSection w fun x => { x with mode := m }
  | 4 => writeClamped 0 s.smap.windows[w].mode.baseMax v fun n => s.setSection w fun x => { x with indexBase := n }
  | _ => s.refuse .badValue

/-- A WRITE of SECTION (R4). -/
def State.writeSection (s : State) (index field : Nat) (values : List Byte) : Worked :=
  s.needing 4 values
    (if h : index < 8 then s.writeSectionField ⟨index, h⟩ field (valueOf values) else s.refuse .badIndex)

/-- A write of entry `i` of the pot map; UNUSED is 65535 (R5). -/
def State.writeMapEntry (s : State) (i : Fin 512) (v : Nat) : Worked :=
  let set (e : Option (Fin 384)) : Worked :=
    State.wrote { s with smap.potMap := s.smap.potMap.set i e } (BitVec.ofNat 32 v) false
  if h : v < 384 then set (some ⟨v, h⟩) else if v = 65535 then set none else s.refuse .badValue

/-- A WRITE of MAP (R5). -/
def State.writeMap (s : State) (index : Nat) (values : List Byte) : Worked :=
  s.needing 4 values (if h : index < 512 then s.writeMapEntry ⟨index, h⟩ (valueOf values) else s.refuse .badIndex)

/-! ### GROUP (R87, R88, R93, R114) -/

/-- Another present group has the node address (R88). -/
def State.nodeTaken (s : State) (g : Fin 8) (a : Addr) : Bool :=
  (List.finRange 8).any fun k => k != g && (s.group k).cfg.present && (s.group k).cfg.node == a

/-- A configuration field changes. -/
def State.setGroupCfg (s : State) (g : Fin 8) (f : GroupConfig → GroupConfig) : State :=
  s.modGroup g fun q => { q with cfg := f q.cfg }

/-- A write of present (R88). -/
def State.writePresent (s : State) (g : Fin 8) (v : Nat) : Worked :=
  let q := s.group g
  if 1 < v then s.refuse .badValue
  else if q.cfg.present = (v == 1) then s.wrote (BitVec.ofNat 32 v) false
  else if v = 1 then
    if s.nodeTaken g q.cfg.node then s.refuse .badValue else (s.changePresence g true).wrote 1 false
  else if q.authority = .released then (s.changePresence g false).wrote 0 false
  else s.refuse .badState

/-- A write of node address (R88; log 40). -/
def State.writeNode (s : State) (g : Fin 8) (v : Nat) : Worked :=
  let a : Addr := BitVec.ofNat 16 (clampNat 0 65535 v)
  if (s.group g).authority = .released then
    if a = s.address ∨ s.nodeTaken g a = true then s.refuse .badValue
    else writeClamped 0 65535 v fun w => s.setGroupCfg g fun c => { c with node := BitVec.ofNat 16 w }
  else s.refuse .badState

/-- The step latch as written: the counter is reloaded, and a latch of 0 clears step-open (R93). -/
def Group.setLatch (q : Group) (latch : Nat) : Group :=
  { q with cfg.latch := latch, stepCounter := latch, stepOpen := q.stepOpen && latch != 0 }

/-- The step clock as written: the counter is reloaded (R93). -/
def Group.setClock (q : Group) (clock : StepClock) : Group := { q with cfg.clock := clock, stepCounter := q.cfg.latch }

/-- A write of the step latch (R93). -/
def State.writeLatch (s : State) (g : Fin 8) (v : Nat) : Worked :=
  writeClamped 0 255 v fun w => s.modGroup g fun q => q.setLatch w

/-- A write of the step clock (R93). -/
def State.writeClock (s : State) (g : Fin 8) (v : Nat) : Worked :=
  s.writeChoice stepClockOf v fun k => s.modGroup g fun q => q.setClock k

/-- A write of a field of group `g` (R87, R114). A write of the deadband may make an order due (R94; log 15). -/
def State.writeGroupField (s : State) (g : Fin 8) (field v : Nat) : Worked :=
  match field with
  | 0 => s.writePresent g v
  | 1 => s.writeNode g v
  | 2 => writeClamped 0 65535 v fun w => s.setGroupCfg g fun c => { c with rated := w }
  | 3 => writeClamped 0 65535 v fun w => s.setGroupCfg g fun c => { c with idle := w }
  | 4 => s.writeChoice ackModeOf v fun m => s.setGroupCfg g fun c => { c with ack := m }
  | 5 => s.writeClock g v
  | 6 => s.writeLatch g v
  | 7 => writeClamped 1 65535 v fun w => (s.setGroupCfg g fun c => { c with deadband := w }).regulate
  | 8 => s.writeFlag v fun b => s.setGroupCfg g fun c => { c with autoclaim := b }
  | 9 => s.writeFlag v fun b => s.setGroupCfg g fun c => { c with lock := b }
  | 10 => writeClamped 0 100 v fun w => s.setGroupCfg g fun c => { c with derate := w }
  | 11 => writeClamped 0 1000 v fun w => s.setGroupCfg g fun c => { c with sinkOffset := w }
  | 12 => writeClamped 0 65535 v fun w => s.setGroupCfg g fun c => { c with minFlow := w }
  | _ => s.refuse .badValue

/-- A WRITE of GROUP (R87). -/
def State.writeGroup (s : State) (index field : Nat) (values : List Byte) : Worked :=
  s.needing 4 values
    (if h : index < 8 then s.writeGroupField ⟨index, h⟩ field (valueOf values) else s.refuse .badIndex)

/-! ### CURVE (R115) -/

/-- The points of a request for the whole curve: T and p of two bytes each (section 10.1). -/
def pointsOf (values : List Byte) : Vector CurvePoint 8 :=
  Vector.ofFn fun i => { t := (halfAt values (4 * i.val)).toInt, p := (halfAt values (4 * i.val + 2)).toNat }

/-- A curve is written if its percentages and its order are good (R115). -/
def State.putCurve (s : State) (g : Fin 8) (field : Nat) (values : List Byte) (curve : Vector CurvePoint 8) : Worked :=
  if curve.toList.all (fun p => decide (p.p ≤ 100)) && curveOrdered curve.toList then
    (s.modGroup g fun q => { q with curve := curve }).wrote (Config.curveReply g.val field values) false
  else s.refuse .badValue

/-- A signed 16-bit temperature (00_scope section 5.1). -/
def isTemperature (t : Int) : Bool := decide (-32768 ≤ t) && decide (t ≤ 32767)

/-- A WRITE of CURVE for group `g` at a point number 0..8 (R115). -/
def State.writeCurveAt (s : State) (g : Fin 8) (field : Nat) (values : List Byte) : Worked :=
  if h : field < 8 then
    let t := signedOf values
    if isTemperature t then
      s.putCurve g field values ((s.group g).curve.set field { t := t, p := (longAt values 4).toNat } h)
    else s.refuse .badValue
  else s.putCurve g field values (pointsOf values)

/-- A WRITE of CURVE (R115). -/
def State.writeCurve (s : State) (index field : Nat) (values : List Byte) : Worked :=
  s.needing (if field < 8 then 8 else if field = 8 then 32 else 0) values
    (if h : index < 8 then
      if field ≤ 8 then s.writeCurveAt ⟨index, h⟩ field values else s.refuse .badIndex
    else s.refuse .badIndex)

/-! ### STAGE (R120) -/

/-- Down below up in each stage, and the up thresholds not falling (R120). -/
def stagesOrdered : List StageEntry → Bool
  | [] => true
  | [e] => decide (e.down < e.up)
  | e :: f :: rest => decide (e.down < e.up) && decide (e.up ≤ f.up) && stagesOrdered (f :: rest)

/-- A threshold of the stage table is written if the table stays in order, and the stage timers are re-evaluated (R120, R121). -/
def State.writeThreshold (s : State) (k : Fin 4) (v : Long) (f : StageEntry → Int → StageEntry) : Worked :=
  let table := s.clu.stages.set k (f s.clu.stages[k] v.toInt)
  if isTemperature v.toInt && stagesOrdered table.toList then
    (State.evaluateStage { s with clu.stages := table }).wrote v false
  else s.refuse .badValue

/-- A write of a field of stage `k` + 1 (R120, R124). In FORWARD-ONLY a derate is worked into the station percentage, and the capacities
stand (log 41). -/
def State.writeStageField (s : State) (k : Fin 4) (field : Nat) (v : Long) : Worked :=
  match field with
  | 0 => s.writeThreshold k v fun e t => { e with up := t }
  | 1 => s.writeThreshold k v fun e t => { e with down := t }
  | 2 =>
    writeClamped 0 100 v.toNat fun w =>
      (State.workPercentage { s with clu.stages := s.clu.stages.set k { s.clu.stages[k] with derate := w } }).regulate
  | _ => s.refuse .badValue

/-- A WRITE of STAGE (R120). -/
def State.writeStage (s : State) (index field : Nat) (values : List Byte) : Worked :=
  s.needing 4 values
    (if h : 1 ≤ index ∧ index ≤ 4 then s.writeStageField ⟨index - 1, by omega⟩ field (longAt values 0) else s.refuse .badIndex)

/-! ### PROFILE-STEP and PROFILE (R80) -/

/-- A step changes. -/
def State.setStep (s : State) (k : Fin 256) (f : ProfileStep → ProfileStep) : State :=
  { s with line.steps := s.line.steps.set k (f s.line.steps[k]) }

/-- The nearest signed 16-bit number. -/
def clampOffset (v : Int) : Int := max (-32768) (min v 32767)

/-- A write of a field of a step (R80). -/
def State.writeStepField (s : State) (k : Fin 256) (field : Nat) (v : Long) : Worked :=
  match field with
  | 0 =>
    let w := clampOffset v.toInt
    (s.setStep k fun p => { p with offset := w }).wrote (BitVec.ofInt 32 w) (w != v.toInt)
  | 1 => writeClamped 1 3600 v.toNat fun w => s.setStep k fun p => { p with duration := w }
  | 2 => s.writeUpTo 15 v.toNat fun w => s.setStep k fun p => { p with marker := w }
  | 3 => s.writeFlag v.toNat fun b => s.setStep k fun p => { p with last := b }
  | _ => s.refuse .badValue

/-- A WRITE of PROFILE-STEP (R80). -/
def State.writeProfileStep (s : State) (index field : Nat) (values : List Byte) : Worked :=
  s.needing 4 values
    (if h : index < 256 then s.writeStepField ⟨index, h⟩ field (longAt values 0) else s.refuse .badIndex)

/-- A directory entry changes. -/
def State.setProfile (s : State) (n : Fin 8) (f : ProfileEntry → ProfileEntry) : State :=
  { s with line.profiles := s.line.profiles.set n (f s.line.profiles[n]) }

/-- The trigger classes by code; NONE is 255 (section 10.1). -/
def triggerOf (v : Nat) : Option (Option Nat) := if v ≤ 7 then some (some v) else if v = 255 then some none else none

/-- A write of a field of a directory entry (R80). -/
def State.writeProfileField (s : State) (n : Fin 8) (field v : Nat) : Worked :=
  match field with
  | 0 => writeClamped 0 255 v fun w => s.setProfile n fun p => { p with startStep := Fin.ofNat 256 w }
  | 1 => s.writeChoice triggerOf v fun t => s.setProfile n fun p => { p with trigger := t }
  | _ => s.refuse .badValue

/-- A WRITE of PROFILE (R80). -/
def State.writeProfile (s : State) (index field : Nat) (values : List Byte) : Worked :=
  s.needing 4 values
    (if h : index < 8 then s.writeProfileField ⟨index, h⟩ field (valueOf values) else s.refuse .badIndex)

/-! ### TARIFF-WINDOW and TARIFF-DEFAULT (R144, R145) -/

/-- The written copy of a window changes. -/
def State.setWindow (s : State) (w : Fin 4) (f : TariffWindow → TariffWindow) : State :=
  { s with tru.written.windows := s.tru.written.windows.set w (f s.tru.written.windows[w]) }

/-- A write of a field of a tariff window (R145). -/
def State.writeWindowField (s : State) (w : Fin 4) (field v : Nat) : Worked :=
  match field with
  | 0 => s.writeFlag v fun b => s.setWindow w fun x => { x with enable := b }
  | 1 => s.writeUpTo 32767 v fun n => s.setWindow w fun x => { x with base := BitVec.ofNat 15 n }
  | 2 =>
    if isMask 15 v then (s.setWindow w fun x => { x with mask := BitVec.ofNat 15 v }).wrote (BitVec.ofNat 32 v) false
    else s.refuse .badValue
  | 3 => s.writeChoice mapModeOf v fun m => s.setWindow w fun x => { x with mode := m }
  | 4 => s.writeUpTo 65535 v fun n => s.setWindow w fun x => { x with calendarBase := BitVec.ofNat 16 n }
  | 5 => writeClamped 0 Config.rateMax v fun n => s.setWindow w fun x => { x with own.rate := n }
  | 6 => writeClamped 0 count32Max v fun n => s.setWindow w fun x => { x with own.limit := n }
  | 7 => s.writeUpTo 7 v fun n => s.setWindow w fun x => { x with own.cls := n }
  | 8 => s.writeFlag v fun b => s.setWindow w fun x => { x with own.valid := b }
  | _ => s.refuse .badValue

/-- A WRITE of TARIFF-WINDOW (R145). -/
def State.writeTariffWindow (s : State) (index field : Nat) (values : List Byte) : Worked :=
  s.needing 4 values
    (if h : index < 4 then s.writeWindowField ⟨index, h⟩ field (valueOf values) else s.refuse .badIndex)

/-- A write of a field of the default entry (R144). -/
def State.writeDefaultField (s : State) (field v : Nat) : Worked :=
  match field with
  | 0 => writeClamped 0 Config.rateMax v fun n => { s with tru.written.fallback.rate := n }
  | 1 => writeClamped 0 count32Max v fun n => { s with tru.written.fallback.limit := n }
  | 2 => s.writeUpTo 7 v fun n => { s with tru.written.fallback.cls := n }
  | _ => s.refuse .badValue

/-- A WRITE of TARIFF-DEFAULT (R144). -/
def State.writeTariffDefault (s : State) (index field : Nat) (values : List Byte) : Worked :=
  s.needing 4 values (if index = 0 then s.writeDefaultField field (valueOf values) else s.refuse .badIndex)

/-! ### LINE (R41, R66, R17, R155) -/

/-- A configuration field of the line changes. -/
def State.setLineCfg (s : State) (f : LineConfig → LineConfig) : State := { s with line.cfg := f s.line.cfg }

/-- The three voltages keep their order (R41). -/
def AeConfig.ordered (c : AeConfig) : Bool := decide (c.vclr < c.vae) && decide (c.vae ≤ c.vmax)

/-- A write of one of the three voltages (R41). -/
def State.writeVoltage (s : State) (lo hi v : Nat) (f : AeConfig → AeConfig) : Worked :=
  if lo ≤ v ∧ v ≤ hi ∧ (f s.line.ae).ordered = true then
    State.wrote { s with line.ae := f s.line.ae } (BitVec.ofNat 32 v) false
  else s.refuse .badValue

/-- A write of HL is worked at once by R78 (R66). -/
def State.writeHl (s : State) (v : Nat) : Worked :=
  writeClamped 1 4000000000 v fun w => (s.setLineCfg fun c => { c with hl := w }).workHeatRecovery

/-- A write of the AE hold limit re-evaluates the AE hold (R41, R75). -/
def State.writeHoldLimit (s : State) (v : Nat) : Worked :=
  writeClamped 1 16 v fun w => State.workAeHold { s with line.ae.holdLimit := w }

/-- A write of a field of LINE (R66, R41, R17, R155). -/
def State.writeLineField (s : State) (field v : Nat) : Worked :=
  match field with
  | 0 => writeClamped 0 65535 v fun w => s.setLineCfg fun c => { c with inom := w }
  | 1 => writeClamped 1000 65535 v fun w => s.setLineCfg fun c => { c with imin := w }
  | 2 => writeClamped 0 65535 v fun w => s.setLineCfg fun c => { c with if0 := w }
  | 3 => writeClamped 0 65535 v fun w => s.setLineCfg fun c => { c with itrip := w }
  | 4 => writeClamped 1 65535 v fun w => s.setLineCfg fun c => { c with sup := w }
  | 5 => writeClamped 1 65535 v fun w => s.setLineCfg fun c => { c with sdn := w }
  | 6 => writeClamped 1 12 v fun w => s.setLineCfg fun c => { c with ki := w }
  | 7 => writeClamped 0 65535 v fun w => s.setLineCfg fun c => { c with cmax := w }
  | 8 => s.writeHl v
  | 9 => writeClamped 1 65535 v fun w => s.setLineCfg fun c => { c with hr := w }
  | 10 => s.writeVoltage 1 65535 v fun c => { c with vae := v }
  | 11 => s.writeVoltage 0 65534 v fun c => { c with vclr := v }
  | 12 => s.writeVoltage 1 65535 v fun c => { c with vmax := v }
  | 13 => writeClamped 1 10 v fun w => { s with line.ae.tq := w }
  | 14 => writeClamped 1 600 v fun w => { s with line.ae.tclr := w }
  | 15 => writeClamped 10 600 v fun w => { s with line.ae.tqx := w }
  | 16 => s.writeHoldLimit v
  | 17 => writeClamped 0 3600 v fun w => { s with line.inhibitTime := w }
  | 18 => s.writeFlag v fun b => { s with line.cacheEnable := b }
  | _ => s.refuse .badValue

/-- A WRITE of LINE. The line is one object, so the index is not read (R66; log 11). -/
def State.writeLine (s : State) (field : Nat) (values : List Byte) : Worked :=
  s.needing 4 values (s.writeLineField field (valueOf values))

/-! ### EVENTS and addresses (R169, R172) -/

/-- A write of the alarm enable of kind `k`, worked by R173 at once (R172). -/
def State.writeEnable (s : State) (k : EventKind) (v : Nat) : Worked :=
  s.writeFlag v fun b =>
    let e := s.meu.events[k.index]
    let m : Meu := { s.meu with events := s.meu.events.set k.index { e with enable := b } }
    { s with meu := m.evaluateAlarm }

/-- A WRITE of EVENTS (R172). -/
def State.writeEvents (s : State) (index : Nat) (values : List Byte) : Worked :=
  s.needing 4 values
    (match kindOfIndex index with
      | some k => if k.alarming then s.writeEnable k (valueOf values) else s.refuse .badIndex
      | none => s.refuse .badIndex)

/-- A WRITE of one of the four node addresses (R169). -/
def State.writeAddress (s : State) (index : Nat) (values : List Byte) (f : Addr → State) : Worked :=
  s.needing 4 values
    (if index = 0 then
      let v := valueOf values
      if 65535 ≤ v ∨ BitVec.ofNat 16 v = s.address then s.refuse .badValue
      else (f (BitVec.ofNat 16 v)).wrote (BitVec.ofNat 32 v) false
    else s.refuse .badIndex)

/-- A WRITE of MGMT-ADDRESS (R169). -/
def State.writeManagement (s : State) (index : Nat) (values : List Byte) : Worked :=
  s.writeAddress index values fun a => { s with meu.management := some a }

/-! ### A WRITE of any object (R167) -/

/-- A WRITE is worked by the rule of the object's owner (R167, checks 3 to 5). -/
def State.writeObject (s : State) (o : Object) (index field : Nat) (values : List Byte) : Worked :=
  match o with
  | .pot => s.writePot index field values
  | .map => s.writeMap index values
  | .sectionWindow => s.writeSection index field values
  | .group => s.writeGroup index field values
  | .curve => s.writeCurve index field values
  | .stage => s.writeStage index field values
  | .profileStep => s.writeProfileStep index field values
  | .profile => s.writeProfile index field values
  | .tariffWindow => s.writeTariffWindow index field values
  | .tariffDefault => s.writeTariffDefault index field values
  | .line => s.writeLine field values
  | .mgmtAddress => s.writeManagement index values
  | .supervisorAddress => s.writeAddress index values fun a => { s with meu.supervisor := a }
  | .serverAddress => s.writeAddress index values fun a => { s with meu.server := a }
  | .coolerAddress => s.writeAddress index values fun a => { s with meu.cooler := a }
  | .events => s.writeEvents index values
  | .energyRecord | .aeLog | .trace | .errorLog | .counters => s.refuse .badObject

/-! ### READ (R167, R168) -/

/-- The absent mask of up to 13 fields: the lowest bit stands for the first (section 10.1). -/
def absentMask : Fields → Nat
  | [] => 0
  | none :: rest => 1 + 2 * absentMask rest
  | some _ :: rest => 2 * absentMask rest

/-- The reply to a READ: the first field number, the count, the absent mask and the values (section 10.1). -/
def readBody (first : Nat) (fields : Fields) : List Byte :=
  [BitVec.ofNat 8 first, BitVec.ofNat 8 fields.length] ++ be16 (BitVec.ofNat 16 (absentMask fields))
    ++ fields.flatMap fun v => be32 (v.getD 0)

/-- The runs of a place, oldest first, as level and count (R62). -/
def Aeu.runsOf (u : Aeu) (pl : Nat) : List Run := u.trace.filter fun r => r.place == pl

/-- A READ of TRACE at a place and run number (R62; log 9). -/
def State.readTrace (s : State) (index field : Nat) : Worked :=
  match s.aeu.log.find? fun r => r.place == index with
  | none => s.refuse .badIndex
  | some r =>
    if r.runCount ≤ field then s.refuse .badIndex
    else
      (s, { code := .ok
            body := readBody field [numValue r.runCount]
              ++ (((s.aeu.runsOf index).drop field).take 25).flatMap fun x => [BitVec.ofNat 8 x.level, BitVec.ofNat 8 x.count] })

/-- A READ of CURVE at a group and point number (R115; log 9). -/
def State.readCurve (s : State) (index field : Nat) : Worked :=
  match s.gau.groups[index]? with
  | none => s.refuse .badIndex
  | some q =>
    if h : field < 8 then (s, { code := .ok, body := readBody field q.curve[field].fields })
    else if field = 8 then (s, { code := .ok, body := readBody field (q.curve.toList.map CurvePoint.packed) })
    else s.refuse .badIndex

/-- A READ (R167, R168): up to 13 fields from the one the field byte names. -/
def State.readObject (s : State) (o : Object) (index field : Nat) : Worked :=
  if o = .trace then s.readTrace index field
  else if o = .curve then s.readCurve index field
  else
    match s.objectFields o index with
    | none => s.refuse .badIndex
    | some fields =>
      if fields.length ≤ field then s.refuse .badValue
      else (s, { code := .ok, body := readBody field ((fields.drop field).take 13) })

/-! ### Commands -/

/-- A command on a group: a number above 7 is refused BAD-INDEX (R91, R103, R109). -/
def State.onGroup (s : State) (arg : Nat) (f : Fin 8 → Worked) : Worked :=
  if h : arg < 8 then f ⟨arg, h⟩ else s.refuse .badIndex

/-- START (R177). -/
def State.commandStart (s : State) : Worked := if s.active then s.refuse .badState else s.restart.done

/-- RESTART (R177). -/
def State.commandRestart (s : State) : Worked := s.restart.done

/-- STOP (R178). -/
def State.commandStop (s : State) : Worked := if s.active then s.stop.done else s.done

/-- CLAIM g (R91). -/
def State.commandClaim (s : State) (arg : Nat) : Worked :=
  s.onGroup arg fun g => if s.claimable (s.group g) then ((s.claimGroup g).regulate).done else s.refuse .badState

/-- RELEASE g, with the hand-over value formed before it (R103). -/
def State.commandRelease (s : State) (arg : Nat) : Worked :=
  s.onGroup arg fun g =>
    let q := s.group g
    if q.cfg.present then
      ((s.releaseGroup g).regulate, { code := .ok, body := be32 (BitVec.ofNat 32 q.handOver) })
    else s.refuse .badState

/-- SET-FULL g (R109). In FORWARD-ONLY it works too, and leaves Cap_g as it stands (R125, section 6.7; log 41). -/
def State.commandSetFull (s : State) (arg : Nat) : Worked :=
  s.onGroup arg fun g =>
    let q := s.group g
    if q.cfg.present then
      if q.form = .full then s.done
      else if q.latestForm = .full then (s.setFull g).done
      else s.refuse .badState
    else s.refuse .badState

/-- PROFILE-PLAY n (R81). -/
def State.commandPlay (s : State) (arg : Nat) : Worked :=
  s.onGroup arg fun n =>
    if s.active = false ∨ s.line.state = .tripped ∨ s.line.player.state ≠ .idle then s.refuse .badState
    else (s.startProfile n).done

/-- The player held, with its remaining time (R81). -/
def Player.hold (p : Player) (now : Nat) : Player :=
  { p with state := .held, remaining := p.stepEnd.map fun e => e - now, stepEnd := none }

/-- The player resumed, with its step end (R81). -/
def Player.resume (p : Player) (now : Nat) : Player :=
  { p with state := .playing, stepEnd := p.remaining.map fun r => now + r, remaining := none }

/-- PROFILE-HOLD (R81). -/
def State.commandHold (s : State) : Worked :=
  if s.line.player.state = .playing then State.done { s with line.player := s.line.player.hold s.time } else s.refuse .badState

/-- PROFILE-RESUME (R81). -/
def State.commandResume (s : State) : Worked :=
  if s.line.player.state = .held then State.done { s with line.player := s.line.player.resume s.time } else s.refuse .badState

/-- PROFILE-STOP (R81). -/
def State.commandStopProfile (s : State) : Worked :=
  if s.line.player.state = .idle then s.done else State.done { s with line.player := s.line.player.stopped }

/-- LINE-RESTART (R70). -/
def State.commandLineRestart (s : State) : Worked :=
  if s.line.state = .tripped then
    ((State.allocate { s with line := s.line.restarted s.clu.ic }).regulate).done
  else s.refuse .badState

/-- CACHE-INVALIDATE (R155). -/
def State.commandInvalidate (s : State) : Worked := State.done { s with tru.invalidation := true }

/-- ENERGY-RELEASE n, with the number of records removed (R139). -/
def State.commandEnergyRelease (s : State) (arg : Nat) : Worked :=
  let n := s.egu.queue.length
  ({ s with egu := s.egu.release arg },
    { code := if n < arg then .clamped else .ok, body := be32 (BitVec.ofNat 32 (min arg n)) })

/-- CLEAR-ERROR (R170). -/
def State.commandClearError (s : State) : Worked :=
  State.done { s with meu.errors := { s.meu.errors with err := false, lost := false } }

/-- The pending flags of the kinds at or below a level are cleared (R172). -/
def acknowledged (events : Vector EventSummary 26) (level : Nat) : Vector EventSummary 26 :=
  EventKind.all.foldl
    (fun ev k => if k.level.code ≤ level then ev.set k.index { ev[k.index] with pending := false } else ev) events

/-- ACK-EVENTS (R172, R173). -/
def State.commandAck (s : State) (arg : Nat) : Worked :=
  if arg ≤ 3 then State.done { s with meu := Meu.evaluateAlarm { s.meu with events := acknowledged s.meu.events arg } }
  else s.refuse .badValue

/-- A command with its argument, the request's index (section 10.1). -/
def State.command (s : State) (c : Command) (arg : Nat) : Worked :=
  match c with
  | .start => s.commandStart
  | .stop => s.commandStop
  | .restart => s.commandRestart
  | .claim => s.commandClaim arg
  | .release => s.commandRelease arg
  | .setFull => s.commandSetFull arg
  | .profilePlay => s.commandPlay arg
  | .profileHold => s.commandHold
  | .profileResume => s.commandResume
  | .profileStop => s.commandStopProfile
  | .lineRestart => s.commandLineRestart
  | .cacheInvalidate => s.commandInvalidate
  | .energyRelease => s.commandEnergyRelease arg
  | .clearError => s.commandClearError
  | .ackEvents => s.commandAck arg

/-! ### A request (R167, R169) -/

/-- A request is worked by the checks of R167 in order. -/
def State.workRequest (s : State) (r : Request) : Worked :=
  match operationOf r.op with
  | none => s.refuse .badValue
  | some .command =>
    match commandOf r.object with
    | none => s.refuse .badObject
    | some c => s.command c r.index.toNat
  | some .read =>
    match objectOf r.object with
    | none => s.refuse .badObject
    | some o => s.readObject o r.index.toNat r.field.toNat
  | some .write =>
    match objectOf r.object with
    | none => s.refuse .badObject
    | some o => if o.readOnly then s.refuse .badObject else s.writeObject o r.index.toNat r.field.toNat r.values

/-- The SRC may manage the part (R169). -/
def Meu.admits (m : Meu) (src : Addr) : Bool :=
  match m.management with
  | none => true
  | some a => a == src

/-- A request from a SRC that the access check refuses (R169). -/
def State.deny (s : State) (src : Addr) : Worked :=
  ((State.offerError { s with meu.denied := bump32 s.meu.denied } .mgmtDenied { first := src.toNat }), { code := .denied })

/-- A MGMT-REQUEST from a SRC with a SEQ, worked by `work` once it has passed the access check, and answered (R167, R169;
log 30). It is counted as taken before it is worked, so that a READ of COUNTERS 8 counts itself (log 46). One whose SRC is 0xFFFF is
worked, and its reply is not sent (R157; log 42). -/
def State.answerRequest (s : State) (src : Addr) (seq : Byte) (work : State → Worked) : State :=
  if Config.replyPlaces ≤ s.meu.sendList.length then { s with meu.requestOverrun := bump32 s.meu.requestOverrun }
  else
    let s1 : State := { s with meu.requestsTaken := bump32 s.meu.requestsTaken }
    let w := if s1.meu.admits src then work s1 else s1.deny src
    w.1.sendReply (replyFrame s.address src seq w.2)

/-- A MGMT-REQUEST (R167). -/
def State.takeRequest (s : State) (src : Addr) (seq : Byte) (r : Request) : State :=
  s.answerRequest src seq fun t => t.workRequest r

end Sys2Proof.Machine
end

