-- ==== Sys2Proof/Machine/Ring.lean ====
section
/-! DEFINITION. The ring port (09_station_ring): arrival (R158, R159), handing a frame to its block by its kind, bytes received
(R158), the ring-out arbiter (R163), the deferral timer (R164), the bypass under reset (R176). -/

namespace Sys2Proof.Machine

/-- The outcome of a command. -/
abbrev Outcome := Host.Outcome State Fault Refusal

/-! ### Counting frames (R158, R159) -/

/-- A malformed frame (R158, test 1). -/
def State.countMalformed (s : State) : State := { s with port.counters.malformed := bump32 s.port.counters.malformed }

/-- A frame with a bad CHECK (R158, test 2). -/
def State.countBadCheck (s : State) : State := { s with port.counters.badCheck := bump32 s.port.counters.badCheck }

/-- A stripped frame (R158, test 3). -/
def State.countStripped (s : State) : State := { s with port.counters.stripped := bump32 s.port.counters.stripped }

/-- A frame of an unknown kind (R159). -/
def State.countUnknown (s : State) : State := { s with port.counters.unknownKind := bump32 s.port.counters.unknownKind }

/-- A frame with a short payload (R159). -/
def State.countShort (s : State) : State := { s with port.counters.shortPayload := bump32 s.port.counters.shortPayload }

/-- The frame is appended to the forward queue, or dropped with a forward overrun (R160). -/
def State.forward (s : State) (f : Frame) : State := { s with port := s.port.forwardFrame f }

/-! ### Arrival (R158, R159) -/

/-- The frame is forwarded unless it is addressed to the part (R159). -/
def State.passOn (s : State) (f : Frame) : State := if f.dest = s.address then s else s.forward f

/-- A frame that has passed R158: forwarded or consumed, and handed over by `work` when its kind is taken and its payload is long
enough (R159; log 12). -/
def State.distribute (s : State) (f : Frame) (work : State → State) : State :=
  let s1 := s.passOn f
  match takenKind f.kind with
  | none => if f.dest = s.address then s1.countUnknown else s1
  | some k =>
    if f.dest = s.address ∨ k.passing = true then
      if f.payload.length < k.length then s1.countShort else work s1
    else s1

/-- A frame with a good CHECK arrives: tests 1 and 3 of R158, then R159. Such a frame has LEN equal to its payload's length. It
arrives whole, at one moment (log 39). -/
def State.arrive (s : State) (f : Frame) (work : State → State) : State :=
  if Config.payloadMax < f.payload.length then s.countMalformed
  else if f.src = s.address then s.countStripped
  else s.distribute f work

/-- The blocks that take a kind take its frame (R159). -/
def State.deliver (s : State) (k : TakenKind) (f : Frame) : State :=
  let p := f.payload
  match k with
  | .potSample => s.takePotSample f.src (slotsOf p)
  | .lineSample => s.takeLineSample (halfAt p 4).toNat (halfAt p 6).toNat
  | .timeMark => s.takeMark (halfAt p 0).toNat (longAt p 2).toNat
  | .statusFull =>
    s.takeStatus f.src (byteAt p 0) (halfAt p 1) (byteAt p 3)
      (some { echo := (halfAt p 4).toNat, tout := (halfAt p 6).toInt, tsink := (halfAt p 8).toInt, flow := (halfAt p 10).toNat })
  | .statusShort => s.takeStatus f.src (byteAt p 0) (halfAt p 1) (byteAt p 3) none
  | .groupAnswer => s.takeGroupAnswer f.src f.seq (byteAt p 0) (halfAt p 1).toNat
  | .groupProbe => s.takeProbe f.src f.seq (byteAt p 0) (byteAt p 1) (byteAt p 2)
  | .potAnswer => s.takePotAnswer f.src f.seq (byteAt p 0) (byteAt p 1)
  | .coolerStatus => s.takeCoolerStatus f.src (byteAt p 0) (byteAt p 1)
  | .calendarEntry =>
    s.takeCalendarEntry f.seq
      { index := halfAt p 0, slot := halfAt p 2, valid := byteAt p 4, cls := byteAt p 5, rate := longAt p 6, limit := longAt p 10 }
  | .request => s.takeRequest f.src f.seq (requestOf p)

/-- A frame of whatever kind is handed to the blocks that take it (R159). -/
def State.handOver (s : State) (f : Frame) : State :=
  match takenKind f.kind with
  | none => s
  | some k => s.deliver k f

/-- A frame with a good CHECK, of whatever kind, is received (R158, R159). -/
def State.receive (s : State) (f : Frame) : State := s.arrive f fun t => t.handOver f

/-- The bytes between two gaps of the ring-in pair are received (R158). -/
def State.receiveBytes (s : State) (bytes : List Byte) : State :=
  match parseFrame bytes with
  | .error .malformed => s.countMalformed
  | .error .badCheck => s.countBadCheck
  | .ok f => s.receive f

/-! ### The bypass (R176) -/

/-- Bytes on ring-in: repeated onto ring-out while the reset line is low, else received by `work` (R176). -/
def State.onRing (s : State) (bytes : List Byte) (work : State → State) : State :=
  if s.resetLow then { s with port.ringOut := some bytes } else work s

/-- A frame of a row on ring-in, taken by `work` where it is handed over (R158, R159, R176). -/
def State.frameRow (s : State) (f : Frame) (work : State → State) : State :=
  s.onRing (frameBytes f) fun t => t.arrive f work

/-- A management row on ring-in: a request with a payload, worked by `work` (R167). -/
def State.requestRow (s : State) (h : Header) (payload : List Byte) (work : State → Worked) : State :=
  s.frameRow (frameOf h .request payload) fun t => t.answerRequest h.src h.seq work

/-! ### Ring-out (R163) -/

/-- The head of the forward queue is sent (R160, R163). -/
def Port.sendForward (p : Port) (f : Frame) (rest : List Frame) : Port :=
  { p with
    forward := rest
    ringOut := some (frameBytes f)
    waitCount := if p.insert.isEmpty then p.waitCount else p.waitCount + 1
    counters.forwarded := bump32 p.counters.forwarded }

/-- The head of the insert queue is sent (R163). -/
def Port.sendInsert (p : Port) (f : Frame) (rest : List Frame) : Port :=
  { p with
    insert := rest, ringOut := some (frameBytes f), waitCount := 0, counters.inserted := bump32 p.counters.inserted }

/-- The ring-out pair is idle: the arbiter chooses and starts the next frame; a freed place of the insert queue admits frames (R161,
R163; log 4). -/
def State.sendNext (s : State) : State :=
  match s.port.forward, s.port.insert with
  | [], [] => s
  | f :: rest, [] => { s with port := s.port.sendForward f rest }
  | [], g :: rest => State.settle { s with port := s.port.sendInsert g rest }
  | f :: restF, g :: restI =>
    if s.port.waitCount < 2 then { s with port := s.port.sendForward f restF }
    else State.settle { s with port := s.port.sendInsert g restI }

/-! ### The deferral timer (R164) -/

/-- The deferral timer runs out: with records in the buffer the flag is set, and a REPORT is due (R164, R165). -/
def State.deferralExpires (s : State) : State :=
  State.settle { s with port := { s.port with
    deferral := none, deferralFlag := s.port.deferralFlag || !s.port.buffer.isEmpty } }

end Sys2Proof.Machine
end

