-- ==== Sys2Proof/Machine/Commands.lean ====
section
/-! DEFINITION. The meanings of the management command rows, one definition for each. A row is the MGMT-REQUEST frame of the command:
it passes the ring port (R158, R159) and the access check (R169) like any other. -/

namespace Sys2Proof.Machine

/-- START (R177). -/
def execStart (h : Header) (arg : Half) (tail : List Byte) (s : State) : Outcome :=
  .next (s.requestRow h (commandPayload .start arg tail) fun t => t.commandStart)

/-- RESTART (R177). -/
def execRestart (h : Header) (arg : Half) (tail : List Byte) (s : State) : Outcome :=
  .next (s.requestRow h (commandPayload .restart arg tail) fun t => t.commandRestart)

/-- STOP (R178). -/
def execStop (h : Header) (arg : Half) (tail : List Byte) (s : State) : Outcome :=
  .next (s.requestRow h (commandPayload .stop arg tail) fun t => t.commandStop)

/-- CLAIM (R91). -/
def execClaim (h : Header) (arg : Half) (tail : List Byte) (s : State) : Outcome :=
  .next (s.requestRow h (commandPayload .claim arg tail) fun t => t.commandClaim arg.toNat)

/-- RELEASE (R103). -/
def execRelease (h : Header) (arg : Half) (tail : List Byte) (s : State) : Outcome :=
  .next (s.requestRow h (commandPayload .release arg tail) fun t => t.commandRelease arg.toNat)

/-- SET_FULL (R109). -/
def execSetFull (h : Header) (arg : Half) (tail : List Byte) (s : State) : Outcome :=
  .next (s.requestRow h (commandPayload .setFull arg tail) fun t => t.commandSetFull arg.toNat)

/-- PROFILE_PLAY (R81). -/
def execProfilePlay (h : Header) (arg : Half) (tail : List Byte) (s : State) : Outcome :=
  .next (s.requestRow h (commandPayload .profilePlay arg tail) fun t => t.commandPlay arg.toNat)

/-- PROFILE_HOLD (R81). -/
def execProfileHold (h : Header) (arg : Half) (tail : List Byte) (s : State) : Outcome :=
  .next (s.requestRow h (commandPayload .profileHold arg tail) fun t => t.commandHold)

/-- PROFILE_RESUME (R81). -/
def execProfileResume (h : Header) (arg : Half) (tail : List Byte) (s : State) : Outcome :=
  .next (s.requestRow h (commandPayload .profileResume arg tail) fun t => t.commandResume)

/-- PROFILE_STOP (R81). -/
def execProfileStop (h : Header) (arg : Half) (tail : List Byte) (s : State) : Outcome :=
  .next (s.requestRow h (commandPayload .profileStop arg tail) fun t => t.commandStopProfile)

/-- LINE_RESTART (R70). -/
def execLineRestart (h : Header) (arg : Half) (tail : List Byte) (s : State) : Outcome :=
  .next (s.requestRow h (commandPayload .lineRestart arg tail) fun t => t.commandLineRestart)

/-- CACHE_INVALIDATE (R155). -/
def execCacheInvalidate (h : Header) (arg : Half) (tail : List Byte) (s : State) : Outcome :=
  .next (s.requestRow h (commandPayload .cacheInvalidate arg tail) fun t => t.commandInvalidate)

/-- ENERGY_RELEASE (R139). -/
def execEnergyRelease (h : Header) (arg : Half) (tail : List Byte) (s : State) : Outcome :=
  .next (s.requestRow h (commandPayload .energyRelease arg tail) fun t => t.commandEnergyRelease arg.toNat)

/-- CLEAR_ERROR (R170). -/
def execClearError (h : Header) (arg : Half) (tail : List Byte) (s : State) : Outcome :=
  .next (s.requestRow h (commandPayload .clearError arg tail) fun t => t.commandClearError)

/-- ACK_EVENTS (R172). -/
def execAckEvents (h : Header) (arg : Half) (tail : List Byte) (s : State) : Outcome :=
  .next (s.requestRow h (commandPayload .ackEvents arg tail) fun t => t.commandAck arg.toNat)

end Sys2Proof.Machine
end

