-- ==== Sys2Proof/Machine/Timers.lean ====
section
/-! DEFINITION. Timers: for each expiry row, when it is due, by the rule of its owner. Part time moves only on an empty queue (log 1),
so each expiry is taken at its own part time. -/

namespace Sys2Proof.Machine

/-- A time has been reached. -/
def reached (now : Nat) : Option Nat → Bool
  | none => false
  | some t => decide (t ≤ now)

/-- The deferral timer has run out (R164). -/
def State.deferralDue (s : State) : Bool := reached s.time s.port.deferral

/-- A STARTING or RUNNING pot has been silent for 10 000 ms (R12). -/
def State.potLostDue (s : State) (p : Fin 384) : Bool :=
  s.active && (s.pot p).sup.worked && decide ((s.pot p).lastTime + 10000 ≤ s.time)

/-- The inhibit-until time has been reached (R17). -/
def State.inhibitEndDue (s : State) (p : Fin 384) : Bool := reached s.time (s.pot p).inhibitUntil

/-- An advice was decided 20 000 ms ago (R36). -/
def State.adviceExpiryDue (s : State) (p : Fin 384) : Bool :=
  match (s.pot p).order with
  | none => false
  | some o => o.kind.advice && decide (o.sent + 20000 ≤ s.time)

/-- A SUSPECT pot's qualification end has been reached (R45, R43). -/
def State.qualificationDue (s : State) (p : Fin 384) : Bool :=
  s.active && (s.pot p).ae == .suspect && reached s.time (s.pot p).fx.qualificationEnd

/-- A QUENCHING pot's quench timeout has been reached (R53, R43). -/
def State.quenchTimeoutDue (s : State) (p : Fin 384) : Bool :=
  s.active && (s.pot p).ae == .quenching && reached s.time (s.pot p).fx.quenchTimeout

/-- A CLEARING pot's clear end has been reached (R54, R43). -/
def State.clearEndDue (s : State) (p : Fin 384) : Bool :=
  s.active && (s.pot p).ae == .clearing && reached s.time (s.pot p).fx.clearEnd

/-- The trip watch was set 1000 ms ago (R68). -/
def State.tripDue (s : State) : Bool := s.active && reached s.time (s.line.tripWatch.map fun t => t + 1000)

/-- The step end of a PLAYING profile has been reached (R82). -/
def State.stepEndDue (s : State) : Bool :=
  s.active && s.line.player.state == .playing && reached s.time s.line.player.stepEnd

/-- The step counter of group `g` has reached 0 at a tick of its clock (R93). A command at that part time may come first, and a write of the
latch or the clock then reloads the counter, so that the step does not open (log 45). -/
def State.stepTimerDue (s : State) (g : Fin 8) : Bool :=
  decide ((s.group g).cfg.latch ≠ 0) && decide ((s.group g).stepCounter = 0)

/-- A pending group order was decided 2000 ms ago (R98). -/
def State.orderTimeoutDue (s : State) (g : Fin 8) : Bool :=
  match (s.group g).order with
  | none => false
  | some o => decide (o.sent + 2000 ≤ s.time)

/-- A FRESH group's last status time lies 3000 ms in the past (R105, R106). -/
def State.holdingDue (s : State) (g : Fin 8) : Bool :=
  s.active && (s.group g).cfg.present && (s.group g).stale == .fresh
    && reached s.time ((s.group g).lastStatus.map fun t => t + 3000)

/-- A HOLDING group's last status time lies 30 000 ms in the past (R106). -/
def State.silentDue (s : State) (g : Fin 8) : Bool :=
  s.active && (s.group g).cfg.present && (s.group g).stale == .holding
    && reached s.time ((s.group g).lastStatus.map fun t => t + 30000)

/-- The up condition has held for 30 000 ms (R121). -/
def State.stageUpDue (s : State) : Bool := s.active && reached s.time (s.clu.upSince.map fun t => t + 30000)

/-- The down condition has held for 300 000 ms (R121). -/
def State.stageDownDue (s : State) : Bool := s.active && reached s.time (s.clu.downSince.map fun t => t + 300000)

/-- The confirm end has been reached while AWAITING (R123). -/
def State.coolerDue (s : State) : Bool := s.active && s.clu.confirmation == .awaiting && reached s.time s.clu.confirmEnd

/-- The fetch of place `k` was issued 5000 ms ago (R153). -/
def State.fetchDue (s : State) (k : Fin 2) : Bool := s.active && reached s.time (s.tru.table[k].map fun f => f.sent + 5000)

/-- The observation end has been reached in OBSERVING (R179). -/
def State.takeoverDue (s : State) : Bool := s.meu.mode == .observing && reached s.time s.meu.observationEnd

/-- A known station clock's ms of day has reached 86 400 000 in FORWARD-ONLY (R126). -/
def State.dayEndDue (s : State) : Bool :=
  !s.active && (match s.egu.clock with | none => false | some c => decide (Config.dayMs ≤ c.ms))

/-! ### The passing of time -/

/-- The station clock advances by 1 ms (R126). -/
def Clock.tick (c : Clock) : Clock := { c.normal with ms := c.normal.ms + 1 }

/-- One millisecond of part time passes: the station clock advances and the step counters count down at the ticks of their clocks
(R93, R126; log 1). -/
def State.tick (s : State) : State :=
  { s with
    time := s.time + 1
    egu.clock := s.egu.clock.map Clock.tick
    gau.groups := s.gau.groups.map fun q => q.countDown (s.time + 1) }

/-! ### What happens next on an empty queue (log 1, 3) -/

/-- Per pot, group and fetch place, a due test beside the row that takes it. -/
def rowsFor {n : Nat} (due : Fin n → Bool) (row : Fin n → Instr) : List (Bool × Instr) :=
  (List.finRange n).map fun k => (due k, row k)

/-- Every expiry row beside its due test, in the order of the opcode table (log 3). -/
def State.expiries (s : State) : List (Bool × Instr) :=
  [(s.deferralDue, .deferralTimerExpiry)] ++ rowsFor s.potLostDue .potLost ++ rowsFor s.inhibitEndDue .inhibitEnd
    ++ rowsFor s.adviceExpiryDue .adviceExpiry ++ rowsFor s.qualificationDue .qualificationEnd
    ++ rowsFor (fun p => s.quenchReady (s.pot p)) .quenchDue ++ rowsFor s.quenchTimeoutDue .quenchTimeout
    ++ rowsFor s.clearEndDue .clearEnd ++ [(s.tripDue, .lineTrip), (s.stepEndDue, .stepEnd)]
    ++ rowsFor s.stepTimerDue .stepTimer ++ rowsFor s.orderTimeoutDue .groupOrderTimeout ++ rowsFor s.holdingDue .groupHolding
    ++ rowsFor s.silentDue .groupSilent
    ++ [(s.stageUpDue, .stageUp), (s.stageDownDue, .stageDown), (s.coolerDue, .coolerNoResponse), (s.slotEndDue, .slotEnd),
      (s.prefetchDue, .prefetch)]
    ++ rowsFor s.fetchDue .fetchTimeout ++ [(s.takeoverDue, .takeover), (s.dayEndDue, .stationDayEnd)]

/-- The first expiry that is due (log 3). -/
def State.dueEvent (s : State) : Option Instr := (s.expiries.find? fun e => e.1).map fun e => e.2

end Sys2Proof.Machine
end

