-- ==== Sys2Proof/Machine/Expiries.lean ====
section
/-! DEFINITION. The meanings of the expiry rows, one definition for each. A row whose timer is not due changes nothing (log 2), and
none is taken while the reset line is low (log 6). -/

namespace Sys2Proof.Machine

/-- An expiry is taken when it is due. -/
def State.expire (s : State) (due : Bool) (effect : State) : Outcome := .next (if s.resetLow = false ∧ due = true then effect else s)

/-- DEFERRAL_TIMER_EXPIRY (R164). -/
def execDeferralTimerExpiry (s : State) : Outcome := s.expire s.deferralDue s.deferralExpires

/-- POT_LOST (R12). -/
def execPotLost (p : Fin 384) (s : State) : Outcome := s.expire (s.potLostDue p) (s.losePot p)

/-- INHIBIT_END (R17). -/
def execInhibitEnd (p : Fin 384) (s : State) : Outcome :=
  s.expire (s.inhibitEndDue p) (s.modPot p fun q => { q with inhibitUntil := none })

/-- ADVICE_EXPIRY (R36). -/
def execAdviceExpiry (p : Fin 384) (s : State) : Outcome := s.expire (s.adviceExpiryDue p) (s.expireAdvice p)

/-- QUALIFICATION_END (R45). -/
def execQualificationEnd (p : Fin 384) (s : State) : Outcome := s.expire (s.qualificationDue p) (s.modPot p Pot.glitch)

/-- QUENCH_DUE (R47): due while every condition of the decision holds. -/
def execQuenchDue (p : Fin 384) (s : State) : Outcome := s.expire (s.quenchReady (s.pot p)) (s.decideQuench p)

/-- QUENCH_TIMEOUT (R53). -/
def execQuenchTimeout (p : Fin 384) (s : State) : Outcome := s.expire (s.quenchTimeoutDue p) (s.quenchExpires p)

/-- CLEAR_END (R54). -/
def execClearEnd (p : Fin 384) (s : State) : Outcome := s.expire (s.clearEndDue p) (s.effectEnds p)

/-- LINE_TRIP (R68, R69). -/
def execLineTrip (s : State) : Outcome := s.expire s.tripDue s.trip.regulate

/-- STEP_END (R82). -/
def execStepEnd (s : State) : Outcome := s.expire s.stepEndDue s.runOut

/-- STEP_TIMER (R93, R94). -/
def execStepTimer (g : Fin 8) (s : State) : Outcome := s.expire (s.stepTimerDue g) ((s.modGroup g Group.openStep).regulate)

/-- GROUP_ORDER_TIMEOUT (R98). -/
def execGroupOrderTimeout (g : Fin 8) (s : State) : Outcome := s.expire (s.orderTimeoutDue g) (s.orderTimeout g)

/-- GROUP_HOLDING (R105). -/
def execGroupHolding (g : Fin 8) (s : State) : Outcome := s.expire (s.holdingDue g) (s.holdGroup g)

/-- GROUP_SILENT (R106). -/
def execGroupSilent (g : Fin 8) (s : State) : Outcome := s.expire (s.silentDue g) (s.silenceGroup g)

/-- STAGE_UP (R121). -/
def execStageUp (s : State) : Outcome := s.expire s.stageUpDue (s.changeStage (s.clu.wanted + 1))

/-- STAGE_DOWN (R121). -/
def execStageDown (s : State) : Outcome := s.expire s.stageDownDue (s.changeStage (s.clu.wanted - 1))

/-- COOLER_NO_RESPONSE (R123). -/
def execCoolerNoResponse (s : State) : Outcome := s.expire s.coolerDue s.coolerFails

/-- SLOT_END (R130). -/
def execSlotEnd (s : State) : Outcome := s.expire s.slotEndDue s.endSlot

/-- PREFETCH (R150). -/
def execPrefetch (s : State) : Outcome := s.expire s.prefetchDue s.makePrefetch

/-- FETCH_TIMEOUT (R153). -/
def execFetchTimeout (k : Fin 2) (s : State) : Outcome := s.expire (s.fetchDue k) (s.fetchExpires k)

/-- TAKEOVER (R179). -/
def execTakeover (s : State) : Outcome := s.expire s.takeoverDue s.takeOver

/-- STATION_DAY_END (R126). -/
def execStationDayEnd (s : State) : Outcome := s.expire s.dayEndDue s.endDay

end Sys2Proof.Machine
end

