-- ==== Sys2Proof/Machine/Frames.lean ====
section
/-! DEFINITION. The meanings of the reset rows, of the frame rows and of RING_OUT_SEND, one definition for each. -/

namespace Sys2Proof.Machine

/-! ### The reset line (R176) -/

/-- RESET_LOW (R176): the bypass begins and the ALARM line is released. -/
def execResetLow (s : State) : Outcome := .next { s with resetLow := true, meu.alarm := false }

/-- RESET_RELEASE (R176, R157); with the line not held low it changes nothing (log 6). The commands that wait are the world's. -/
def execResetRelease (straps : Byte) (s : State) : Outcome :=
  .next (if s.resetLow then { State.powerOn straps with pending := s.pending } else s)

/-! ### Frames on ring-in (R158, R159) -/

/-- FRAME_REJECTED (R158): a string of bytes on ring-in, tested for form. Bytes that are a good frame are received as one (log 13). -/
def execFrameRejected (bytes : List Byte) (s : State) : Outcome := .next (s.onRing bytes fun t => t.receiveBytes bytes)

/-- FRAME_PASSING (R160). -/
def execFramePassing (f : Frame) (s : State) : Outcome := .next (s.frameRow f fun t => t.handOver f)

/-- UNKNOWN_KIND (R159). -/
def execUnknownKind (f : Frame) (s : State) : Outcome := .next (s.frameRow f fun t => t.handOver f)

/-- POT_SAMPLE (R1). The time field is not read (section 1.1). -/
def execPotSample (h : Header) (time : Long) (slots : Vector SlotReading 8) (extra : List Byte) (s : State) : Outcome :=
  .next (s.frameRow (frameOf h .potSample (potSamplePayload time slots extra)) fun t => t.takePotSample h.src slots)

/-- LINE_SAMPLE (R67). The time field is not read. -/
def execLineSample (h : Header) (time : Long) (il vl : Half) (extra : List Byte) (s : State) : Outcome :=
  .next (s.frameRow (frameOf h .lineSample (lineSamplePayload time il vl extra)) fun t => t.takeLineSample il.toNat vl.toNat)

/-- TIME_MARK (R127). -/
def execTimeMark (h : Header) (day : Half) (ms : Long) (extra : List Byte) (s : State) : Outcome :=
  .next (s.frameRow (frameOf h .timeMark (timeMarkPayload day ms extra)) fun t => t.takeMark day.toNat ms.toNat)

/-- GROUP_STATUS_FULL (R89). -/
def execGroupStatusFull (h : Header) (mode : Byte) (current : Half) (tap : Byte) (echo tout tsink flow : Half)
    (extra : List Byte) (s : State) : Outcome :=
  .next (s.frameRow (frameOf h .statusFull (statusFullPayload mode current tap echo tout tsink flow extra)) fun t =>
    t.takeStatus h.src mode current tap
      (some { echo := echo.toNat, tout := tout.toInt, tsink := tsink.toInt, flow := flow.toNat }))

/-- GROUP_STATUS_SHORT (R107, R108). -/
def execGroupStatusShort (h : Header) (mode : Byte) (current : Half) (tap : Byte) (extra : List Byte) (s : State) : Outcome :=
  .next (s.frameRow (frameOf h .statusShort (statusShortPayload mode current tap extra)) fun t =>
    t.takeStatus h.src mode current tap none)

/-- GROUP_ANSWER (R96). -/
def execGroupAnswer (h : Header) (result : Byte) (setpoint : Half) (extra : List Byte) (s : State) : Outcome :=
  .next (s.frameRow (frameOf h .groupAnswer (groupAnswerPayload result setpoint extra)) fun t =>
    t.takeGroupAnswer h.src h.seq result setpoint.toNat)

/-- GROUP_PROBE (R101), with any next-state code. -/
def execGroupProbe (h : Header) (group data next : Byte) (extra : List Byte) (s : State) : Outcome :=
  .next (s.frameRow (frameOf h .groupProbe (groupProbePayload group data next extra)) fun t =>
    t.takeProbe h.src h.seq group data next)

/-- WATCH (R102): a probe with next-state 1. -/
def execWatch (h : Header) (group data : Byte) (extra : List Byte) (s : State) : Outcome :=
  .next (s.frameRow (frameOf h .groupProbe (groupProbePayload group data 1 extra)) fun t =>
    t.takeProbe h.src h.seq group data 1)

/-- UNWATCH (R102): a probe with next-state 2. -/
def execUnwatch (h : Header) (group data : Byte) (extra : List Byte) (s : State) : Outcome :=
  .next (s.frameRow (frameOf h .groupProbe (groupProbePayload group data 2 extra)) fun t =>
    t.takeProbe h.src h.seq group data 2)

/-- TAKE_LOCAL (R103): a probe with next-state 3. -/
def execTakeLocal (h : Header) (group data : Byte) (extra : List Byte) (s : State) : Outcome :=
  .next (s.frameRow (frameOf h .groupProbe (groupProbePayload group data 3 extra)) fun t =>
    t.takeProbe h.src h.seq group data 3)

/-- RETURN_REMOTE (R103): a probe with next-state 4. -/
def execReturnRemote (h : Header) (group data : Byte) (extra : List Byte) (s : State) : Outcome :=
  .next (s.frameRow (frameOf h .groupProbe (groupProbePayload group data 4 extra)) fun t =>
    t.takeProbe h.src h.seq group data 4)

/-- POT_ANSWER (R33). -/
def execPotAnswer (h : Header) (slot result : Byte) (extra : List Byte) (s : State) : Outcome :=
  .next (s.frameRow (frameOf h .potAnswer (potAnswerPayload slot result extra)) fun t =>
    t.takePotAnswer h.src h.seq slot result)

/-- COOLER_STATUS (R123). -/
def execCoolerStatus (h : Header) (running available : Byte) (extra : List Byte) (s : State) : Outcome :=
  .next (s.frameRow (frameOf h .coolerStatus (coolerStatusPayload running available extra)) fun t =>
    t.takeCoolerStatus h.src running available)

/-- CALENDAR_ENTRY (R151). -/
def execCalendarEntry (h : Header) (index slot : Half) (valid cls : Byte) (rate limit : Long) (extra : List Byte) (s : State) :
    Outcome :=
  .next (s.frameRow (frameOf h .calendarEntry (calendarEntryPayload index slot valid cls rate limit extra)) fun t =>
    t.takeCalendarEntry h.seq { index := index, slot := slot, valid := valid, cls := cls, rate := rate, limit := limit })

/-! ### Ring-out (R163) -/

/-- RING_OUT_SEND (R163). While the reset line is low the bypass drives the pair. -/
def execRingOutSend (s : State) : Outcome := .next (if s.resetLow then s else s.sendNext)

end Sys2Proof.Machine
end

