-- ==== Sys2Proof/Machine/Writes.lean ====
section
/-! DEFINITION. The meanings of the management write rows, one definition for each; MGMT_WRITE takes any request whatever (log 10). -/

namespace Sys2Proof.Machine

/-- MGMT_WRITE (R167): a request with any operation, object, index, field and values. -/
def execMgmtWrite (h : Header) (op object : Byte) (index : Half) (field : Byte) (values : List Byte) (s : State) : Outcome :=
  let r : Request := { op := op, object := object, index := index, field := field, values := values }
  .next (s.requestRow h r.bytes fun t => t.workRequest r)

/-- POT_WRITE (R6). -/
def execPotWrite (h : Header) (pot : Half) (field : Byte) (values : List Byte) (s : State) : Outcome :=
  .next (s.requestRow h (writePayload .pot pot field values) fun t => t.writePot pot.toNat field.toNat values)

/-- POT_ENABLE (R8): a WRITE of enabled with the value 1. -/
def execPotEnable (h : Header) (pot : Half) (extra : List Byte) (s : State) : Outcome :=
  .next (s.requestRow h (writePayload .pot pot 0 (be32 1 ++ extra)) fun t => t.writePot pot.toNat 0 (be32 1 ++ extra))

/-- POT_DISABLE (R9): a WRITE of enabled with the value 0. -/
def execPotDisable (h : Header) (pot : Half) (extra : List Byte) (s : State) : Outcome :=
  .next (s.requestRow h (writePayload .pot pot 0 (be32 0 ++ extra)) fun t => t.writePot pot.toNat 0 (be32 0 ++ extra))

/-- AUTOMATIC_QUENCH_WRITE (R6, R47). -/
def execAutomaticQuenchWrite (h : Header) (pot : Half) (values : List Byte) (s : State) : Outcome :=
  .next (s.requestRow h (writePayload .pot pot 9 values) fun t => t.writePot pot.toNat 9 values)

/-- HL_WRITE (R66, R78). -/
def execHlWrite (h : Header) (index : Half) (values : List Byte) (s : State) : Outcome :=
  .next (s.requestRow h (writePayload .line index 8 values) fun t => t.writeLine 8 values)

/-- AE_HOLD_LIMIT_WRITE (R41, R75). -/
def execAeHoldLimitWrite (h : Header) (index : Half) (values : List Byte) (s : State) : Outcome :=
  .next (s.requestRow h (writePayload .line index 16 values) fun t => t.writeLine 16 values)

/-- GROUP_PRESENT_WRITE (R88). -/
def execGroupPresentWrite (h : Header) (group : Half) (values : List Byte) (s : State) : Outcome :=
  .next (s.requestRow h (writePayload .group group 0 values) fun t => t.writeGroup group.toNat 0 values)

/-- NODE_ADDRESS_WRITE (R88). -/
def execNodeAddressWrite (h : Header) (group : Half) (values : List Byte) (s : State) : Outcome :=
  .next (s.requestRow h (writePayload .group group 1 values) fun t => t.writeGroup group.toNat 1 values)

/-- STEP_LATCH_WRITE (R93). -/
def execStepLatchWrite (h : Header) (group : Half) (values : List Byte) (s : State) : Outcome :=
  .next (s.requestRow h (writePayload .group group 6 values) fun t => t.writeGroup group.toNat 6 values)

/-- STEP_CLOCK_WRITE (R93). -/
def execStepClockWrite (h : Header) (group : Half) (values : List Byte) (s : State) : Outcome :=
  .next (s.requestRow h (writePayload .group group 5 values) fun t => t.writeGroup group.toNat 5 values)

/-- STAGE_WRITE (R120). -/
def execStageWrite (h : Header) (stage : Half) (field : Byte) (values : List Byte) (s : State) : Outcome :=
  .next (s.requestRow h (writePayload .stage stage field values) fun t => t.writeStage stage.toNat field.toNat values)

/-- EVENTS_WRITE (R172). -/
def execEventsWrite (h : Header) (kind : Half) (field : Byte) (values : List Byte) (s : State) : Outcome :=
  .next (s.requestRow h (writePayload .events kind field values) fun t => t.writeEvents kind.toNat values)

/-- MGMT_ADDRESS_WRITE (R169). -/
def execMgmtAddressWrite (h : Header) (index : Half) (field : Byte) (values : List Byte) (s : State) : Outcome :=
  .next (s.requestRow h (writePayload .mgmtAddress index field values) fun t => t.writeManagement index.toNat values)

end Sys2Proof.Machine
end

