-- ==== Sys2Proof/Machine/Dispatch.lean ====
section
/-! DEFINITION. The dispatch of the commands: one arm for each row of the opcode table, each one call of the row's meaning. -/

namespace Sys2Proof.Machine

/-- A command's effect on the state (everything but the queue of waiting commands). -/
def exec (i : Instr) (s : State) : Host.Outcome State Fault Refusal :=
  match i with
  | .resetLow => Sys2Proof.Machine.execResetLow s
  | .resetRelease straps => Sys2Proof.Machine.execResetRelease straps s
  | .frameRejected bytes => Sys2Proof.Machine.execFrameRejected bytes s
  | .framePassing f => Sys2Proof.Machine.execFramePassing f s
  | .unknownKind f => Sys2Proof.Machine.execUnknownKind f s
  | .potSample h time slots extra => Sys2Proof.Machine.execPotSample h time slots extra s
  | .lineSample h time il vl extra => Sys2Proof.Machine.execLineSample h time il vl extra s
  | .timeMark h day ms extra => Sys2Proof.Machine.execTimeMark h day ms extra s
  | .groupStatusFull h mode current tap echo tout tsink flow extra => Sys2Proof.Machine.execGroupStatusFull h mode current tap echo tout tsink flow extra s
  | .groupStatusShort h mode current tap extra => Sys2Proof.Machine.execGroupStatusShort h mode current tap extra s
  | .groupAnswer h result setpoint extra => Sys2Proof.Machine.execGroupAnswer h result setpoint extra s
  | .groupProbe h group data next extra => Sys2Proof.Machine.execGroupProbe h group data next extra s
  | .watch h group data extra => Sys2Proof.Machine.execWatch h group data extra s
  | .unwatch h group data extra => Sys2Proof.Machine.execUnwatch h group data extra s
  | .takeLocal h group data extra => Sys2Proof.Machine.execTakeLocal h group data extra s
  | .returnRemote h group data extra => Sys2Proof.Machine.execReturnRemote h group data extra s
  | .potAnswer h slot result extra => Sys2Proof.Machine.execPotAnswer h slot result extra s
  | .coolerStatus h running available extra => Sys2Proof.Machine.execCoolerStatus h running available extra s
  | .calendarEntry h index slot valid cls rate limit extra => Sys2Proof.Machine.execCalendarEntry h index slot valid cls rate limit extra s
  | .ringOutSend => Sys2Proof.Machine.execRingOutSend s
  | .deferralTimerExpiry => Sys2Proof.Machine.execDeferralTimerExpiry s
  | .potLost p => Sys2Proof.Machine.execPotLost p s
  | .inhibitEnd p => Sys2Proof.Machine.execInhibitEnd p s
  | .adviceExpiry p => Sys2Proof.Machine.execAdviceExpiry p s
  | .qualificationEnd p => Sys2Proof.Machine.execQualificationEnd p s
  | .quenchDue p => Sys2Proof.Machine.execQuenchDue p s
  | .quenchTimeout p => Sys2Proof.Machine.execQuenchTimeout p s
  | .clearEnd p => Sys2Proof.Machine.execClearEnd p s
  | .lineTrip => Sys2Proof.Machine.execLineTrip s
  | .stepEnd => Sys2Proof.Machine.execStepEnd s
  | .stepTimer g => Sys2Proof.Machine.execStepTimer g s
  | .groupOrderTimeout g => Sys2Proof.Machine.execGroupOrderTimeout g s
  | .groupHolding g => Sys2Proof.Machine.execGroupHolding g s
  | .groupSilent g => Sys2Proof.Machine.execGroupSilent g s
  | .stageUp => Sys2Proof.Machine.execStageUp s
  | .stageDown => Sys2Proof.Machine.execStageDown s
  | .coolerNoResponse => Sys2Proof.Machine.execCoolerNoResponse s
  | .slotEnd => Sys2Proof.Machine.execSlotEnd s
  | .prefetch => Sys2Proof.Machine.execPrefetch s
  | .fetchTimeout k => Sys2Proof.Machine.execFetchTimeout k s
  | .takeover => Sys2Proof.Machine.execTakeover s
  | .start h arg tail => Sys2Proof.Machine.execStart h arg tail s
  | .restart h arg tail => Sys2Proof.Machine.execRestart h arg tail s
  | .stop h arg tail => Sys2Proof.Machine.execStop h arg tail s
  | .claim h arg tail => Sys2Proof.Machine.execClaim h arg tail s
  | .release h arg tail => Sys2Proof.Machine.execRelease h arg tail s
  | .setFull h arg tail => Sys2Proof.Machine.execSetFull h arg tail s
  | .profilePlay h arg tail => Sys2Proof.Machine.execProfilePlay h arg tail s
  | .profileHold h arg tail => Sys2Proof.Machine.execProfileHold h arg tail s
  | .profileResume h arg tail => Sys2Proof.Machine.execProfileResume h arg tail s
  | .profileStop h arg tail => Sys2Proof.Machine.execProfileStop h arg tail s
  | .lineRestart h arg tail => Sys2Proof.Machine.execLineRestart h arg tail s
  | .cacheInvalidate h arg tail => Sys2Proof.Machine.execCacheInvalidate h arg tail s
  | .energyRelease h arg tail => Sys2Proof.Machine.execEnergyRelease h arg tail s
  | .clearError h arg tail => Sys2Proof.Machine.execClearError h arg tail s
  | .ackEvents h arg tail => Sys2Proof.Machine.execAckEvents h arg tail s
  | .mgmtWrite h op object index field values => Sys2Proof.Machine.execMgmtWrite h op object index field values s
  | .potWrite h pot field values => Sys2Proof.Machine.execPotWrite h pot field values s
  | .potEnable h pot extra => Sys2Proof.Machine.execPotEnable h pot extra s
  | .potDisable h pot extra => Sys2Proof.Machine.execPotDisable h pot extra s
  | .automaticQuenchWrite h pot values => Sys2Proof.Machine.execAutomaticQuenchWrite h pot values s
  | .hlWrite h index values => Sys2Proof.Machine.execHlWrite h index values s
  | .aeHoldLimitWrite h index values => Sys2Proof.Machine.execAeHoldLimitWrite h index values s
  | .groupPresentWrite h group values => Sys2Proof.Machine.execGroupPresentWrite h group values s
  | .nodeAddressWrite h group values => Sys2Proof.Machine.execNodeAddressWrite h group values s
  | .stepLatchWrite h group values => Sys2Proof.Machine.execStepLatchWrite h group values s
  | .stepClockWrite h group values => Sys2Proof.Machine.execStepClockWrite h group values s
  | .stageWrite h stage field values => Sys2Proof.Machine.execStageWrite h stage field values s
  | .eventsWrite h kind field values => Sys2Proof.Machine.execEventsWrite h kind field values s
  | .mgmtAddressWrite h index field values => Sys2Proof.Machine.execMgmtAddressWrite h index field values s
  | .stationDayEnd => Sys2Proof.Machine.execStationDayEnd s

end Sys2Proof.Machine
end

