-- ==== Sys2Proof/Machine/Step.lean ====
section
/-! DEFINITION. The step: the command at the front of the queue, or on an empty queue what the part does by itself (log 1). -/

namespace Sys2Proof.Machine

/-- On an empty queue the first expiry that is due is taken, and with none due 1 ms of part time passes; under reset nothing happens
(log 1, 3, 6). -/
def State.idle (s : State) : Host.Outcome State Fault Refusal :=
  if s.resetLow then .next s
  else
    match s.dueEvent with
    | some i => exec i s
    | none => .next s.tick

/-- One step: the command at the front of the queue is taken, with the queue's rest left. -/
def step (s : State) : Host.Outcome State Fault Refusal :=
  match s.pending with
  | [] => s.idle
  | i :: rest => exec i { s with pending := rest }

/-- The state with the command that a word spells at the front of its queue. The table gives no row bits, so no word spells one. -/
def State.withFetchWord (s : State) (nbits w : Nat) : State :=
  match Sys2Proof.decodeTableWord nbits w with
  | none => s
  | some i => { s with pending := i :: s.pending }

end Sys2Proof.Machine
end

