-- ==== Sys2Proof/Safety.lean ====
section
/-! DEFINITION. What a safe part is: the frame each row stands for, the conditions under which a frame or a request is taken, the answer
to a request on a part whose arbiter has nothing left to place, and the laws of the part that the spec names or implies, each as a
proposition over one state. -/

namespace Sys2Proof

open Machine

/-! ### Rows and frames -/

/-- The frame that a row stands for, where it stands for one (R157). -/
def rowFrame : Instr → Option Frame
  | .resetLow => none
  | .resetRelease _ => none
  | .frameRejected _ => none
  | .framePassing f => some f
  | .unknownKind f => some f
  | .potSample h time slots extra => some (frameOf h .potSample (potSamplePayload time slots extra))
  | .lineSample h time il vl extra => some (frameOf h .lineSample (lineSamplePayload time il vl extra))
  | .timeMark h day ms extra => some (frameOf h .timeMark (timeMarkPayload day ms extra))
  | .groupStatusFull h mode current tap echo tout tsink flow extra =>
    some (frameOf h .statusFull (statusFullPayload mode current tap echo tout tsink flow extra))
  | .groupStatusShort h mode current tap extra => some (frameOf h .statusShort (statusShortPayload mode current tap extra))
  | .groupAnswer h result setpoint extra => some (frameOf h .groupAnswer (groupAnswerPayload result setpoint extra))
  | .groupProbe h group data next extra => some (frameOf h .groupProbe (groupProbePayload group data next extra))
  | .watch h group data extra => some (frameOf h .groupProbe (groupProbePayload group data 1 extra))
  | .unwatch h group data extra => some (frameOf h .groupProbe (groupProbePayload group data 2 extra))
  | .takeLocal h group data extra => some (frameOf h .groupProbe (groupProbePayload group data 3 extra))
  | .returnRemote h group data extra => some (frameOf h .groupProbe (groupProbePayload group data 4 extra))
  | .potAnswer h slot result extra => some (frameOf h .potAnswer (potAnswerPayload slot result extra))
  | .coolerStatus h running available extra => some (frameOf h .coolerStatus (coolerStatusPayload running available extra))
  | .calendarEntry h index slot valid cls rate limit extra =>
    some (frameOf h .calendarEntry (calendarEntryPayload index slot valid cls rate limit extra))
  | .ringOutSend => none
  | .deferralTimerExpiry => none
  | .potLost _ => none
  | .inhibitEnd _ => none
  | .adviceExpiry _ => none
  | .qualificationEnd _ => none
  | .quenchDue _ => none
  | .quenchTimeout _ => none
  | .clearEnd _ => none
  | .lineTrip => none
  | .stepEnd => none
  | .stepTimer _ => none
  | .groupOrderTimeout _ => none
  | .groupHolding _ => none
  | .groupSilent _ => none
  | .stageUp => none
  | .stageDown => none
  | .coolerNoResponse => none
  | .slotEnd => none
  | .prefetch => none
  | .fetchTimeout _ => none
  | .takeover => none
  | .start h arg tail => some (frameOf h .request (commandPayload .start arg tail))
  | .restart h arg tail => some (frameOf h .request (commandPayload .restart arg tail))
  | .stop h arg tail => some (frameOf h .request (commandPayload .stop arg tail))
  | .claim h arg tail => some (frameOf h .request (commandPayload .claim arg tail))
  | .release h arg tail => some (frameOf h .request (commandPayload .release arg tail))
  | .setFull h arg tail => some (frameOf h .request (commandPayload .setFull arg tail))
  | .profilePlay h arg tail => some (frameOf h .request (commandPayload .profilePlay arg tail))
  | .profileHold h arg tail => some (frameOf h .request (commandPayload .profileHold arg tail))
  | .profileResume h arg tail => some (frameOf h .request (commandPayload .profileResume arg tail))
  | .profileStop h arg tail => some (frameOf h .request (commandPayload .profileStop arg tail))
  | .lineRestart h arg tail => some (frameOf h .request (commandPayload .lineRestart arg tail))
  | .cacheInvalidate h arg tail => some (frameOf h .request (commandPayload .cacheInvalidate arg tail))
  | .energyRelease h arg tail => some (frameOf h .request (commandPayload .energyRelease arg tail))
  | .clearError h arg tail => some (frameOf h .request (commandPayload .clearError arg tail))
  | .ackEvents h arg tail => some (frameOf h .request (commandPayload .ackEvents arg tail))
  | .mgmtWrite h op object index field values =>
    some (frameOf h .request
      (Request.bytes { op := op, object := object, index := index, field := field, values := values }))
  | .potWrite h pot field values => some (frameOf h .request (writePayload .pot pot field values))
  | .potEnable h pot extra => some (frameOf h .request (writePayload .pot pot 0 (be32 1 ++ extra)))
  | .potDisable h pot extra => some (frameOf h .request (writePayload .pot pot 0 (be32 0 ++ extra)))
  | .automaticQuenchWrite h pot values => some (frameOf h .request (writePayload .pot pot 9 values))
  | .hlWrite h index values => some (frameOf h .request (writePayload .line index 8 values))
  | .aeHoldLimitWrite h index values => some (frameOf h .request (writePayload .line index 16 values))
  | .groupPresentWrite h group values => some (frameOf h .request (writePayload .group group 0 values))
  | .nodeAddressWrite h group values => some (frameOf h .request (writePayload .group group 1 values))
  | .stepLatchWrite h group values => some (frameOf h .request (writePayload .group group 6 values))
  | .stepClockWrite h group values => some (frameOf h .request (writePayload .group group 5 values))
  | .stageWrite h stage field values => some (frameOf h .request (writePayload .stage stage field values))
  | .eventsWrite h kind field values => some (frameOf h .request (writePayload .events kind field values))
  | .mgmtAddressWrite h index field values => some (frameOf h .request (writePayload .mgmtAddress index field values))
  | .stationDayEnd => none

/-- The bytes that a row puts on the ring-in pair, where it puts any. -/
def rowBytes : Instr → Option (List Byte)
  | .frameRejected bytes => some bytes
  | i => (rowFrame i).map frameBytes

namespace Machine

/-! ### Taking frames and requests -/

/-- The part takes a frame of kind `k` with header `h`: it is not held in reset, the frame is not its own come round the ring, and it is
addressed to the part or of a kind that is read in passing (R158, R159, R176). -/
def State.takes (s : State) (h : Header) (k : TakenKind) : Bool :=
  !s.resetLow && h.src != s.address && (h.dest == s.address || k.passing)

/-- The part takes a management request with header `h` and payload `p`, has room for its reply, and admits its SRC (R158, R159, R167,
R169). -/
def State.admits (s : State) (h : Header) (p : List Byte) : Bool :=
  !s.resetLow && h.src != s.address && h.dest == s.address && decide (5 ≤ p.length) && decide (p.length ≤ Config.payloadMax)
    && decide (s.meu.sendList.length < Config.replyPlaces) && s.meu.admits h.src

/-- The arbiter has nothing that it may place: the part between its steps (R161, R162). -/
abbrev State.Settled (s : State) : Prop := s.nextSource = none

/-- No group has an order left to decide, and a group whose latch is 0 has step-open clear: the part between its steps (R93, R94,
R110). -/
def State.Regulated (s : State) : Prop :=
  ∀ g, s.orderDue (s.group g) = false ∧ s.zeroOrderDue (s.group g) = false
    ∧ ((s.group g).cfg.latch = 0 → (s.group g).stepOpen = false)

/-- The answer to a request that the part has taken, on a settled part: the reply enters the insert queue at once when a place is free,
and waits in MEU's send list otherwise (R161, R167). A SRC of 0xFFFF gets no reply (R157; log 42). -/
def State.replied (s : State) (h : Header) (r : Reply) : State :=
  let f := replyFrame s.address h.src h.seq r
  let m : Meu := { s.meu with requestsTaken := bump32 s.meu.requestsTaken }
  if h.src = Config.broadcast then { s with meu := m }
  else if s.port.insert.length < Config.insertPlaces then
    { s with meu := m, port := { s.port.enter f with pointer := .gau } }
  else { s with meu := { m with sendList := m.sendList ++ [f] } }

/-- The state once a frame of kind `k` that is taken has been forwarded, or consumed when it is addressed to the part (R159, R160). -/
def State.carried (s : State) (h : Header) (k : TakenKind) (p : List Byte) : State := s.passOn (frameOf h k p)

/-- A POT-SAMPLE carries one reading, that of slot `k` with marker `m`, and a DIRECT window, which alone hits, sends it to pot `p` (R1,
R2). -/
def State.readsOne (s : State) (h : Header) (slots : Vector SlotReading 8) (k : Fin 8) (p : Fin 384) (m : Byte := 0) : Bool :=
  s.active
    && (match s.smap.windows.toList.filter fun w => w.hits h.src with
      | [w] => w.mode == .direct && w.indexBase + (h.src &&& w.mask).toNat * 8 + k.val == p.val
      | _ => false)
    && (List.finRange 8).all fun i => if i = k then slots[i].marker == m else slots[i].marker == 7

/-- What every reading that is taken writes in the record: order address, last voltage, last sample time (R10). -/
def Pot.sampled (q : Pot) (src : Addr) (slot vp now : Nat) : Pot :=
  { q with orderAddress := some (src, slot), lastVoltage := vp, lastTime := now }

/-- The record of pot `p` after a computable reading without a marker, but for what an advice or the anode effect unit does: resistance,
filters, band, dwell and starting count, and what every reading writes (R10, R11). -/
def State.computedPot (s : State) (p : Fin 384) (src : Addr) (slot vp : Nat) : Pot :=
  (((s.pot p).compute s.line.il vp false).countStarting).sampled src slot vp s.time

/-- Where the frame of an order just decided for pot `p` stands, with the order's unsent flag: in the insert queue, or in the send list, or
nowhere when it is for 0xFFFF (R31, R157; log 42). -/
def State.orderPlaced (t : State) (p : Fin 384) (f : Frame) (unsent : Bool) : Prop :=
  if f.dest = Config.broadcast then unsent = true
  else unsent = false ∧ f ∈ t.port.insert ∨ unsent = true ∧ (p, f) ∈ t.psu.sendList

/-- The same for a group order (R95, R157; log 42). -/
def State.groupOrderPlaced (t : State) (g : Fin 8) (f : Frame) (unsent : Bool) : Prop :=
  if f.dest = Config.broadcast then unsent = true
  else unsent = false ∧ f ∈ t.port.insert ∨ unsent = true ∧ (⟨.order g, f⟩ : GauItem) ∈ t.gau.sendList

/-- The order of pot `p` is the one that an answer from `src` for `slot` with SEQ `seq` matches: of the lowest pot that it fits (R33). -/
def State.answers (s : State) (p : Fin 384) (src : Addr) (slot seq : Byte) : Bool :=
  (s.pot p).answeredBy src slot.toNat seq && (List.finRange 384).all fun q => !(s.pot q).answeredBy src slot.toNat seq || p ≤ q

/-- A frame of the part is in the insert queue or waits in the send list of the group authority unit, unless it is for 0xFFFF, where
none is sent (R157; log 42). -/
def State.hasSent (s : State) (f : Frame) : Prop :=
  f.dest ≠ Config.broadcast → f ∈ s.port.insert ∨ ∃ i ∈ s.gau.sendList, i.frame = f

/-- A reply is in the insert queue or waits in MEU's send list, unless it is for 0xFFFF, where none is sent (R157; log 42). -/
def State.hasReplied (s : State) (f : Frame) : Prop := f.dest ≠ Config.broadcast → f ∈ s.port.insert ∨ f ∈ s.meu.sendList

/-- A WATCH-NOTICE of the part is in the insert queue, with the notice sequence number that it took there (R162), or waits in the send list
of the group authority unit, unless it is for 0xFFFF, where none is sent (R157; log 42). -/
def State.hasNotice (s : State) (f : Frame) : Prop :=
  f.dest ≠ Config.broadcast → (∃ n, { f with seq := n } ∈ s.port.insert) ∨ (⟨.notice, f⟩ : GauItem) ∈ s.gau.sendList

/-- The last notice of a release of group `g` to a watcher: its confirmed setpoint, and authority RELEASED (R100, R104). -/
def State.lastNotice (s : State) (g : Fin 8) (watcher : Addr) : Frame :=
  { dest := watcher, src := s.address, kind := 0x26, seq := 0
    payload := [BitVec.ofNat 8 g.val] ++ be16 (BitVec.ofNat 16 (s.group g).confirmed) ++ [0] }

/-- The record `x` of a group that has claimed itself, from its record `q` before the status or probe with reported current `i` (R91, R92):
HELD with the reported current as confirmed setpoint, and a whole step period to wait. A group in withdrawal is wanted at 0 and, above 0,
ordered there at once (R110). -/
def Group.autoclaimed (q x : Group) (now i : Nat) : Prop :=
  x.watcher = q.watcher ∧ x.streak = 0 ∧ x.stepCounter = q.cfg.latch ∧ x.stepOpen = false
    ∧ (x.withdrawal = .none ∨ i = 0 → x.authority = .held ∧ x.order = none ∧ x.confirmed = i)
    ∧ (x.withdrawal ≠ .none → x.wanted = 0)
    ∧ (x.withdrawal ≠ .none → 0 < i → x.form = .full ∧ q.cfg.ack = .external → x.authority = .pending ∧ x.confirmed = i
      ∧ ∃ o, x.order = some o ∧ o.setpoint = 0 ∧ o.withdraw = true ∧ o.sent = now)
    ∧ (x.withdrawal ≠ .none → 0 < i → x.form = .basic ∨ q.cfg.ack = .internal →
      x.authority = .held ∧ x.order = none ∧ x.confirmed = 0)

/-- What R94 and R110 decide at once, in `t`, for group `g` whose record has become `x` in the state `s`: the zero order of a withdrawal, or the
order of an open step, pending under EXTERNAL and confirmed at once under INTERNAL, with its frame; else the record stands as `x`. A zero order
clears status-since-order as well, and leaves step-open (log 26). -/
def State.orderWorked (s : State) (g : Fin 8) (x : Group) (t : State) : Prop :=
  let zero : Prop := x.authority ≠ .released ∧ x.order = none ∧ x.withdrawal ≠ .none ∧ 0 < x.confirmed ∧ s.meu.mode = .supervising
  let step : Prop := (x.authority = .held ∨ x.authority = .heldWatched) ∧ x.stepOpen = true ∧ x.cfg.latch ≠ 0
    ∧ x.cfg.deadband ≤ ((x.wanted : Int) - x.confirmed).natAbs ∧ x.stale = .fresh ∧ x.withdrawal = .none
    ∧ (x.form = .full ∨ x.statusSince = true) ∧ s.meu.mode = .supervising
  let decides (n : Nat) (withdraw : Bool) : Prop :=
    let y : Group := { x with
      stepOpen := x.stepOpen && withdraw, statusSince := false, counters.ordersSent := bump32 x.counters.ordersSent }
    let placed (seq : Byte) (unsent : Bool) : Prop := t.groupOrderPlaced g
      { dest := x.cfg.node, src := s.address, kind := 0x22, seq := seq
        payload := be16 (BitVec.ofNat 16 n) ++ [if withdraw then 1 else 0] } unsent
    (x.form = .full → x.cfg.ack = .external → ∃ o : GroupOrder, o.setpoint = n ∧ o.withdraw = withdraw ∧ o.sent = s.time
        ∧ t.group g = { y with order := some o, authority := x.authority.toPending } ∧ placed o.seq o.unsent)
      ∧ (x.form = .basic ∨ x.cfg.ack = .internal → t.group g = { y with confirmed := n } ∧ ∃ seq unsent, placed seq unsent)
  (¬zero → ¬step → t.group g = x) ∧ (zero → decides 0 true) ∧ (step → decides x.wanted false)

/-- Group `g`, which is in withdrawal, has been claimed, from `s` to `t`: its record is that of a claim with the zero order of R110, whose frame
is placed, and no other block changes (R91). -/
def State.withdrawnClaimed (s : State) (g : Fin 8) (t : State) : Prop :=
  let q := s.group g
  q.autoclaimed (t.group g) s.time q.reported
    ∧ s.orderWorked g
      { q with
        confirmed := q.reported, wanted := 0, authority := .held, streak := 0, order := none, stepCounter := q.cfg.latch
        stepOpen := false } t
    ∧ t.smap = s.smap ∧ t.psu = s.psu ∧ t.aeu = s.aeu ∧ t.line = s.line ∧ t.clu = s.clu ∧ t.egu = s.egu ∧ t.tru = s.tru

/-- What a re-evaluation of R121 leaves in `t`, worked from `s`: the hottest temperature is the largest Teq of the counted groups, and a
stage condition that holds keeps its start or starts now. -/
def State.stageEvaluated (s t : State) : Prop :=
  let teq (g : Fin 8) : Option Int :=
    let x := t.group g
    if x.cfg.present = true ∧ x.stale = .fresh ∧ x.form = .full then x.teq else none
  let c := t.clu
  let up : Prop := ∃ k : Fin 4, k.val = c.wanted ∧ ∃ m, c.hottest = some m ∧ c.stages[k].up ≤ m
  let down : Prop := ∃ k : Fin 4, k.val + 1 = c.wanted ∧ ∃ m, c.hottest = some m ∧ m < c.stages[k].down
  (c.hottest = none ↔ ∀ g, teq g = none)
    ∧ (∀ m, c.hottest = some m → (∃ g, teq g = some m) ∧ ∀ g v, teq g = some v → v ≤ m)
    ∧ (up → c.upSince = some (s.clu.upSince.getD s.time)) ∧ (¬up → c.upSince = none)
    ∧ (down → c.downSince = some (s.clu.downSince.getD s.time)) ∧ (¬down → c.downSince = none)

/-- What R124 leaves in `t`, worked from `s`: the counted stage, the station percentage and the shortfall flag, with every capacity evaluated
and Ic formed when the percentage has changed (R118, R119); in FORWARD-ONLY the capacities stand (section 6.7; log 41). The flag and the event go
by the percentage, so that a derate of 100 gives neither (log 25). -/
def stationWorked (s t : State) : Prop :=
  let c := t.clu
  c.counted = min c.available (if c.confirmation = .failed then c.running else c.wanted)
    ∧ c.pct = (if c.wanted ≤ c.counted then 100 else match c.stages[c.counted]? with | some e => e.derate | none => 100)
    ∧ c.shortfall = decide (c.pct < 100)
    ∧ (c.pct < 100 → s.clu.shortfall = false → (t.meu.events[EventKind.coolingShortfall.index]).pending = true)
    ∧ (c.pct = s.clu.pct → c.ic = s.clu.ic ∧ ∀ g, (t.group g).cap = (s.group g).cap)
    ∧ (c.pct ≠ s.clu.pct → c.ic = t.stationCapacity ∧ ∀ g, (t.group g).cap =
      if s.meu.mode = .forwardOnly then (s.group g).cap
      else if (s.group g).cfg.present = true ∧ (s.group g).stale ≠ .silent
      then (s.group g).cfg.rated * (s.group g).pct / 100 * c.pct / 100 else 0)
    ∧ t.line = { s.line with
        it := if c.ic = s.clu.ic ∨ s.line.state = .tripped then s.line.it else min s.line.it c.ic
        ig := t.line.ig, tripWatch := t.line.tripWatch, belowFloor := t.line.belowFloor }
    ∧ t.smap = s.smap ∧ t.psu = s.psu ∧ t.aeu = s.aeu ∧ t.egu = s.egu ∧ t.tru = s.tru

/-- The energy record of a slot that is closed: priced at the entry in force, its overrun over the demand limit (R133, R137, section 7.6). -/
def slotRecord (o : OpenSlot) : EnergyRecord :=
  { number := o.number, energy := o.es, cost := o.cost + ((o.es - o.costedMark) * o.entry.rate + 500000) / 1000000
    aeEnergy := o.aeEnergy, overrun := if o.number = none ∨ o.entry.limit = 0 then 0 else o.es - o.entry.limit * 1000
    curtailed := o.curtailed / 1000, minIl := o.minIl.getD 0, maxIl := o.maxIl.getD 0, cls := o.entry.cls, source := o.source
    timeStep := o.timeStep, gap := o.gap, part := o.part, lostBefore := false }

/-- A record has been appended to the queue, which loses its head when it holds 64 (R138); the totals otherwise stand. -/
def Egu.queued (u v : Egu) (r : EnergyRecord) : Prop :=
  (u.queue.length < 64 → v.queue = u.queue ++ [r] ∧ v.lost = u.lost ∧ v.lostRecords = u.lostRecords)
    ∧ (∀ old rest, 64 ≤ u.queue.length → u.queue = old :: rest →
      v.queue = rest ++ [{ r with lostBefore := true }] ∧ v.lost = u.lost + old.energy ∧ v.lostRecords = bump32 u.lostRecords)
    ∧ v.queueHigh = (u.queueHigh || decide (56 ≤ v.queue.length))
    ∧ v.total = u.total ∧ v.released = u.released ∧ v.remainder = u.remainder

/-- The fetch of slot `n` with index `i` is issued into place `k`, from `s` to `t`: the place, its CALENDAR-ASK, the sequence number and the
counter (R149). -/
def State.issued (s : State) (k : Fin 2) (n : Nat) (i : Half) (t : State) : Prop :=
  ∃ unsent : Bool,
    (let f := askFrame s.address s.meu.server s.tru.seq i n
     unsent = false ∧ f ∈ t.port.insert ∨ unsent = true ∧ f ∈ t.tru.sendList)
      ∧ t.tru.table[k] = some { slot := n, index := i, seq := s.tru.seq, sent := s.time, unsent := unsent }
      ∧ (∀ j, j ≠ k → (t.tru.table[j]).map (fun f => (f.slot, f.index, f.seq, f.sent))
        = (s.tru.table[j]).map fun f => (f.slot, f.index, f.seq, f.sent))
      ∧ t = { s with
          port := t.port
          tru := { s.tru with
            table := t.tru.table, sendList := t.tru.sendList, seq := s.tru.seq + 1
            counters.fetchesSent := bump32 s.tru.counters.fetchesSent } }

/-- A waiting fetch is for the open slot or the next, and neither cached nor the declined note (R149). -/
def State.wants (s : State) (e : Nat × Half) : Prop :=
  (∃ o, s.tru.lookup.slot = some o ∧ (e.1 = o ∨ e.1 = nextSlot o)) ∧ s.tru.lookupCache e.1 e.2 = none ∧ s.tru.declined ≠ some e

/-- The freed place `k` is refilled from the wait list, from `s` to `t`: the oldest entry still wanted is issued and those before it are
dropped; with none wanted the list is emptied (R149). -/
def State.refilled (s : State) (k : Fin 2) (t : State) : Prop :=
  ((∀ e ∈ s.tru.waitList, ¬s.wants e) → t = { s with tru.waitList := [] })
    ∧ ∀ before e after, s.tru.waitList = before ++ e :: after → (∀ x ∈ before, ¬s.wants x) → s.wants e →
      State.issued { s with tru.waitList := after } k e.1 e.2 t

/-- A fetch for slot `n` with index `i` is requested, from `s` to `t` (R149). One that the table or the wait list holds already changes
nothing. Else a waiting fetch of the slot with another index goes, one in the table is abandoned and its place refilled first, and the fetch
is issued into a free place, the lowest by the model's choice (log 44), or waits when both are in use. -/
def State.requested (s : State) (n : Nat) (i : Half) (t : State) : Prop :=
  let held : Prop := (∃ (j : Fin 2) (f : Fetch), s.tru.table[j] = some f ∧ f.slot = n ∧ f.index = i) ∨ (n, i) ∈ s.tru.waitList
  let cleared : State := { s with tru.waitList := s.tru.waitList.filter fun e => e.1 != n }
  let placed (u : State) : Prop :=
    (∀ k : Fin 2, u.tru.table[k] = none → (∀ k' < k, u.tru.table[k'] ≠ none) → u.issued k n i t)
      ∧ ((∀ k : Fin 2, u.tru.table[k] ≠ none) → t = { u with tru.waitList := u.tru.waitList ++ [(n, i)] })
  (held → t = s)
    ∧ (¬held → (∀ (j : Fin 2) (f : Fetch), s.tru.table[j] = some f → f.slot ≠ n) → placed cleared)
    ∧ ∀ (k : Fin 2) (f : Fetch), ¬held → s.tru.table[k] = some f → f.slot = n →
      (∀ k' < k, ∀ f', s.tru.table[k'] = some f' → f'.slot ≠ n) →
      ∃ u, State.refilled { cleared with tru.table := s.tru.table.set k none } k u ∧ placed u

/-- The player enters step `k` of profile `n` (R82). -/
def State.stepEntered (s : State) (n : Fin 8) (k : Fin 256) : State :=
  let st := s.line.steps[k]
  let s1 : State := { s with line.player :=
    { state := .playing, profile := some n, step := k, last := st.last, stepEnd := some (s.time + st.duration * 1000)
      remaining := none, op := st.offset } }
  if st.marker = 0 then s1 else s1.raise .profileMarker n.val st.marker k.val

/-- The price class of a new slot is handed to the line regulator, from `s` to `t` (R83): where the player is IDLE and the line is not
TRIPPED, the lowest profile whose trigger class is at or below it starts. -/
def State.classHanded (s : State) (cls : Nat) (t : State) : Prop :=
  let met (p : Fin 8) : Prop := ∃ k, s.line.profiles[p].trigger = some k ∧ k ≤ cls
  (s.line.player.state ≠ .idle ∨ s.line.state = .tripped ∨ (∀ p, ¬met p) → t = s)
    ∧ ∀ p, s.line.player.state = .idle → s.line.state ≠ .tripped → met p → (∀ p' < p, ¬met p') →
      t = s.stepEntered p s.line.profiles[p].startStep

/-- Steps 1 to 8 of R148 for slot `n`, from `s` to `t`: the written copies in force, a pending invalidation, the lookup set anew, the
resolution of R146 with its counters, the cache or the fallback with its fetch, the places that a cache that is not enabled loses, and the
entry handed to the open slot with its class. -/
def State.slotStarted (s : State) (n : Nat) (t : State) : Prop :=
  let u := s.tru
  let set := u.written
  let hits := set.windows.toList.filter fun w => w.enable && ((BitVec.ofNat 15 n ^^^ w.base) &&& ~~~w.mask) == 0
  let own (w : TariffWindow) : TariffEntry × RateSource := if w.own.valid then (w.own, .fallback) else (set.fallback, .default)
  let begun : State := { s with tru := { u with
    inForce := set, invalidation := false
    cache := if u.invalidation then u.cache.map fun p => { p with valid := false } else u.cache
    lookup := { u.lookup with slot := some n, index := none, awaiting := false, prefetchMade := false }
    waitList := u.waitList.filter fun e => decide (e.1 = n ∨ e.1 = nextSlot n)
    counters.overlap := if 2 ≤ hits.length then bump32 u.counters.overlap else u.counters.overlap
    counters.defaultUsed := if hits = [] then bump32 u.counters.defaultUsed else u.counters.defaultUsed } }
  let hands (v : State) (e : TariffEntry × RateSource) : Prop :=
    State.classHanded
      { v with
        egu.slot.entry := e.1, egu.slot.source := e.2
        tru.lookup.source := e.2
        tru.cache := if s.line.cacheEnable then v.tru.cache
          else v.tru.cache.map fun p => { p with valid := p.valid && decide (p.tag = n) } } e.1.cls t
  (hits = [] → hands begun (set.fallback, .default))
    ∧ ∀ w more, hits = w :: more →
      let i : Half := w.calendarBase + (BitVec.ofNat 15 n &&& w.mask).setWidth 16
      let looked : State := { begun with tru.lookup.index := some i }
      let missed (v : State) (awaiting : Bool) : State :=
        { v with tru.counters.misses := bump32 u.counters.misses, tru.lookup.awaiting := awaiting }
      (w.mode = .direct → hands begun (own w))
        ∧ (∀ e, w.mode = .mapped → begun.tru.lookupCache n i = some e →
          hands { looked with tru.counters.hits := bump32 u.counters.hits } (e, .cache))
        ∧ (w.mode = .mapped → begun.tru.lookupCache n i = none → u.declined = some (n, i) → hands (missed looked false) (own w))
        ∧ (w.mode = .mapped → begun.tru.lookupCache n i = none → u.declined ≠ some (n, i) →
          ∃ v, looked.requested n i v ∧ hands (missed v true) (own w))

/-- A slot is opened for slot `n` with the flags of its cause, from `s` to `t`, with what closed the slot before it in the records of the
energy unit and in its events: R129, the slot start of R148, and at its step 9 the test of R150, which is the PREFETCH row's. -/
def State.slotOpened (s : State) (n : Nat) (timeStep part : Bool) (t : State) : Prop :=
  ∃ u v : State, u.slotStarted n v ∧ exec .prefetch v = .next t ∧ u.egu.clock = t.egu.clock
    ∧ u.egu.slot = { number := some n, timeStep := timeStep, part := part }
    ∧ u = { s with egu := u.egu, port := u.port, meu := { s.meu with events := u.meu.events, alarm := u.meu.alarm } }

/-- The nearest number of a range. -/
def nearest (lo hi v : Nat) : Nat := if v < lo then lo else if hi < v then hi else v

/-- The reply of a code with the bytes after it. -/
def replyOf (code : ReplyCode) (body : List Byte) : Reply := { code := code, body := body }

/-- The reply to a WRITE of `v` that has written `w`: OK, or CLAMPED where they differ (R167). -/
def writeReply (v : Long) (w : Nat) : Reply := replyOf (if w = v.toNat then .ok else .clamped) (be32 (BitVec.ofNat 32 w))

/-- The MGMT_WRITE row with a WRITE of an object (section 10.1). -/
def writeRow (o : Object) (h : Header) (index : Half) (field : Byte) (values : List Byte) : Instr :=
  .mgmtWrite h 2 o.code index field values

/-- The MGMT_WRITE row with a READ of an object, whose values, if it has any, are not read (section 10.1; log 10). -/
def readRow (o : Object) (h : Header) (index : Half) (field : Byte) (values : List Byte) : Instr :=
  .mgmtWrite h 1 o.code index field values

/-- The index ranges of the objects, for a READ (R167 and the owners' rules); TRACE is read at a place of the log. -/
def State.hasIndex (s : State) (o : Object) (i : Nat) : Bool :=
  match o with
  | .pot => i < 384
  | .map => i < 512
  | .sectionWindow | .group | .curve | .profile => i < 8
  | .stage => i ≤ 4
  | .profileStep => i < 256
  | .tariffWindow => i < 4
  | .tariffDefault => i ≤ 9
  | .line => true
  | .energyRecord => i = 65535 || i < s.egu.queue.length
  | .aeLog => i < s.aeu.log.length
  | .trace => s.aeu.log.any fun r => r.place == i
  | .errorLog | .mgmtAddress | .supervisorAddress | .serverAddress | .coolerAddress => i = 0
  | .counters => i ≤ 8 || (16 ≤ i && i < 24)
  | .events => i ≤ 26

/-- The due test of an expiry row, by the rule of its owner; no other row is an expiry. -/
def State.rowDue (s : State) : Instr → Bool
  | .deferralTimerExpiry => s.deferralDue
  | .potLost p => s.potLostDue p
  | .inhibitEnd p => s.inhibitEndDue p
  | .adviceExpiry p => s.adviceExpiryDue p
  | .qualificationEnd p => s.qualificationDue p
  | .quenchDue p => s.quenchReady (s.pot p)
  | .quenchTimeout p => s.quenchTimeoutDue p
  | .clearEnd p => s.clearEndDue p
  | .lineTrip => s.tripDue
  | .stepEnd => s.stepEndDue
  | .stepTimer g => s.stepTimerDue g
  | .groupOrderTimeout g => s.orderTimeoutDue g
  | .groupHolding g => s.holdingDue g
  | .groupSilent g => s.silentDue g
  | .stageUp => s.stageUpDue
  | .stageDown => s.stageDownDue
  | .coolerNoResponse => s.coolerDue
  | .slotEnd => s.slotEndDue
  | .prefetch => s.prefetchDue
  | .fetchTimeout k => s.fetchDue k
  | .takeover => s.takeoverDue
  | .stationDayEnd => s.dayEndDue
  | _ => false

/-- The log with a change made to the record of a pot's effect, where the effect has one (R59). -/
def Aeu.amended (u : Aeu) (place : Option Nat) (f : AeRecord → AeRecord) : List AeRecord :=
  match place with
  | none => u.log
  | some pl => u.log.map fun r => if r.place = pl then f r else r

/-- The log and the trace store with a reading entered for a pot's effect, where the effect has a record (R52, R54, R61). -/
def Aeu.traced (u : Aeu) (place : Option Nat) (vp : Nat) : Aeu :=
  match place with
  | none => u
  | some pl => u.enterTrace pl vp

/-- What a reading of voltage `vp` adds to the AE energy of a pot that it leaves ACTIVE or QUENCHING, with the remainder that was kept: the
whole Wh and the new remainder, where the voltage lies above the pot's normal voltage (R63). -/
def State.aeEnergyOf (s : State) (vnorm last remainder vp : Nat) : Option (Nat × Nat) :=
  let sum := remainder + (vp - vnorm) * s.line.il * min (s.time - last) 5000
  if vnorm < vp then some (sum / 360000000, sum % 360000000) else none

/-- The records with that energy added to the one at a place, where there is one (R63). -/
def Aeu.powered (u : Aeu) (place : Option Nat) (e : Option (Nat × Nat)) : Aeu :=
  match e with
  | none => u
  | some (wh, _) => { u with log := u.amended place fun r => { r with energy := min (r.energy + wh) 4294967295 } }

/-- The pot is in an open effect (section 3.2). -/
def AeState.inEffect : AeState → Bool
  | .active | .quenching | .clearing => true
  | _ => false

/-- The AE duration of a pot at the part time as it stands: the completed spans and the one that runs (R52, R53, R57). -/
def State.durationNow (s : State) (q : Pot) : Nat := q.fx.duration + if q.ae.counted then s.time - q.fx.spanStart else 0

/-- The record of a pot once what it is in has been closed by force (R57): QUIET with every AE timer absent, and an open effect's duration
ended. A QUIET pot stands. That the persistent flag goes with the effect is log 19. -/
def State.closedPot (s : State) (q : Pot) : Pot :=
  let off : Pot := { q with
    ae := .quiet, fx := { q.fx with qualificationEnd := none, quenchDue := none, quenchTimeout := none, clearEnd := none } }
  if q.ae = .quiet then q
  else if q.ae.inEffect then
    { off with logIndex := none, fx := { off.fx with duration := s.durationNow q, energyRemainder := 0, persistent := false } }
  else off

/-- A record of the AE log, closed at a duration with a cause (R59); the duration stops at the record's 32 bits (log 7). -/
def closedRecord (cause : EndCause) (duration : Nat) (r : AeRecord) : AeRecord :=
  { r with closed := true, duration := min duration 4294967295, endCause := some cause }

/-- The AE count and the records once what pot `q` is in has been closed by force (R56, R57, R59). -/
def State.closedAeu (s : State) (q : Pot) (cause : EndCause) : Aeu :=
  { s.aeu with
    count := if q.ae.counted then s.aeu.count - 1 else s.aeu.count
    log := if q.ae.inEffect then s.aeu.amended q.logIndex (closedRecord cause (s.durationNow q)) else s.aeu.log }

/-- The AE hold flag after that: worked as the count falls (R75). -/
def State.closedHold (s : State) (q : Pot) : Bool :=
  if q.ae.counted then decide (s.line.ae.holdLimit ≤ s.aeu.count - 1) else s.line.aeHold

/-- AE-END as a closing by force raises it for an open effect, with the whole seconds of the effect and the cause (R54, R57). -/
def State.endRaised (s : State) (p : Fin 384) (cause : EndCause) : State :=
  if (s.pot p).ae.inEffect then s.raise .aeEnd p.val (min (s.durationNow (s.pot p) / 1000) 65535) cause.code else s

/-- The open slot with that energy added (R63). -/
def Egu.powered (u : Egu) (e : Option (Nat × Nat)) : Egu :=
  match e with
  | none => u
  | some (wh, _) => { u with slot.aeEnergy := min (u.slot.aeEnergy + wh) 4294967295 }

/-- From `s` to `t` the management unit and the ring port have changed by one event and by nothing else (R164, R171). -/
def State.eventRaised (s t : State) (k : EventKind) (subject a b : Nat) : Prop :=
  t.meu = (s.raise k subject a b).meu ∧ t.port = (s.raise k subject a b).port

/-- A step of `d` divided by 2^`shift` toward zero, and at least one while `d` is not 0 (R25, R26). -/
def towardZero (d : Int) (shift : Nat) : Int := if d ≠ 0 ∧ d.tdiv (2 ^ shift) = 0 then d.sign else d.tdiv (2 ^ shift)

/-- A number clamped to 0..65535, as a number (R67, R71). -/
def clampCurrent (z : Int) : Int := max 0 (min z 65535)

/-! ### The laws of the part -/

/-- R157, R169: no frame of the part's own that is queued or waits to be sent is for 0xFFFF, and neither is an address that its reports,
asks and cooler orders go to. -/
def addressLaw (s : State) : Prop :=
  (∀ f ∈ s.port.insert, f.dest ≠ Config.broadcast) ∧ (∀ f ∈ s.meu.sendList, f.dest ≠ Config.broadcast)
    ∧ (∀ e ∈ s.psu.sendList, e.2.dest ≠ Config.broadcast) ∧ (∀ i ∈ s.gau.sendList, i.frame.dest ≠ Config.broadcast)
    ∧ (∀ f ∈ s.tru.sendList, f.dest ≠ Config.broadcast) ∧ (∀ f ∈ s.clu.orderFrame, f.dest ≠ Config.broadcast)
    ∧ s.meu.supervisor ≠ Config.broadcast ∧ s.meu.server ≠ Config.broadcast ∧ s.meu.cooler ≠ Config.broadcast

/-- R141: total Wh is released, lost, queued or in the open slot. -/
def energyLaw (s : State) : Prop :=
  s.egu.total = s.egu.released + s.egu.lost + energySum s.egu.queue + s.egu.slot.es

/-- R173, R176: the ALARM line follows the pending and enabled kinds, and is released while the reset line is low. -/
def alarmLaw (s : State) : Prop := s.meu.alarm = (!s.resetLow && alarmHeld s.meu.events)

/-- R69: It never exceeds Ic, and is 0 in TRIPPED. -/
def targetLaw (s : State) : Prop := s.line.it ≤ s.clu.ic ∧ (s.line.state = .tripped → s.line.it = 0)

/-- R84, R85, with R178 and R179: whenever the available set is not empty, the wanted setpoints of its groups sum to Ir, and none exceeds its
Cap_g. It is empty outside SUPERVISING, where every group is RELEASED. In Ir a SILENT group is no fixed load (log 52). -/
def allocationLaw (s : State) : Prop :=
  (s.meu.mode ≠ .supervising → ∀ g, (s.group g).authority = .released)
    ∧ (s.availableSet ≠ [] → (s.availableSet.map fun g => (s.group g).wanted).sum = s.toAllocate)
    ∧ ∀ g ∈ s.availableSet, (s.group g).wanted ≤ (s.group g).cap

/-- R81: in IDLE no profile is played and Op is 0; in PLAYING there is a step end, and in HELD a remaining time. -/
def playerLaw (s : State) : Prop :=
  let p := s.line.player
  (p.state = .idle → p.op = 0 ∧ p.profile = none ∧ p.stepEnd = none ∧ p.remaining = none)
    ∧ (p.state = .playing → p.profile.isSome ∧ p.stepEnd.isSome ∧ p.remaining = none)
    ∧ (p.state = .held → p.profile.isSome ∧ p.remaining.isSome ∧ p.stepEnd = none)

/-- R78: heat recovery is set at or above HL and clear below half of it. -/
def heatLaw (s : State) : Prop :=
  (s.line.cfg.hl ≤ s.line.hd → s.line.heatRecovery = true) ∧ (s.line.hd < s.line.cfg.hl / 2 → s.line.heatRecovery = false)

/-- R75: the AE hold flag is set while the AE count is at or above its limit. -/
def holdLaw (s : State) : Prop := s.line.aeHold = decide (s.line.ae.holdLimit ≤ s.aeu.count)

/-- R56: the AE count is the number of pots that are ACTIVE or QUENCHING. -/
def countLaw (s : State) : Prop := s.aeu.count = (List.finRange 384).countP fun p => (s.pot p).ae.counted

/-- R9: a pot that is UNCONFIGURED, LOST, BYPASSING or BYPASSED is QUIET and has no outstanding order. -/
def potLaw (s : State) : Prop := ∀ p, (s.pot p).sup.worked = false → (s.pot p).ae = .quiet ∧ (s.pot p).order = none

/-- R58, R61: the AE log and the trace store agree. Places are distinct, every run belongs to a record, every record counts its runs, and
the pots in an effect with a record are those whose record is open. -/
def logLaw (s : State) : Prop :=
  (s.aeu.log.map AeRecord.place).Nodup ∧ (∀ r ∈ s.aeu.log, r.place < Config.logPlaces)
    ∧ (∀ x ∈ s.aeu.trace, ∃ r ∈ s.aeu.log, r.place = x.place)
    ∧ (∀ r ∈ s.aeu.log, r.runCount = s.aeu.trace.countP (fun x => x.place == r.place) ∧ r.runCount ≤ Config.recordRuns)
    ∧ (∀ p, (s.pot p).ae = .quiet ∨ (s.pot p).ae = .suspect → (s.pot p).logIndex = none)
    ∧ (∀ p pl, (s.pot p).logIndex = some pl ↔ ∃ r ∈ s.aeu.log, r.place = pl ∧ r.pot = p ∧ r.closed = false)

/-- R94, R100, R102, R107: authority, pending order and watcher of a group agree; a RELEASED group has no order and no order frame
waiting, no group has two, a group that is not present is RELEASED, and a group in BASIC form is never PENDING or PENDING-WATCHED. -/
def groupLaw (s : State) : Prop :=
  ∀ g,
    ((s.group g).order.isSome ↔ (s.group g).authority = .pending ∨ (s.group g).authority = .pendingWatched)
      ∧ ((s.group g).watcher.isSome ↔ (s.group g).authority.watched = true)
      ∧ ((s.group g).authority = .released → s.gau.sendList.countP (GauItem.isOrderOf g) = 0)
      ∧ s.gau.sendList.countP (GauItem.isOrderOf g) ≤ 1
      ∧ ((s.group g).cfg.present = false → (s.group g).authority = .released)
      ∧ ((s.group g).form = .basic → (s.group g).authority ≠ .pending ∧ (s.group g).authority ≠ .pendingWatched)

/-- The slots of the fetch table. -/
def Tru.fetchSlots (u : Tru) : List Nat := u.table.toList.filterMap fun e => e.map Fetch.slot

/-- R147, R149: no two valid places of the cache carry one tag, and the fetch table and wait list never hold two fetches for one slot;
what waits is for the open slot or the next. -/
def cacheLaw (s : State) : Prop :=
  ((s.tru.cache.toList.filter CachePlace.valid).map CachePlace.tag).Nodup
    ∧ (s.tru.fetchSlots ++ s.tru.waitList.map Prod.fst).Nodup
    ∧ ∀ e ∈ s.tru.waitList, ∃ o, s.tru.lookup.slot = some o ∧ (e.1 = o ∨ e.1 = nextSlot o)

/-- R31, R58, R61, R95, R138, R160, R161, R163, R164, R167: no queue, list or store holds more than its places. -/
def boundsLaw (s : State) : Prop :=
  s.port.forward.length ≤ Config.forwardPlaces ∧ s.port.insert.length ≤ Config.insertPlaces
    ∧ s.port.buffer.length ≤ Config.recordPlaces ∧ s.port.waitCount ≤ 2 ∧ s.meu.sendList.length ≤ Config.replyPlaces
    ∧ s.egu.queue.length ≤ Config.energyPlaces ∧ s.aeu.log.length ≤ Config.logPlaces ∧ s.aeu.trace.length ≤ Config.storeRuns
    ∧ s.gau.notices ≤ Config.noticePlaces ∧ (s.psu.sendList.map Prod.fst).Nodup

end Machine

end Sys2Proof
end

