-- ==== Sys2Proof/Certificates/Slice0/Obligations.lean ====
section
/-! DEFINITION. The statements for the provers, from the numbered rules of the spec. `s.replied h r`, `s.carried h k p` and
`s.raise k subject a b` are the answer to a request, the forwarding of a frame and the raising of an event: each has a statement of its
own here, and the other statements use them to give a whole next state. -/

open Sys2Proof Sys2Proof.Machine

/-! ### The part and its queue of commands -/

/-- A step takes the command at the front of the queue and is exec of it with the queue's rest. -/
def Obligations.StepTakesFrontCommand : Prop :=
  ∀ (c : Instr) (rest : List Instr) (s : State), s.pending = c :: rest → step s = exec c { s with pending := rest }

/-- The model's choice (log 1, 2, 3): on an empty queue the part takes the first expiry that is due, and with none due one ms of part time
passes; the station clock advances by 1 ms, into the next day at 86 400 000 and into day 1 after day 366 (R126), and the step counters
count at the ticks of their clocks (R93). There is none to take exactly when no row's due test holds, the one taken is due and stands
before every other due row in the order of the table, and a row that is not due changes nothing. -/
def Obligations.EmptyQueueTakesExpiryOrPassesOneMs : Prop :=
  (∀ s : State, (s.dueEvent = none ↔ ∀ c, s.rowDue c = false)
      ∧ (∀ c, s.dueEvent = some c → s.rowDue c = true
        ∧ ∃ before after, s.expiries = before ++ (true, c) :: after ∧ ∀ e ∈ before, s.rowDue e.2 = false)
      ∧ ∀ b c, (b, c) ∈ s.expiries → b = s.rowDue c ∧ (b = false → exec c s = .next s))
    ∧ ∀ s : State, s.pending = [] →
    (s.resetLow = true → step s = .next s)
      ∧ (∀ c, s.resetLow = false → s.dueEvent = some c → step s = exec c s)
      ∧ (s.resetLow = false → s.dueEvent = none → ∃ t, step s = .next t ∧ t.time = s.time + 1
        ∧ (s.egu.clock = none → t.egu.clock = none)
        ∧ (∀ day ms, s.egu.clock = some ⟨day, ms⟩ → ms < 86400000 → t.egu.clock = some ⟨day, ms + 1⟩)
        ∧ (∀ day, s.egu.clock = some ⟨day, 86400000⟩ → t.egu.clock = some ⟨if day < 366 then day + 1 else 1, 1⟩)
        ∧ (∀ g, t.group g = if (s.group g).cfg.latch ≠ 0 ∧ (s.time + 1) % (s.group g).cfg.clock.period = 0
            then { s.group g with stepCounter := (s.group g).stepCounter - 1 } else s.group g)
        ∧ t = { s with time := t.time, egu.clock := t.egu.clock, gau.groups := t.gau.groups })

/-- Every command answers a next state, in every state, and leaves the queue of waiting commands as it stands. -/
def Obligations.EveryCommandAnswersAndKeepsQueue : Prop :=
  ∀ (c : Instr) (s : State), ∃ t, exec c s = .next t ∧ t.pending = s.pending

/-- R176: while the reset line is low, bytes on ring-in are repeated onto ring-out and nothing else happens; going low releases the ALARM
line. The release makes every block hold its power-on values, at part time 0, with the address 0x7E00 plus the straps (R157). A release
of a line that is not low changes nothing; that, that expiries and RING_OUT_SEND change nothing under reset, and that going low leaves the
records as they stand, are the model's reading (log 6). -/
def Obligations.ResetLineBypassesAndReleases : Prop :=
  (∀ (c : Instr) (s : State), s.resetLow = true → c ≠ .resetLow → (∀ straps, c ≠ .resetRelease straps) →
      exec c s = .next (match rowBytes c with | some bytes => { s with port.ringOut := some bytes } | none => s))
    ∧ (∀ s : State, exec .resetLow s = .next { s with resetLow := true, meu.alarm := false })
    ∧ (∀ (straps : Byte) (s : State), s.resetLow = true → ∃ t, exec (.resetRelease straps) s = .next t ∧ t.pending = s.pending
        ∧ t.resetLow = false ∧ t.address.toNat = 0x7E00 + straps.toNat ∧ t.time = 0 ∧ t.egu.clock = none
        ∧ t.meu.mode = .forwardOnly ∧ t.meu.alarm = false ∧ t.port.ringOut = none
        ∧ t = { State.reset with pending := s.pending, address := t.address })
    ∧ (∀ (straps : Byte) (s : State), s.resetLow = false → exec (.resetRelease straps) s = .next s)

/-- R175, R22, R65, R86, R113 to R115, R120, R125, R142, R144, R156, R166, R169, R173: the values after power-on that the spec gives, block by
block: every table of power-on values, with the configuration, and every counter at 0. -/
def Obligations.PowerOnValues : Prop :=
  let s := State.reset
  let u := s.meu
  -- mode, management and events (sections 10.2 to 10.5, 11.1)
  (u.mode = .forwardOnly ∧ u.observationEnd = none ∧ u.management = none ∧ u.supervisor = 0 ∧ u.server = 0 ∧ u.cooler = 0
      ∧ u.alarm = false ∧ u.sendList = [] ∧ u.requestsTaken = 0 ∧ u.requestOverrun = 0 ∧ u.denied = 0 ∧ s.time = 0
      ∧ u.errors = { err := false, code := none, detail := ⟨0, 0, 0⟩, day := 0, ms := 0, lost := false, mapRange := 0, mapInvalid := 0
                     calInvalid := 0, calTimeout := 0, mgmtDenied := 0 }
      ∧ (∀ k : Fin 26, u.events[k].pending = false ∧ u.events[k].count = 0)
      ∧ ∀ k : EventKind, k.level = .urgent ∨ k.level = .major → u.events[k.index].enable = true)
    -- section windows and map (sections 1.2, 1.3)
    ∧ (∀ w : Fin 8, s.smap.windows[w] = { enable := false, base := 0, mask := 0, mode := .direct, indexBase := 0 })
    ∧ (∀ k : Fin 512, s.smap.potMap[k] = none) ∧ s.smap.unmatched = 0 ∧ s.smap.overlap = 0
    -- pots (sections 1.4, 2.1, 3.2)
    ∧ (∀ p, s.pot p =
      { cfg := { enabled := false, vb := 1650, rt := 6400, bw := 250, k := 4, kn := 3, nlim := 150, advice := true, nd := 30
                 autoQuench := true, tqd := 20 }
        sup := .unconfigured, ae := .quiet, rf := 0, nf := 0, startingCount := 0, lastVoltage := 0, lastTime := 0, band := .within
        noisy := false, dwell := 0, order := none, orderAddress := none, inhibitUntil := none, parked := none, logIndex := none
        attempts := 0, localQuench := false, glitches := 0, faults := 0, lateAnswers := 0, staleCurrent := 0, ignoredMarkers := 0
        lastResistance := 0, lowV := false, sat := false
        fx := { quietVoltage := 0, onsetTime := 0, onsetDay := 0, onsetMs := 0, onsetVoltage := 0, vnorm := 0, qualificationEnd := none
                quenchDue := none, quenchTimeout := none, clearEnd := none, spanStart := 0, duration := 0, persistent := false
                energyRemainder := 0 } })
    ∧ s.psu.seq = 0 ∧ s.psu.sendList = []
    ∧ s.psu.counters = { raiseSent := 0, lowerSent := 0, checkSent := 0, taken := 0, declined := 0, expired := 0, badAnswer := 0
                         unplaced := 0 }
    -- anode effects (sections 3.1, 3.3 to 3.6)
    ∧ s.aeu.count = 0 ∧ s.aeu.log = [] ∧ s.aeu.trace = []
    ∧ s.aeu.counters = { onsets := 0, quenchSent := 0, quenchTaken := 0, quenchDeclined := 0, persistent := 0, unlogged := 0
                         discardedRuns := 0 }
    ∧ s.line.ae = { vae := 8000, vclr := 6000, vmax := 60000, tq := 3, tclr := 10, tqx := 90, holdLimit := 6 }
    ∧ s.line.inhibitTime = 600 ∧ s.line.cacheEnable = true
    -- line (sections 4.1, 4.6)
    ∧ s.line.cfg = { inom := 0, imin := 20000, if0 := 0, itrip := 2000, sup := 50, sdn := 200, ki := 6, cmax := 500, hl := 3600000
                     hr := 4000 }
    ∧ s.line.il = 0 ∧ s.line.vl = 0 ∧ s.line.sampleTime = none ∧ s.line.state = .low ∧ s.line.tripWatch = none ∧ s.line.it = 0
    ∧ s.line.c = 0 ∧ s.line.ig = 0 ∧ s.line.hd = 0 ∧ s.line.heatRemainder = 0 ∧ s.line.heatRecovery = false ∧ s.line.floor = 0
    ∧ s.line.aeHold = false ∧ s.line.belowFloor = false ∧ s.line.curtailing = false
    ∧ (∀ k : Fin 256, s.line.steps[k] = { offset := 0, duration := 1, marker := 0, last := true })
    ∧ (∀ n : Fin 8, s.line.profiles[n] = { startStep := 0, trigger := none })
    ∧ s.line.player.state = .idle ∧ s.line.player.profile = none ∧ s.line.player.op = 0
    -- groups (sections 5.1, 6.1, 6.2)
    ∧ (∀ g, s.group g =
      { cfg := { present := false, node := 0, rated := 0, idle := 200, ack := .external, clock := .s1, latch := 10, deadband := 5
                 autoclaim := false, lock := false, derate := 90, sinkOffset := 150, minFlow := 400 }
        curve := Vector.replicate 8 ⟨0, 100⟩, authority := .released, watcher := none, form := .full, latestForm := .full
        mode := .localMode, reported := 0, tap := 0, echo := 0, tout := 0, tsink := 0, flow := 0, confirmed := 0, order := none
        streak := 0, wanted := 0, stale := .silent, lastStatus := none, withdrawal := .none, stepCounter := 10, stepOpen := false
        statusSince := false, teq := none, pct := 100, flowLow := false, cap := 0
        counters := { late := 0, noAnswer := 0, badAnswer := 0, mismatch := 0, badStatus := 0, echoMismatch := 0
                      shortWhileLocked := 0, ordersSent := 0 } })
    ∧ s.gau.seq = 0 ∧ s.gau.sendList = [] ∧ s.gau.unmatchedStatus = 0 ∧ s.gau.unplaced = 0 ∧ s.gau.ignoredProbes = 0
    ∧ s.gau.noticesDropped = 0
    -- cooling (sections 6.3, 6.4, 6.7)
    ∧ s.clu =
      { stages := #v[⟨400, 370, 97⟩, ⟨450, 420, 94⟩, ⟨500, 470, 90⟩, ⟨550, 520, 85⟩], wanted := 0, running := 0, available := 4
        statusTime := none, confirmation := .confirmed, confirmEnd := none, hottest := none, upSince := none, downSince := none
        counted := 0, pct := 100, shortfall := false, orderFrame := none, ic := 0, seq := 0, ordersSent := 0, unmatched := 0
        badStatus := 0 }
    -- energy (sections 7.1, 7.8)
    ∧ s.egu.clock = none ∧ s.egu.queue = [] ∧ s.egu.queueHigh = false ∧ s.egu.remainder = 0 ∧ s.egu.total = 0 ∧ s.egu.released = 0
    ∧ s.egu.lost = 0 ∧ s.egu.marksTaken = 0 ∧ s.egu.badMarks = 0 ∧ s.egu.timeSteps = 0 ∧ s.egu.lostRecords = 0
    ∧ s.egu.slot =
      { number := none, es := 0, costedMark := 0, cost := 0, aeEnergy := 0, curtailed := 0, minIl := none, maxIl := none
        entry := s.tru.inForce.fallback, source := .default, cap := none, capBinding := false, timeStep := false, gap := false
        part := false }
    -- tariffs (sections 8.1, 8.2, 8.4, 8.8)
    ∧ (∀ k : Fin 4, s.tru.written.windows[k] =
      { enable := false, base := 0, mask := 0, mode := .direct, calendarBase := 0, own := { rate := 0, limit := 0, cls := 0, valid := false } })
    ∧ s.tru.written.fallback.rate = 0 ∧ s.tru.written.fallback.limit = 0 ∧ s.tru.written.fallback.cls = 0
    ∧ s.tru.inForce = s.tru.written ∧ (∀ k : Fin 8, s.tru.cache[k].valid = false) ∧ s.tru.pointer = 0
    ∧ s.tru.lookup = { slot := none, index := none, source := .default, awaiting := false, prefetchMade := false }
    ∧ (∀ k : Fin 2, s.tru.table[k] = none) ∧ s.tru.waitList = [] ∧ s.tru.declined = none ∧ s.tru.invalidation = false
    ∧ s.tru.sendList = [] ∧ s.tru.seq = 0
    ∧ s.tru.counters = { overlap := 0, defaultUsed := 0, hits := 0, misses := 0, fetchesSent := 0, taken := 0, invalid := 0
                         timeouts := 0, late := 0, ignored := 0 }
    -- ring port (sections 9.2 to 9.7)
    ∧ s.port.forward = [] ∧ s.port.insert = [] ∧ s.port.buffer = [] ∧ s.port.deferral = none ∧ s.port.deferralFlag = false
    ∧ s.port.pointer = .report ∧ s.port.noticeSeq = 0 ∧ s.port.waitCount = 0
    ∧ s.port.counters = { malformed := 0, badCheck := 0, stripped := 0, unknownKind := 0, shortPayload := 0, forwarded := 0
                          forwardOverrun := 0, inserted := 0, reportsSent := 0, infoDrops := 0, minorDrops := 0, majorDrops := 0
                          urgentDrops := 0 }

/-- Every law of the part holds after power-on. -/
def Obligations.LawsHoldAfterPowerOn : Prop :=
  let s := State.reset
  energyLaw s ∧ alarmLaw s ∧ targetLaw s ∧ allocationLaw s ∧ playerLaw s ∧ heatLaw s ∧ holdLaw s ∧ countLaw s ∧ potLaw s ∧ logLaw s
    ∧ groupLaw s ∧ cacheLaw s ∧ boundsLaw s ∧ addressLaw s ∧ s.Settled ∧ s.Regulated

/-! ### The laws, kept by every step -/

/-- R141: every step keeps total Wh equal to released, lost, queued and open Wh. -/
def Obligations.EnergyIsConserved : Prop := ∀ s t : State, energyLaw s → step s = .next t → energyLaw t

/-- R173, R176, R170: after every step the ALARM line follows the pending and enabled URGENT and MAJOR kinds, and is released under reset;
while ERR is set, the error log's code, detail and time are those of the error that set it. -/
def Obligations.AlarmLineAndErrorLogKeepTheirLaws : Prop :=
  (∀ s t : State, alarmLaw s → step s = .next t → alarmLaw t)
    ∧ ∀ s t : State, step s = .next t → s.meu.errors.err = true → t.meu.errors.err = true →
      t.meu.errors.code = s.meu.errors.code ∧ t.meu.errors.detail = s.meu.errors.detail ∧ t.meu.errors.day = s.meu.errors.day
        ∧ t.meu.errors.ms = s.meu.errors.ms

/-- R69, R75, R78, R81, R85: every step keeps It within Ic and 0 in TRIPPED, the AE hold flag as its limit says, heat recovery within its
limits, the player's Op at 0 in IDLE, and the wanted setpoints of the available set at the sum Ir, none above its group's capacity. That the
set is empty outside SUPERVISING, where every group is RELEASED (R178, R179), is kept with it. That a SILENT group is no fixed load in Ir is the
model's choice (log 52). -/
def Obligations.LineLawsAreKept : Prop :=
  (∀ s t : State, targetLaw s → step s = .next t → targetLaw t) ∧ (∀ s t : State, holdLaw s → step s = .next t → holdLaw t)
    ∧ (∀ s t : State, heatLaw s → step s = .next t → heatLaw t) ∧ (∀ s t : State, playerLaw s → step s = .next t → playerLaw t)
    ∧ ∀ s t : State, allocationLaw s → step s = .next t → allocationLaw t

/-- R56, R9: every step keeps the AE count at the number of pots that are ACTIVE or QUENCHING, and a pot that is not worked QUIET and
without an order. -/
def Obligations.AeCountIsTheNumberOfPots : Prop :=
  ∀ s t : State, countLaw s ∧ potLaw s → step s = .next t → countLaw t ∧ potLaw t

/-- R58, R59, R61: every step keeps the AE log, the trace store and the pots' log indices in agreement. -/
def Obligations.LogAndTraceAgree : Prop := ∀ s t : State, logLaw s → step s = .next t → logLaw t

/-- R94, R100, R102, R107: every step keeps authority, pending order and watcher of every group in agreement; a RELEASED group has no order
outstanding and no order frame waiting, and a group in BASIC form is never PENDING or PENDING-WATCHED. -/
def Obligations.ReleasedGroupsHaveNoOrder : Prop := ∀ s t : State, groupLaw s → step s = .next t → groupLaw t

/-- R147, R149: every step keeps the tags of the valid cache places distinct, and never fetches one slot twice. -/
def Obligations.CacheTagsAndFetchesAreDistinct : Prop := ∀ s t : State, cacheLaw s → step s = .next t → cacheLaw t

/-- R58, R61, R95, R138, R160, R161, R164, R167: every step keeps every queue and store within its places. R157, R169: no step brings a
frame for 0xFFFF into a queue or list of the part's own frames; that the part does so by not placing such a frame is the model's choice
(log 42). -/
def Obligations.QueuesStayWithinTheirPlaces : Prop :=
  (∀ s t : State, boundsLaw s → step s = .next t → boundsLaw t) ∧ ∀ s t : State, addressLaw s → step s = .next t → addressLaw t

/-- R161, R93, R94, R110, at the moments the model chooses (log 14, 15): every step leaves the arbiter with nothing that it may place, and
every group with no order left to decide. -/
def Obligations.StepsLeaveNothingToAdmitOrDecide : Prop :=
  (∀ s t : State, s.Settled → step s = .next t → t.Settled) ∧ ∀ s t : State, s.Regulated → step s = .next t → t.Regulated

/-! ### Frames and the ring port -/

/-- R157, R158: the bytes of a frame with a payload of at most 60 bytes pass the tests of form and are read back as the frame. -/
def Obligations.FramesAreReadBackFromTheirBytes : Prop :=
  ∀ f : Frame, f.payload.length ≤ 60 → parseFrame (frameBytes f) = .ok f

/-- R157, R159, R167, with the model's reading of the rows (log 12, 13): each frame row and each management row does what its bytes do when
they arrive on ring-in. -/
def Obligations.RowsDoWhatTheirBytesDo : Prop :=
  ∀ (c : Instr) (f : Frame) (s : State), rowFrame c = some f → f.payload.length ≤ 60 →
    exec c s = exec (.frameRejected (frameBytes f)) s

/-- R158: the three tests of an arriving string of bytes, in order, each with its counter and nothing else; a frame that passes goes on
to R159. -/
def Obligations.ArrivingBytesAreTestedInOrder : Prop :=
  ∀ (bytes : List Byte) (s : State), s.resetLow = false →
    let len := (bytes.getD 6 0).toNat
    let malformed := bytes.length < 9 ∨ 69 < bytes.length ∨ 60 < len ∨ bytes.length ≠ len + 9
    let check := bytes.getD (len + 7) 0 ++ bytes.getD (len + 8) 0
    let src := bytes.getD 2 0 ++ bytes.getD 3 0
    (malformed → exec (.frameRejected bytes) s = .next { s with port.counters.malformed := bump32 s.port.counters.malformed })
      ∧ (¬malformed → check ≠ crc16 (bytes.take (len + 7)) →
        exec (.frameRejected bytes) s = .next { s with port.counters.badCheck := bump32 s.port.counters.badCheck })
      ∧ (¬malformed → check = crc16 (bytes.take (len + 7)) → src = s.address →
        exec (.frameRejected bytes) s = .next { s with port.counters.stripped := bump32 s.port.counters.stripped })
      ∧ (¬malformed → check = crc16 (bytes.take (len + 7)) → src ≠ s.address →
        exec (.frameRejected bytes) s = exec
          (.framePassing
            { dest := bytes.getD 0 0 ++ bytes.getD 1 0, src := src, kind := bytes.getD 4 0, seq := bytes.getD 5 0
              payload := (bytes.drop 7).take len }) s)

/-- R159, R160: a frame that passes and is not read is forwarded, or dropped with a forward overrun when the queue holds 4 frames. A frame
addressed to the part with an unknown code is dropped and counted; one short of its kind's payload is counted, and forwarded when it is
passing. Nothing else changes. That a short payload of a kind which is read only when addressed is not counted in passing is the model's
reading (log 12). -/
def Obligations.UnreadFramesAreForwardedOrCounted : Prop :=
  ∀ (f : Frame) (s : State), s.resetLow = false → f.src ≠ s.address → f.payload.length ≤ 60 →
    let forwarded : State := if s.port.forward.length < 4 then { s with port.forward := s.port.forward ++ [f] }
      else { s with port.counters.forwardOverrun := bump32 s.port.counters.forwardOverrun }
    let short (k : TakenKind) : Prop := f.kind = k.code ∧ f.payload.length < k.length
    (f.dest ≠ s.address → (∀ k : TakenKind, f.kind = k.code → k.passing = false) → exec (.framePassing f) s = .next forwarded)
      ∧ (f.dest ≠ s.address → ∀ k : TakenKind, short k → k.passing = true →
        exec (.unknownKind f) s =
          .next { forwarded with port.counters.shortPayload := bump32 forwarded.port.counters.shortPayload })
      ∧ (f.dest = s.address → (∀ k : TakenKind, f.kind ≠ k.code) →
        exec (.unknownKind f) s = .next { s with port.counters.unknownKind := bump32 s.port.counters.unknownKind })
      ∧ (f.dest = s.address → ∀ k : TakenKind, short k →
        exec (.unknownKind f) s = .next { s with port.counters.shortPayload := bump32 s.port.counters.shortPayload })

/-- R163: the arbiter of the ring-out pair chooses by the two queues and the wait count. The bytes of the chosen frame stand on ring-out;
a place freed in the insert queue admits frames (R161). -/
def Obligations.RingOutSendsByWaitCount : Prop :=
  ∀ s : State, s.resetLow = false →
    (s.port.forward = [] → s.port.insert = [] → exec .ringOutSend s = .next s)
      ∧ (∀ f rest, s.port.forward = f :: rest → (s.port.insert = [] ∨ s.port.waitCount < 2) →
        exec .ringOutSend s = .next { s with port := { s.port with
          forward := rest
          ringOut := some (frameBytes f)
          waitCount := if s.port.insert = [] then s.port.waitCount else s.port.waitCount + 1
          counters.forwarded := bump32 s.port.counters.forwarded } })
      ∧ (∀ f rest, s.port.insert = f :: rest → (s.port.forward = [] ∨ 2 ≤ s.port.waitCount) →
        exec .ringOutSend s = .next (State.settle { s with port := { s.port with
          insert := rest
          ringOut := some (frameBytes f)
          waitCount := 0
          counters.inserted := bump32 s.port.counters.inserted } }))

/-- R161, R162, R165: the admission arbiter goes on until nothing may be placed; it only appends frames, never past 32 places, and each round
takes the first source at or after its pointer that has a frame it may place, and moves the pointer to the source after it. A source may
place a frame while fewer than 32 stand in the queue: the report builder while a REPORT is due and fewer than 24 are REPORTs, MEU in every
mode, the others outside FORWARD-ONLY. The frame that enters is the head of its source's own send list and leaves it, the order or fetch that
it belongs to is no longer unsent, a WATCH-NOTICE takes the next number of the notice sequence, and so does a REPORT, which is built of the
oldest records, at most four, as it enters. -/
def Obligations.ArbiterAdmitsInRotation : Prop :=
  (∀ s : State, s.settle.Settled ∧ (∃ frames, s.settle.port.insert = s.port.insert ++ frames)
      ∧ s.settle.port.insert.length ≤ max 32 s.port.insert.length)
    ∧ (∀ (s : State) (src : Source), s.nextSource = some src →
      s.port.insert.length < 32 ∧ (∃ f, (s.enterFrom src).port.insert = s.port.insert ++ [f])
        ∧ (let holds (f : Frame) : Port := { s.port with
              insert := s.port.insert ++ [f], waitCount := if s.port.insert = [] then 0 else s.port.waitCount }
          let next := s.port.noticeSeq + 1
          match src with
          | .report =>
            let records := s.port.buffer.take 4
            s.enterFrom src = { s with port := { holds
                { dest := s.meu.supervisor, src := s.address, kind := 0x60, seq := s.port.noticeSeq
                  payload := BitVec.ofNat 8 records.length :: records.flatMap EventRecord.bytes } with
              buffer := s.port.buffer.drop 4
              deferralFlag := s.port.deferralFlag && decide (4 < s.port.buffer.length)
              noticeSeq := next
              counters.reportsSent := bump32 s.port.counters.reportsSent } }
          | .meu => ∀ f rest, s.meu.sendList = f :: rest → s.enterFrom src = { s with meu.sendList := rest, port := holds f }
          | .gau => ∀ i rest, s.gau.sendList = i :: rest →
            (i.tag = .answer → s.enterFrom src = { s with gau.sendList := rest, port := holds i.frame })
              ∧ (i.tag = .notice → s.enterFrom src = { s with
                gau.sendList := rest, port := { holds { i.frame with seq := s.port.noticeSeq } with noticeSeq := next } })
              ∧ ∀ g, i.tag = .order g → s.enterFrom src = { s with
                gau := { s.gau with
                  sendList := rest
                  groups := s.gau.groups.set g { s.group g with
                    order := (s.group g).order.map fun o => if o.seq = i.frame.seq then { o with unsent := false } else o } }
                port := holds i.frame }
          | .psu => ∀ p f rest, s.psu.sendList = (p, f) :: rest → s.enterFrom src = { s with
            psu := { s.psu with
              sendList := rest
              pots := s.psu.pots.set p { s.pot p with
                order := (s.pot p).order.map fun o => if o.seq = f.seq then { o with unsent := false } else o } }
            port := holds f }
          | .tru => ∀ f rest, s.tru.sendList = f :: rest → s.enterFrom src = { s with
            tru := { s.tru with
              sendList := rest
              table := s.tru.table.map fun e => e.map fun x => if x.seq = f.seq then { x with unsent := false } else x }
            port := holds f }
          | .clu => ∀ f, s.clu.orderFrame = some f → s.enterFrom src = { s with clu.orderFrame := none, port := holds f })
        ∧ (∃ before after, s.port.pointer.rotation = before ++ src :: after ∧ ∀ x ∈ before, s.mayEnter x = false)
        ∧ (let next : Source := match src with
            | .report => .meu | .meu => .gau | .gau => .psu | .psu => .tru | .tru => .clu | .clu => .report
          s.settle = State.settle { s.enterFrom src with port.pointer := next }))
    ∧ ∀ (s : State) (src : Source), s.mayEnter src = true ↔ s.port.insert.length < 32 ∧ match src with
      | .report => s.port.buffer ≠ [] ∧ (4 ≤ s.port.buffer.length ∨ s.port.deferralFlag = true
          ∨ ∃ r ∈ s.port.buffer, r.kind.level = .urgent) ∧ (s.port.insert.filter fun f => f.kind == 0x60).length < 24
      | .meu => s.meu.sendList ≠ []
      | .gau => s.meu.mode ≠ .forwardOnly ∧ s.gau.sendList ≠ []
      | .psu => s.meu.mode ≠ .forwardOnly ∧ s.psu.sendList ≠ []
      | .tru => s.meu.mode ≠ .forwardOnly ∧ s.tru.sendList ≠ []
      | .clu => s.meu.mode ≠ .forwardOnly ∧ s.clu.orderFrame ≠ none

/-- R164: where an event record goes when it reaches the report buffer. -/
def Obligations.EventRecordsEnterTheBuffer : Prop :=
  ∀ (p : Port) (now : Nat) (r : EventRecord),
    (p.buffer.length < 48 → p.record now r = { p with buffer := p.buffer ++ [r], deferral := some (now + 250) })
      ∧ (48 ≤ p.buffer.length → r.kind.level = .info →
        p.record now r = { p with counters.infoDrops := bump32 p.counters.infoDrops })
      ∧ (∀ before x after, 48 ≤ p.buffer.length → r.kind.level ≠ .info → p.buffer = before ++ x :: after →
        (∀ y ∈ before, y.kind.level ≠ .info) → x.kind.level = .info →
        p.record now r = { p with
          buffer := before ++ after ++ [r]
          deferral := some (now + 250)
          counters.infoDrops := bump32 p.counters.infoDrops })
      ∧ (48 ≤ p.buffer.length → r.kind.level ≠ .info → (∀ y ∈ p.buffer, y.kind.level ≠ .info) →
        p.record now r = { p with counters := p.counters.drop r.kind.level })

/-- R171, R173: raising an event sets its kind pending, counts it and works the ALARM line; on a settled part nothing but the ring port
and the event summary changes, and a record below four in an empty buffer waits there unless it is URGENT. -/
def Obligations.RaisedEventsMarkTheirKind : Prop :=
  ∀ (s : State) (k : EventKind) (subject a b : Nat),
    let t := s.raise k subject a b
    let r : EventRecord := { kind := k, day := s.stamp.1, ms := s.stamp.2, subject := subject, a := a, b := b }
    t.meu.events[k.index] = { s.meu.events[k.index] with pending := true, count := bump32 s.meu.events[k.index].count }
      ∧ (∀ j : Fin 26, j ≠ k.index → t.meu.events[j] = s.meu.events[j])
      ∧ t.meu.alarm = alarmHeld t.meu.events
      ∧ (s.Settled → t = { s with port := t.port, meu := { s.meu with events := t.meu.events, alarm := t.meu.alarm } })
      ∧ (s.Settled → s.port.buffer = [] → s.port.deferralFlag = false → k.level ≠ .urgent →
        t.port = { s.port with buffer := [r], deferral := some (s.time + 250) })

/-- R164, R165: when the deferral timer runs out on a settled part with places for a REPORT, the waiting records leave in one REPORT frame
with the next notice number; with no record waiting only the timer stops. -/
def Obligations.DeferralTimerSendsTheReport : Prop :=
  ∀ (s : State) (u : Nat), s.resetLow = false → s.Settled → s.port.deferral = some u → u ≤ s.time →
    (s.port.buffer = [] → exec .deferralTimerExpiry s = .next { s with port.deferral := none })
      ∧ (s.port.buffer ≠ [] → s.port.insert.length < 32 → s.port.reports < 24 →
        exec .deferralTimerExpiry s = .next { s with port := { s.port with
          insert := s.port.insert ++
            [{ dest := s.meu.supervisor, src := s.address, kind := 0x60, seq := s.port.noticeSeq
               payload := BitVec.ofNat 8 s.port.buffer.length :: s.port.buffer.flatMap EventRecord.bytes }]
          buffer := []
          deferral := none
          deferralFlag := false
          noticeSeq := s.port.noticeSeq + 1
          waitCount := if s.port.insert = [] then 0 else s.port.waitCount
          pointer := .meu
          counters.reportsSent := bump32 s.port.counters.reportsSent } })

/-! ### Section map and pots -/

/-- R1, R2, R3: a POT-SAMPLE is matched against the windows, the lowest that hits is used, and its slots are taken in order; a slot
without a reading is skipped, and one that names no pot is reported as a map error. In FORWARD-ONLY nothing is matched. R4, R5: the writes of
SECTION and MAP. That a base above 16 bits and an unknown field are refused BAD-VALUE, the index before the field, and that the field byte
of MAP is not read, is the model's choice (log 11). -/
def Obligations.PotSamplesAreTranslatedSlotBySlot : Prop :=
  (∀ (h : Header) (time : Long) (slots : Vector SlotReading 8) (extra : List Byte) (s : State),
    s.takes h .potSample = true → extra.length ≤ 32 →
      let u := s.carried h .potSample (potSamplePayload time slots extra)
      let hit := s.smap.windows.toList.filter fun w => w.enable && ((h.src ^^^ w.base) &&& ~~~w.mask) == 0
      (s.meu.mode = .forwardOnly → exec (.potSample h time slots extra) s = .next u)
        ∧ (s.meu.mode ≠ .forwardOnly → hit = [] →
          exec (.potSample h time slots extra) s = .next { u with smap.unmatched := bump32 s.smap.unmatched })
        ∧ (∀ w more, s.meu.mode ≠ .forwardOnly → hit = w :: more →
          exec (.potSample h time slots extra) s = .next
            ((List.finRange 8).foldl (fun t i => t.takeSlot w h.src i.val slots[i])
              { u with smap.overlap := if more = [] then s.smap.overlap else bump32 s.smap.overlap })))
    ∧ (∀ (s : State) (w : SectionWindow) (src : Addr) (slot : Nat) (r : SlotReading),
      let index := w.indexBase + (src &&& w.mask).toNat * 8 + slot
      let error (k : ErrorKind) : State :=
        State.raise { s with meu.errors := s.meu.errors.offer k ⟨src.toNat, slot, index⟩ s.stamp.1 s.stamp.2 } .mapError src.toNat slot index
      let reading : Reading := { vp := r.voltage.toNat, marker := r.marker, src := src, slot := slot }
      (r.marker = 7 → s.takeSlot w src slot r = s)
        ∧ (r.marker ≠ 7 → w.mode = .direct → 384 ≤ index → s.takeSlot w src slot r = error .mapRange)
        ∧ (∀ h : index < 384, r.marker ≠ 7 → w.mode = .direct → s.takeSlot w src slot r = s.takeReading ⟨index, h⟩ reading)
        ∧ (r.marker ≠ 7 → w.mode = .mapped → 512 ≤ index → s.takeSlot w src slot r = error .mapRange)
        ∧ (∀ h : index < 512, r.marker ≠ 7 → w.mode = .mapped →
          s.takeSlot w src slot r =
            match s.smap.potMap[index]'h with
            | none => error .mapInvalid
            | some p => s.takeReading p reading))
    ∧ (∀ (h : Header) (index : Half) (field : Byte) (v : Long) (rest : List Byte) (s : State),
      s.admits h (writePayload .sectionWindow index field (be32 v ++ rest)) = true → s.Settled →
      let c := writeRow .sectionWindow h index field (be32 v ++ rest)
      let bad : Prop := exec c s = .next (s.replied h (replyOf .badValue []))
      (8 ≤ index.toNat → exec c s = .next (s.replied h (replyOf .badIndex [])))
        ∧ ∀ w : Fin 8, w.val = index.toNat →
          let x := s.smap.windows[w]
          let gives (y : SectionWindow) (n : Nat) : Prop :=
            exec c s = .next (State.replied { s with smap.windows := s.smap.windows.set w y } h (writeReply v n))
          let hi := if x.mode = .direct then 383 else 511
          (field = 0 → v.toNat ≤ 1 → gives { x with enable := decide (v = 1) } v.toNat)
            ∧ (field = 1 → v.toNat ≤ 65535 → gives { x with base := BitVec.ofNat 16 v.toNat } v.toNat)
            ∧ (∀ n, field = 2 → n ≤ 8 → v.toNat + 1 = 2 ^ n → gives { x with mask := BitVec.ofNat 16 v.toNat } v.toNat)
            ∧ (field = 3 → v.toNat ≤ 1 → gives { x with mode := if v = 1 then .mapped else .direct } v.toNat)
            ∧ (field = 4 → gives { x with indexBase := min v.toNat hi } (min v.toNat hi))
            ∧ ((field = 0 ∨ field = 3) ∧ 1 < v.toNat ∨ field = 1 ∧ 65535 < v.toNat
                ∨ field = 2 ∧ (∀ n ≤ 8, v.toNat + 1 ≠ 2 ^ n) ∨ 5 ≤ field.toNat → bad))
    ∧ ∀ (h : Header) (index : Half) (field : Byte) (v : Long) (rest : List Byte) (s : State),
      s.admits h (writePayload .map index field (be32 v ++ rest)) = true → s.Settled →
      let c := writeRow .map h index field (be32 v ++ rest)
      let gives (i : Fin 512) (e : Option (Fin 384)) : Prop :=
        exec c s = .next (State.replied { s with smap.potMap := s.smap.potMap.set i e } h (replyOf .ok (be32 v)))
      (512 ≤ index.toNat → exec c s = .next (s.replied h (replyOf .badIndex [])))
        ∧ ∀ i : Fin 512, i.val = index.toNat →
          (∀ p : Fin 384, v.toNat = p.val → gives i (some p)) ∧ (v = 65535 → gives i none)
            ∧ (384 ≤ v.toNat → v ≠ 65535 → exec c s = .next (s.replied h (replyOf .badValue [])))

/-- R10, R11, R20, R21, R23, R25 to R32: what a reading without a marker does to a STARTING or RUNNING pot. One that is not computable is
counted. A computable one gives the pot its resistance with the LOW-V and SAT flags; the filters are primed by the first, held while the AE
state is not QUIET, and otherwise stepped, both toward zero and at least by one while they differ; the band, NOISY and the dwell follow; the
tenth computed reading makes a STARTING pot RUNNING. Below the onset threshold a QUIET pot keeps the voltage as its quiet voltage, and an
advice that is due is decided with the next sequence number. A frame for 0xFFFF is not placed (log 42). -/
def Obligations.QuietReadingsStepTheFilters : Prop :=
  ∀ (h : Header) (time : Long) (slots : Vector SlotReading 8) (extra : List Byte) (k : Fin 8) (p : Fin 384) (s : State),
    s.takes h .potSample = true → extra.length ≤ 32 → s.readsOne h slots k p = true →
    (s.pot p).sup = .starting ∨ (s.pot p).sup = .running →
    let c : Instr := .potSample h time slots extra
    let u := s.carried h .potSample (potSamplePayload time slots extra)
    let q := s.pot p
    let vp := slots[k].voltage.toNat
    (s.computable = false → exec c s = .next (u.modPot p fun x =>
        { x.sampled h.src k.val vp s.time with staleCurrent := min (x.staleCurrent + 1) 65535 }))
      ∧ (s.computable = true →
        let x := s.computedPot p h.src k.val vp
        let raw := ((vp - q.cfg.vb) * 100000 + s.line.il / 2) / s.line.il
        let r : Nat := if vp ≤ q.cfg.vb then 0 else min raw 250000
        let primes : Prop := q.sup = .starting ∧ q.startingCount = 0
        let count := if q.sup = .starting then q.startingCount + 1 else q.startingCount
        let condition := adviceCondition x.band x.noisy
        x = { q.sampled h.src k.val vp s.time with
            sup := if q.sup = .starting ∧ 10 ≤ count then .running else q.sup
            startingCount := count, lastResistance := r, lowV := decide (vp ≤ q.cfg.vb), sat := decide (q.cfg.vb < vp ∧ 250000 < raw)
            rf := x.rf, nf := x.nf, band := x.band, noisy := x.noisy, dwell := x.dwell }
          ∧ (primes → x.rf = r ∧ x.nf = 0)
          ∧ (¬primes → q.ae ≠ .quiet → x.rf = q.rf ∧ x.nf = q.nf ∧ x.band = q.band ∧ x.noisy = q.noisy ∧ x.dwell = q.dwell)
          ∧ (¬primes → q.ae = .quiet →
            (x.rf : Int) = q.rf + towardZero (r - q.rf) q.cfg.k
              ∧ (x.nf : Int) = q.nf + towardZero (((r : Int) - q.rf).natAbs - q.nf) q.cfg.kn
              ∧ (q.rf ≤ 250000 → x.rf ≤ 250000) ∧ (q.rf ≤ 250000 → q.nf ≤ 250000 → x.nf ≤ 250000))
          ∧ (primes ∨ q.ae = .quiet →
            (x.band = .low ↔ x.rf < q.cfg.rt - q.cfg.bw) ∧ (x.band = .high ↔ q.cfg.rt - q.cfg.bw ≤ x.rf ∧ q.cfg.rt + q.cfg.bw < x.rf)
              ∧ x.noisy = decide (q.cfg.nlim < x.nf)
              ∧ x.dwell = if q.sup = .starting then q.dwell
                else if condition = adviceCondition q.band q.noisy then min (q.dwell + 1) 255 else 1)
          ∧ (q.ae = .quiet → vp < s.onsetThreshold q → vp ≤ s.line.ae.vmax →
            let y : Pot := { x with fx := { q.fx with quietVoltage := vp } }
            let due : Prop := q.sup = .running ∧ q.cfg.advice = true ∧ (∀ i, q.inhibitUntil = some i → i ≤ s.time) ∧ q.order = none
              ∧ s.meu.mode = .supervising ∧ q.cfg.nd ≤ x.dwell ∧ condition ≠ .within
            let kind : OrderKind := match condition with | .noisy => .check | .low => .raise | .high | .within => .lower
            (¬due → exec c s = .next (u.modPot p fun _ => y))
              ∧ (due → s.Settled → ∃ (t : State) (unsent : Bool), exec c s = .next t
                ∧ t.pot p = { y with
                    order := some { kind := kind, seq := s.psu.seq, sent := s.time, dest := h.src, slot := k.val, unsent := unsent } }
                ∧ t.orderPlaced p
                  { dest := h.src, src := s.address, kind := 0x30, seq := s.psu.seq, payload := [BitVec.ofNat 8 k.val, BitVec.ofNat 8 kind.code] }
                  unsent
                ∧ t = { u with
                    port := t.port
                    psu := { s.psu with
                      pots := s.psu.pots.set p (t.pot p), sendList := t.psu.sendList, seq := s.psu.seq + 1
                      counters := match kind with
                        | .check => { s.psu.counters with checkSent := bump32 s.psu.counters.checkSent }
                        | .raise => { s.psu.counters with raiseSent := bump32 s.psu.counters.raiseSent }
                        | .lower | .quench => { s.psu.counters with lowerSent := bump32 s.psu.counters.lowerSent } } })))

/-- R10, R14, R15: readings of a BYPASSING pot wait for less than 1000 mV, which parks the pot; those of a BYPASSED pot are compared with
the parked voltage, and more than 500 mV away the pot enters STARTING with UNANNOUNCED-CUT-IN. A reading of an UNCONFIGURED pot is dropped.
R13, R16 to R19, R48, R49: a reading of a LOST pot first makes it STARTING; then its marker is taken, and the reading is worked in the state
that the marker has left. A TAP sets the resistance filter to the resistance of its reading. A CUT-OUT closes an open effect with AE-END
(R57), and the AE hold flag follows the count (R75). That the persistent flag is cleared with an
effect that a CUT-OUT closes (log 19), and that the duration of its record stops at 32 bits (log 7), are the model's choices. -/
def Obligations.ReadingsOfPotsCutOut : Prop :=
  (∀ (h : Header) (time : Long) (slots : Vector SlotReading 8) (extra : List Byte) (k : Fin 8) (p : Fin 384) (s : State),
    s.takes h .potSample = true → extra.length ≤ 32 → s.readsOne h slots k p = true →
    let u := s.carried h .potSample (potSamplePayload time slots extra)
    let vp := slots[k].voltage.toNat
    let q := s.pot p
    let read (x : Pot) : Pot := { x with orderAddress := some (h.src, k.val), lastVoltage := vp, lastTime := s.time }
    ((s.pot p).sup = .unconfigured → exec (.potSample h time slots extra) s = .next u)
      ∧ (q.sup = .bypassing → vp < 1000 →
        exec (.potSample h time slots extra) s = .next (u.modPot p fun x => { read x with parked := some vp, sup := .bypassed }))
      ∧ (q.sup = .bypassing → 1000 ≤ vp → exec (.potSample h time slots extra) s = .next (u.modPot p read))
      ∧ (∀ v, q.sup = .bypassed → q.parked = some v → ((vp : Int) - v).natAbs ≤ 500 →
        exec (.potSample h time slots extra) s = .next (u.modPot p read))
      ∧ (∀ v, q.sup = .bypassed → q.parked = some v → 500 < ((vp : Int) - v).natAbs →
        exec (.potSample h time slots extra) s = .next
          (((u.modPot p fun x =>
            { x with
              orderAddress := some (h.src, k.val), sup := .starting, startingCount := 0, rf := 0, nf := 0, band := .within
              noisy := false, dwell := 0, parked := none }).raise .unannouncedCutIn p.val vp v).modPot p fun x =>
            { x with lastVoltage := vp, lastTime := s.time })))
    ∧ (∀ (h : Header) (time : Long) (slots : Vector SlotReading 8) (extra : List Byte) (k : Fin 8) (p : Fin 384) (m : Byte) (s : State),
      s.takes h .potSample = true → extra.length ≤ 32 → s.readsOne h slots k p m = true → m ≠ 7 →
      let c : Instr := .potSample h time slots extra
      let u := s.carried h .potSample (potSamplePayload time slots extra)
      let vp := slots[k].voltage.toNat
      let q := s.pot p
      let r : Reading := { vp := vp, marker := m, src := h.src, slot := k.val }
      let starting (x : Pot) : Pot := { x with
        sup := .starting, startingCount := 0, rf := 0, nf := 0, band := .within, noisy := false, dwell := 0, parked := none }
      let x : Pot := { (if q.sup = .lost then starting q else q) with orderAddress := some (h.src, k.val) }
      -- the reading is worked from the state `v` that the marker has left (R10, stages 4 and 5)
      let reads (v : State) : Prop :=
        exec c s = .next ((v.workReading p r).modPot p fun y => { y with lastVoltage := vp, lastTime := s.time })
      let puts (y : Pot) : Prop := reads { u with psu.pots := s.psu.pots.set p y }
      let ignored : Prop := puts { x with ignoredMarkers := min (q.ignoredMarkers + 1) 65535 }
      let claimed : AeRecord → AeRecord := fun r => { r with localQuench := true }
      let timersOff (y : Pot) : Pot := { y with
        ae := .quiet, fx := { y.fx with qualificationEnd := none, quenchDue := none, quenchTimeout := none, clearEnd := none } }
      let cut (y : Pot) : Pot := { y with sup := .bypassing, order := none, inhibitUntil := none, dwell := 0, parked := none }
      (q.sup = .unconfigured → exec c s = .next u)
        ∧ (q.sup ≠ .unconfigured → m = 0 → puts x)
        ∧ (q.sup = .starting ∨ q.sup = .running ∨ q.sup = .lost →
          (m = 1 → q.ae ≠ .active → q.ae ≠ .quenching → ignored)
            ∧ (m = 1 → q.ae = .active → reads { u with
              psu.pots := s.psu.pots.set p { x with
                ae := .quenching, localQuench := true
                fx := { q.fx with quenchDue := none, quenchTimeout := some (s.time + s.line.ae.tqx * 1000) } }
              aeu.log := s.aeu.amended q.logIndex claimed })
            ∧ (m = 1 → q.ae = .quenching → reads { u with
              psu.pots := s.psu.pots.set p { x with localQuench := true }, aeu.log := s.aeu.amended q.logIndex claimed })
            ∧ (m = 2 ∨ m = 3 → puts { x with
              inhibitUntil := if s.line.inhibitTime = 0 then none else some (s.time + s.line.inhibitTime * 1000) })
            ∧ (m = 4 → (∀ o, q.order = some o → o.kind = .quench) → puts { x with dwell := 0 })
            ∧ (∀ o, m = 4 → q.order = some o → o.kind ≠ .quench → reads { u with psu := { s.psu with
              pots := s.psu.pots.set p { x with dwell := 0, order := none }
              sendList := s.psu.sendList.filter fun e => e.1 != p } })
            ∧ (m = 5 → q.ae = .quiet ∨ q.ae = .suspect → reads { u with psu := { s.psu with
              pots := s.psu.pots.set p (cut (if q.ae = .quiet then x else timersOff x))
              sendList := s.psu.sendList.filter fun e => e.1 != p } })
            ∧ (m = 5 → q.ae ≠ .quiet → q.ae ≠ .suspect → s.Settled → ∃ v, reads v
              ∧ v.pot p = { cut (timersOff x) with
                  logIndex := none
                  fx := { (timersOff x).fx with
                    duration := if q.ae.counted then q.fx.duration + (s.time - q.fx.spanStart) else q.fx.duration
                    energyRemainder := 0, persistent := false } }
              ∧ (∀ p', p' ≠ p → v.pot p' = s.pot p')
              ∧ v.aeu = { s.aeu with
                  count := if q.ae.counted then s.aeu.count - 1 else s.aeu.count
                  log := s.aeu.amended q.logIndex fun r =>
                    { r with closed := true, duration := min (v.pot p).fx.duration 4294967295, endCause := some .bypassed } }
              ∧ u.eventRaised v .aeEnd p.val (min ((v.pot p).fx.duration / 1000) 65535) 4
              ∧ v.line = { s.line with aeHold := if q.ae.counted then decide (s.line.ae.holdLimit ≤ s.aeu.count - 1) else s.line.aeHold }
              ∧ v.smap = s.smap ∧ v.gau = s.gau ∧ v.clu = s.clu ∧ v.egu = s.egu ∧ v.tru = s.tru)
            ∧ (m = 6 ∨ 7 < m.toNat → ignored))
        ∧ (q.sup = .bypassing ∨ q.sup = .bypassed → (m = 6 → puts (starting x)) ∧ (m ≠ 0 → m ≠ 6 → ignored))
        -- R18: what a TAP does to the reading itself
        ∧ (m = 4 → q.sup = .starting ∨ q.sup = .running → s.computable = true → ∃ t, exec c s = .next t
          ∧ let y := t.pot p
            let r : Nat := if vp ≤ q.cfg.vb then 0 else min (((vp - q.cfg.vb) * 100000 + s.line.il / 2) / s.line.il) 250000
            y.lastResistance = r ∧ y.rf = r
              ∧ (y.nf : Int) = (if q.sup = .starting ∧ q.startingCount = 0 then 0
                else q.nf + towardZero (((r : Int) - q.rf).natAbs - q.nf) q.cfg.kn)
              ∧ y.noisy = decide (q.cfg.nlim < y.nf) ∧ y.band = classifyBand q.cfg r
              ∧ y.startingCount = (if q.sup = .starting then q.startingCount + 1 else q.startingCount)))
    ∧ ∀ (s : State) (p : Fin 384) (r : Reading), r.marker ≠ 4 → s.workReading p r = s.workReading p { r with marker := 0 }

/-- R34, R35, R50: what a matched TAKEN or DECLINED answer to an advice does, and a matched TAKEN answer to a QUENCH order, whatever the
AE state. A frame of the order still in the send list is removed with it (R31). -/
def Obligations.AnswersClearPotOrders : Prop :=
  ∀ (h : Header) (slot result : Byte) (extra : List Byte) (p : Fin 384) (o : PotOrder) (s : State),
    s.takes h .potAnswer = true → extra.length ≤ 58 → (s.pot p).order = some o → s.answers p h.src slot h.seq = true →
    let cleared (q : Pot) : Psu := { s.psu with pots := s.psu.pots.set p q, sendList := s.psu.sendList.filter fun e => e.1 != p }
    let free : Pot := { s.pot p with order := none }
    (o.kind ≠ .quench → result = 1 →
        exec (.potAnswer h slot result extra) s = .next { s with psu :=
          { cleared { free with dwell := 0 } with counters.taken := bump32 s.psu.counters.taken } })
      ∧ (o.kind ≠ .quench → result = 2 →
        exec (.potAnswer h slot result extra) s = .next (State.raise { s with psu :=
          { cleared { free with dwell := 0 } with counters.declined := bump32 s.psu.counters.declined } }
          .adviceDeclined p.val o.kind.code o.seq.toNat))
      ∧ (o.kind = .quench → result = 1 →
        exec (.potAnswer h slot result extra) s = .next { s with
          psu := cleared free
          aeu := { s.aeu with
            log := s.aeu.amended (s.pot p).logIndex fun r => { r with quenchTaken := r.quenchTaken + 1 }
            counters.quenchTaken := bump32 s.aeu.counters.quenchTaken } })
      ∧ (result ≠ 1 → result ≠ 2 →
        exec (.potAnswer h slot result extra) s = .next { s with psu.counters.badAnswer := bump32 s.psu.counters.badAnswer })

/-- R38: an answer that matches no outstanding order is counted against the lowest pot with that order address, or as unplaced, and
changes nothing else. -/
def Obligations.LatePotAnswersAreOnlyCounted : Prop :=
  ∀ (h : Header) (slot result : Byte) (extra : List Byte) (s : State),
    s.takes h .potAnswer = true → extra.length ≤ 58 → (∀ p, (s.pot p).answeredBy h.src slot.toNat h.seq = false) →
    (∀ p, (s.pot p).orderAddress = some (h.src, slot.toNat) → (∀ p' < p, (s.pot p').orderAddress ≠ some (h.src, slot.toNat)) →
        exec (.potAnswer h slot result extra) s = .next { s with
          psu.pots := s.psu.pots.set p { s.pot p with lateAnswers := min ((s.pot p).lateAnswers + 1) 65535 } })
      ∧ ((∀ p, (s.pot p).orderAddress ≠ some (h.src, slot.toNat)) →
        exec (.potAnswer h slot result extra) s = .next { s with psu.counters.unplaced := bump32 s.psu.counters.unplaced })

/-- R51, R53: a DECLINED answer to a QUENCH order clears it with its waiting frame, counts in the record and raises QUENCH-DECLINED; a QUENCHING
pot returns to ACTIVE with a new quench due after its first attempt, and is ordered again at once where its delay is 0 (R47); after its
second it is persistent, with AE-PERSISTENT and the mark of its record; in any other AE state nothing else follows. The other pots stand. That
a frame for 0xFFFF is not placed is the model's choice (log 42). -/
def Obligations.DeclinedQuenchRestartsOrPersists : Prop :=
  ∀ (h : Header) (slot : Byte) (extra : List Byte) (p : Fin 384) (o : PotOrder) (s : State),
    s.takes h .potAnswer = true → extra.length ≤ 58 → (s.pot p).order = some o → o.kind = .quench →
    s.answers p h.src slot h.seq = true → s.Settled →
    let c : Instr := .potAnswer h slot 2 extra
    let q := s.pot p
    let free : Pot := { q with order := none }
    let dropped := s.psu.sendList.filter fun e => e.1 != p
    -- the state with the record `x` of the pot and what its log record has beside the decline
    let goes (x : Pot) (marks : AeRecord → AeRecord) (t : State) : State := { s with
      psu := { s.psu with pots := s.psu.pots.set p x, sendList := dropped }
      aeu := { s.aeu with
        log := s.aeu.amended q.logIndex fun r => marks { r with declines := r.declines + 1 }
        counters.quenchDeclined := bump32 s.aeu.counters.quenchDeclined }
      meu := t.meu, port := t.port }
    let due := some (s.time + q.cfg.tqd * 1000)
    let back : Pot := { free with ae := .active, fx := { q.fx with quenchTimeout := none, quenchDue := due } }
    let fires : Prop := q.cfg.tqd = 0 ∧ q.cfg.autoQuench = true ∧ q.fx.persistent = false ∧ s.meu.mode = .supervising
    (q.ae = .quenching → q.attempts = 1 → ¬(fires ∧ q.orderAddress.isSome = true) → ∃ t, exec c s = .next t
        ∧ t = goes back id t ∧ s.eventRaised t .quenchDeclined p.val 1 o.seq.toNat)
      ∧ (∀ node k, q.ae = .quenching → q.attempts = 1 → fires → q.orderAddress = some (node, k) →
        ∃ (t : State) (unsent : Bool), exec c s = .next t
          ∧ t.orderPlaced p
            { dest := node, src := s.address, kind := 0x30, seq := s.psu.seq, payload := [BitVec.ofNat 8 k, 4] } unsent
          ∧ (let v := goes
              { back with
                ae := .quenching, attempts := 2
                order := some { kind := .quench, seq := s.psu.seq, sent := s.time, dest := node, slot := k, unsent := unsent }
                fx := { back.fx with quenchDue := none, quenchTimeout := some (s.time + s.line.ae.tqx * 1000) } }
              (fun r => { r with ordersSent := r.ordersSent + 1 }) t
            t = { v with
              psu := { v.psu with sendList := t.psu.sendList, seq := s.psu.seq + 1 }
              aeu.counters.quenchSent := bump32 s.aeu.counters.quenchSent })
          ∧ t.meu = (s.raise .quenchDeclined p.val 1 o.seq.toNat).meu)
      ∧ (q.ae = .quenching → 2 ≤ q.attempts → ∃ t, exec c s = .next t
        ∧ (let v := goes { free with fx := { q.fx with persistent := true, quenchTimeout := none } }
            (fun r => { r with persistent := true }) t
          t = { v with aeu.counters.persistent := bump32 s.aeu.counters.persistent })
        ∧ (s.raise .quenchDeclined p.val q.attempts o.seq.toNat).eventRaised t .aePersistent p.val q.attempts
          (min (s.durationNow q / 1000) 65535))
      ∧ (q.ae ≠ .quenching → ∃ t, exec c s = .next t
        ∧ t = goes free id t ∧ s.eventRaised t .quenchDeclined p.val q.attempts o.seq.toNat)

/-- R36: an advice that expires ends with its counter and nothing more. R17, R45: an inhibit ends, and a pot still SUSPECT at its
qualification end returns to QUIET with a glitch counted. R44 to R46, R55, R58, R61, R63: what a computable reading does to a QUIET or SUSPECT
pot that it does not leave as it is: a reading above Vmax is a measurement fault in every state (log 17, 20), one at or above the onset
threshold makes a QUIET pot SUSPECT and opens the effect of a SUSPECT pot with its log record, its trace and AE-ONSET, and one below it
makes a SUSPECT pot QUIET with a glitch counted. -/
def Obligations.PotTimersEndOrdersInhibitsAndOnsets : Prop :=
  (∀ (p : Fin 384) (s : State), s.resetLow = false →
    (∀ o, (s.pot p).order = some o → o.kind ≠ .quench → o.sent + 20000 ≤ s.time →
        exec (.adviceExpiry p) s = .next { s with psu := { s.psu with
          pots := s.psu.pots.set p { s.pot p with order := none, dwell := 0 }
          sendList := s.psu.sendList.filter fun e => e.1 != p
          counters.expired := bump32 s.psu.counters.expired } })
      ∧ (∀ u, (s.pot p).inhibitUntil = some u → u ≤ s.time →
        exec (.inhibitEnd p) s = .next { s with psu.pots := s.psu.pots.set p { s.pot p with inhibitUntil := none } })
      ∧ (∀ u, s.meu.mode ≠ .forwardOnly → (s.pot p).ae = .suspect → (s.pot p).fx.qualificationEnd = some u → u ≤ s.time →
        exec (.qualificationEnd p) s = .next (s.modPot p fun q =>
          { q with
            ae := .quiet
            glitches := min (q.glitches + 1) 65535
            fx := { q.fx with qualificationEnd := none } })))
    ∧ ∀ (h : Header) (time : Long) (slots : Vector SlotReading 8) (extra : List Byte) (k : Fin 8) (p : Fin 384) (s : State),
      s.takes h .potSample = true → extra.length ≤ 32 → s.readsOne h slots k p = true → s.computable = true → s.Settled →
      (s.pot p).sup = .starting ∨ (s.pot p).sup = .running →
      let c : Instr := .potSample h time slots extra
      let u := s.carried h .potSample (potSamplePayload time slots extra)
      let q := s.pot p
      let vp := slots[k].voltage.toNat
      let x := s.computedPot p h.src k.val vp
      let tests : Prop := s.onsetThreshold q ≤ vp ∧ vp ≤ s.line.ae.vmax
      let fault := { x with faults := min (q.faults + 1) 65535 }
      (s.line.ae.vmax < vp → q.ae ≠ .suspect → ∃ t, exec c s = .next t
          ∧ t.pot p = { fault with order := (t.pot p).order } ∧ (t.meu.events[EventKind.measurementFault.index]).pending = true
          ∧ (q.ae ≠ .quiet ∨ q.cfg.advice = false →
            t = { u with psu.pots := s.psu.pots.set p fault, meu := t.meu, port := t.port }
              ∧ u.eventRaised t .measurementFault p.val vp q.ae.code))
        ∧ (s.line.ae.vmax < vp → q.ae = .suspect → ∃ t, exec c s = .next t
          ∧ t = { u with
              psu.pots := s.psu.pots.set p { fault with ae := .quiet, fx := { q.fx with qualificationEnd := none } }
              meu := t.meu, port := t.port }
          ∧ u.eventRaised t .measurementFault p.val vp 1)
        ∧ (q.ae = .quiet → tests → ∃ t, exec c s = .next t
          ∧ t.pot p = { x with
              ae := .suspect, dwell := 0, order := q.order.filter fun o => o.kind == .quench
              fx := { q.fx with
                onsetTime := s.time, onsetDay := s.stamp.1, onsetMs := s.stamp.2, onsetVoltage := vp, vnorm := q.fx.quietVoltage
                qualificationEnd := some (s.time + s.line.ae.tq * 1000) } }
          ∧ t = { u with port := t.port, psu := t.psu } ∧ (∀ p', p' ≠ p → t.pot p' = s.pot p')
          ∧ (q.cfg.advice = false → t.port = u.port ∧ t.psu = { s.psu with
              pots := t.psu.pots
              sendList := if ∃ o ∈ q.order, o.kind ≠ .quench then s.psu.sendList.filter fun e => e.1 != p else s.psu.sendList }))
        ∧ (q.ae = .suspect → vp < s.onsetThreshold q → vp ≤ s.line.ae.vmax → exec c s = .next (u.modPot p fun _ =>
            { x with
              ae := .quiet, glitches := min (q.glitches + 1) 65535
              fx := { q.fx with qualificationEnd := none, quietVoltage := vp } }))
        ∧ (q.ae = .suspect → tests →
          let fires : Prop := q.cfg.tqd = 0 ∧ q.cfg.autoQuench = true ∧ s.meu.mode = .supervising
          let e := s.aeEnergyOf q.fx.vnorm q.lastTime 0 vp
          let opened (y : Pot) : Pot := { x with
            ae := .active, attempts := 0, localQuench := false, logIndex := y.logIndex
            fx := { q.fx with
              persistent := false, duration := 0, energyRemainder := (e.map Prod.snd).getD 0, spanStart := s.time
              qualificationEnd := none, quenchDue := some (s.time + q.cfg.tqd * 1000) } }
          let record (pl : Nat) : AeRecord :=
            { place := pl, pot := p, onsetDay := q.fx.onsetDay, onsetMs := q.fx.onsetMs, vnorm := q.fx.vnorm }
          -- the onset voltage and the confirming voltage are entered, then energy and an order at once (R46, R47, R63)
          let logs (t : State) (place : Option Nat) (v : Aeu) : Prop := (t.pot p).logIndex = place
            ∧ t.aeu = Aeu.powered
              (let w := ((v.traced place q.fx.onsetVoltage).traced place vp)
               if fires then { w with
                log := w.amended place fun r => { r with ordersSent := r.ordersSent + 1 }
                counters.quenchSent := bump32 w.counters.quenchSent } else w) place e
          let aeu : Aeu := { s.aeu with count := s.aeu.count + 1, counters.onsets := bump32 s.aeu.counters.onsets }
          ∃ t, exec c s = .next t
            ∧ (¬fires → t.pot p = opened (t.pot p) ∧ u.eventRaised t .aeOnset p.val vp q.fx.vnorm
              ∧ t.psu = { s.psu with pots := t.psu.pots })
            ∧ (fires → ∃ unsent, t.pot p = { opened (t.pot p) with
                  ae := .quenching, attempts := 1
                  order := some { kind := .quench, seq := s.psu.seq, sent := s.time, dest := h.src, slot := k.val, unsent := unsent }
                  fx := { (opened (t.pot p)).fx with quenchDue := none, quenchTimeout := some (s.time + s.line.ae.tqx * 1000) } }
              ∧ t.orderPlaced p
                { dest := h.src, src := s.address, kind := 0x30, seq := s.psu.seq, payload := [BitVec.ofNat 8 k.val, 4] } unsent
              ∧ t.psu = { s.psu with pots := t.psu.pots, sendList := t.psu.sendList, seq := s.psu.seq + 1 }
              ∧ (t.meu.events[EventKind.aeOnset.index]).pending = true)
            -- R58: the lowest free place; else that of the oldest CLOSED record, with its runs; else none
            ∧ (∀ pl < Config.logPlaces, s.aeu.log.length < Config.logPlaces → (∀ r ∈ s.aeu.log, r.place ≠ pl) →
              (∀ j < pl, ∃ r ∈ s.aeu.log, r.place = j) → logs t (some pl) { aeu with log := s.aeu.log ++ [record pl] })
            ∧ (∀ before old after, Config.logPlaces ≤ s.aeu.log.length → s.aeu.log = before ++ old :: after →
              (∀ r ∈ before, r.closed = false) → old.closed = true → logs t (some old.place) { aeu with
                log := before ++ after ++ [record old.place]
                trace := s.aeu.trace.filter fun r => r.place != old.place })
            ∧ (Config.logPlaces ≤ s.aeu.log.length → (∀ r ∈ s.aeu.log, r.closed = false) →
              logs t none { aeu with counters.unlogged := bump32 s.aeu.counters.unlogged })
            ∧ (∀ p', p' ≠ p → t.pot p' = s.pot p')
            ∧ t.line = { s.line with aeHold := decide (s.line.ae.holdLimit ≤ s.aeu.count + 1) }
            ∧ t = { u with port := t.port, psu := t.psu, aeu := t.aeu, line := t.line, egu := s.egu.powered e, meu := t.meu })

/-- R12, R57, R59, R75: a pot that has been silent for 10 s is LOST: QUIET, with no order and dwell 0, its open effect closed with NO-DATA in its
record and with AE-END, the AE count and the AE hold flag following, and POT-LOST raised; a SUSPECT pot has no effect to close. Nothing else
changes. That the persistent flag goes with the effect (log 19) and that the record's duration stops at 32 bits (log 7) are the model's
choices. -/
def Obligations.SilentPotsAreLost : Prop :=
  ∀ (p : Fin 384) (s : State), s.resetLow = false → s.meu.mode ≠ .forwardOnly →
    (s.pot p).sup = .starting ∨ (s.pot p).sup = .running → (s.pot p).lastTime + 10000 ≤ s.time →
    let q := s.pot p
    ((s.pot p).ae = .quiet →
        exec (.potLost p) s = .next (State.raise { s with psu := { s.psu with
          pots := s.psu.pots.set p { s.pot p with sup := .lost, order := none, dwell := 0 }
          sendList := s.psu.sendList.filter fun e => e.1 != p } } .potLost p.val (s.pot p).lastVoltage 0))
      ∧ (s.Settled → ∃ t, exec (.potLost p) s = .next t
        ∧ t = { s with
            psu := { s.psu with
              pots := s.psu.pots.set p { s.closedPot q with sup := .lost, order := none, dwell := 0 }
              sendList := s.psu.sendList.filter fun e => e.1 != p }
            aeu := s.closedAeu q .noData, line.aeHold := s.closedHold q, meu := t.meu, port := t.port }
        ∧ (s.endRaised p .noData).eventRaised t .potLost p.val q.lastVoltage 0)

/-- R47: when the quench due of an ACTIVE pot is reached in SUPERVISING, a QUENCH order is decided with the next sequence number, and the
pot is QUENCHING with its quench timeout set, its frame placed, and the order counted in the record and by the unit; nothing else changes. That
a frame for 0xFFFF is not placed is the model's choice (log 42). -/
def Obligations.QuenchDueDecidesAnOrder : Prop :=
  ∀ (p : Fin 384) (s : State) (node : Addr) (slot u : Nat),
    s.resetLow = false → s.Settled → (s.pot p).ae = .active → (s.pot p).fx.quenchDue = some u → u ≤ s.time →
    (s.pot p).cfg.autoQuench = true → (s.pot p).fx.persistent = false → s.meu.mode = .supervising →
    (s.pot p).orderAddress = some (node, slot) →
    let f : Frame := { dest := node, src := s.address, kind := 0x30, seq := s.psu.seq, payload := [BitVec.ofNat 8 slot, 4] }
    ∃ (t : State) (unsent : Bool), exec (.quenchDue p) s = .next t
      ∧ t.orderPlaced p f unsent
      ∧ t = { s with
          psu := { s.psu with
            pots := s.psu.pots.set p { s.pot p with
              order := some { kind := .quench, seq := s.psu.seq, sent := s.time, dest := node, slot := slot, unsent := unsent }
              attempts := (s.pot p).attempts + 1
              ae := .quenching
              fx := { (s.pot p).fx with quenchDue := none, quenchTimeout := some (s.time + s.line.ae.tqx * 1000) } }
            sendList := (s.psu.sendList.filter fun e => e.1 != p) ++ (if unsent ∧ node ≠ Config.broadcast then [(p, f)] else [])
            seq := s.psu.seq + 1 }
          aeu := { s.aeu with
            log := s.aeu.amended (s.pot p).logIndex fun r => { r with ordersSent := r.ordersSent + 1 }
            counters.quenchSent := bump32 s.aeu.counters.quenchSent }
          port := t.port }
      ∧ t.port.forward = s.port.forward ∧ t.port.buffer = s.port.buffer
      ∧ t.port.insert = s.port.insert ++ (if unsent then [] else [f])

/-- R53: what the quench timeout of a QUENCHING pot does by its attempts. A new order cancels one still outstanding, and so does the
persistent flag, set after two; a frame of it which waits leaves the send list. That a frame for 0xFFFF is not placed is the model's choice (log 42). -/
def Obligations.QuenchTimeoutReordersOrPersists : Prop :=
  ∀ (p : Fin 384) (s : State) (u : Nat),
    s.resetLow = false → s.Settled → s.meu.mode ≠ .forwardOnly → (s.pot p).ae = .quenching →
    (s.pot p).fx.quenchTimeout = some u → u ≤ s.time →
    ((s.pot p).attempts < 2 → (s.pot p).cfg.autoQuench = false ∨ s.meu.mode = .observing →
        exec (.quenchTimeout p) s = .next (s.modPot p fun q =>
          { q with fx := { q.fx with quenchTimeout := some (s.time + s.line.ae.tqx * 1000) } }))
      ∧ (∀ node slot, (s.pot p).attempts < 2 → (s.pot p).cfg.autoQuench = true → s.meu.mode = .supervising →
        (s.pot p).orderAddress = some (node, slot) →
        let f : Frame := { dest := node, src := s.address, kind := 0x30, seq := s.psu.seq, payload := [BitVec.ofNat 8 slot, 4] }
        ∃ (t : State) (unsent : Bool), exec (.quenchTimeout p) s = .next t ∧ t.orderPlaced p f unsent
          ∧ t = { s with
              psu := { s.psu with
                pots := s.psu.pots.set p { s.pot p with
                  order := some { kind := .quench, seq := s.psu.seq, sent := s.time, dest := node, slot := slot, unsent := unsent }
                  attempts := (s.pot p).attempts + 1
                  fx := { (s.pot p).fx with quenchDue := none, quenchTimeout := some (s.time + s.line.ae.tqx * 1000) } }
                -- a frame of the order before leaves the list
                sendList := (s.psu.sendList.filter fun e => e.1 != p) ++ (if unsent ∧ node ≠ Config.broadcast then [(p, f)] else [])
                seq := s.psu.seq + 1 }
              aeu := { s.aeu with
                log := s.aeu.amended (s.pot p).logIndex fun r => { r with ordersSent := r.ordersSent + 1 }
                counters.quenchSent := bump32 s.aeu.counters.quenchSent }
              port := t.port })
      ∧ (2 ≤ (s.pot p).attempts →
        -- an outstanding QUENCH order is cancelled, and its frame, where it waits, leaves the list
        let cancels : Bool := (s.pot p).order.any fun o => o.kind == .quench
        ∃ t : State, exec (.quenchTimeout p) s = .next t
          ∧ t = { s with
              psu := { s.psu with
                pots := s.psu.pots.set p { s.pot p with
                  order := if cancels then none else (s.pot p).order
                  fx := { (s.pot p).fx with persistent := true, quenchTimeout := none } }
                sendList := if cancels then s.psu.sendList.filter fun e => e.1 != p else s.psu.sendList }
              aeu := { s.aeu with
                log := s.aeu.amended (s.pot p).logIndex fun r => { r with persistent := true }
                counters.persistent := bump32 s.aeu.counters.persistent }
              meu := t.meu, port := t.port }
          ∧ s.eventRaised t .aePersistent p.val (s.pot p).attempts (min (s.durationNow (s.pot p) / 1000) 65535))

/-- R54: at the clear end of a CLEARING pot the effect ends: QUIET, its record closed QUENCHED or SELF-CLEARED, AE-END raised, and the AE
count as it was. That the persistent flag is cleared with the effect is the model's reading (log 19). R52, R54, R61, R63: what a computable
reading does to an ACTIVE, QUENCHING or CLEARING pot: one below Vclr begins the clearing, one that leaves the pot ACTIVE or QUENCHING adds
AE energy, one at or above the onset threshold relapses a CLEARING pot, and each is entered in the trace of the effect's record. That a
record's duration stops at 32 bits is the model's choice (log 7). -/
def Obligations.ClearEndEndsTheEffect : Prop :=
  (∀ (p : Fin 384) (s : State) (u : Nat),
    s.resetLow = false → s.Settled → s.meu.mode ≠ .forwardOnly → (s.pot p).ae = .clearing → (s.pot p).fx.clearEnd = some u →
    u ≤ s.time →
    -- an outstanding QUENCH order is cancelled, and its frame, where it waits, leaves the list
    let cancels : Bool := (s.pot p).order.any fun o => o.kind == .quench
    let cause : EndCause := if 1 ≤ (s.pot p).attempts ∨ (s.pot p).localQuench = true then .quenched else .selfCleared
    ∃ t : State, exec (.clearEnd p) s = .next t
      ∧ t = { s with
          psu := { s.psu with
            pots := s.psu.pots.set p { s.pot p with
              ae := .quiet
              logIndex := none
              order := if cancels then none else (s.pot p).order
              fx := { (s.pot p).fx with clearEnd := none, energyRemainder := 0, persistent := false } }
            sendList := if cancels then s.psu.sendList.filter fun e => e.1 != p else s.psu.sendList }
          aeu.log := s.aeu.amended (s.pot p).logIndex (closedRecord cause (s.pot p).fx.duration)
          meu := t.meu, port := t.port }
      ∧ s.eventRaised t .aeEnd p.val (min ((s.pot p).fx.duration / 1000) 65535) cause.code)
    ∧ (∀ (h : Header) (time : Long) (slots : Vector SlotReading 8) (extra : List Byte) (k : Fin 8) (p : Fin 384) (s : State),
      s.takes h .potSample = true → extra.length ≤ 32 → s.readsOne h slots k p = true → s.computable = true →
      (s.pot p).sup = .starting ∨ (s.pot p).sup = .running → slots[k].voltage.toNat ≤ s.line.ae.vmax →
      let c : Instr := .potSample h time slots extra
      let u := s.carried h .potSample (potSamplePayload time slots extra)
      let q := s.pot p
      let vp := slots[k].voltage.toNat
      let x := s.computedPot p h.src k.val vp
      let e := s.aeEnergyOf q.fx.vnorm q.lastTime q.fx.energyRemainder vp
      let rest := (e.map Prod.snd).getD q.fx.energyRemainder
      let clears := some (s.time + s.line.ae.tclr * 1000)
      let runs (v : Aeu) : Aeu := v.traced q.logIndex vp
      (q.ae = .active ∨ q.ae = .quenching → s.line.ae.vclr ≤ vp → exec c s = .next { u with
          psu.pots := s.psu.pots.set p { x with fx := { q.fx with energyRemainder := rest } }
          aeu := (runs s.aeu).powered q.logIndex e
          egu := s.egu.powered e })
        ∧ (q.ae = .active ∨ q.ae = .quenching → vp < s.line.ae.vclr →
          let d := q.fx.duration + (s.time - q.fx.spanStart)
          exec c s = .next { u with
            psu.pots := s.psu.pots.set p { x with
              ae := .clearing, fx := { q.fx with duration := d, quenchDue := none, quenchTimeout := none, clearEnd := clears } }
            aeu := runs { s.aeu with
              count := s.aeu.count - 1, log := s.aeu.amended q.logIndex fun r => { r with duration := min d 4294967295 } }
            line.aeHold := decide (s.line.ae.holdLimit ≤ s.aeu.count - 1) })
        ∧ (q.ae = .clearing → vp < s.line.ae.vclr →
          exec c s = .next { u with psu.pots := s.psu.pots.set p x, aeu := runs s.aeu })
        ∧ (q.ae = .clearing → s.line.ae.vclr ≤ vp → vp < s.onsetThreshold q → exec c s = .next { u with
            psu.pots := s.psu.pots.set p { x with fx := { q.fx with clearEnd := clears } }, aeu := runs s.aeu })
        ∧ (q.ae = .clearing → s.line.ae.vclr ≤ vp → s.onsetThreshold q ≤ vp →
          let again : Prop := 1 ≤ q.attempts ∨ q.localQuench = true
          let fires : Prop := ¬again ∧ q.cfg.tqd = 0 ∧ q.cfg.autoQuench = true ∧ q.fx.persistent = false ∧ s.meu.mode = .supervising
          let timeout := some (s.time + s.line.ae.tqx * 1000)
          let back : Pot := { x with fx := { q.fx with clearEnd := none, spanStart := s.time, energyRemainder := rest } }
          let counted : Aeu := { s.aeu with
            count := s.aeu.count + 1, log := s.aeu.amended q.logIndex fun r => { r with relapses := min (r.relapses + 1) 255 } }
          let goes (y : Pot) (v : Aeu) : State := { u with
            psu.pots := s.psu.pots.set p y, aeu := (runs v).powered q.logIndex e, egu := s.egu.powered e
            line.aeHold := decide (s.line.ae.holdLimit ≤ s.aeu.count + 1) }
          (again → exec c s = .next (goes { back with
              ae := .quenching, fx := { back.fx with quenchTimeout := if q.fx.persistent then none else timeout } } counted))
            ∧ (¬again → ¬fires → exec c s = .next (goes { back with
                ae := .active, fx := { back.fx with quenchDue := some (s.time + q.cfg.tqd * 1000) } } counted))
            ∧ (fires → s.Settled → ∃ (t : State) (unsent : Bool), exec c s = .next t
              ∧ t.orderPlaced p
                { dest := h.src, src := s.address, kind := 0x30, seq := s.psu.seq, payload := [BitVec.ofNat 8 k.val, 4] } unsent
              ∧ let v := goes
                  { back with
                    ae := .quenching, attempts := q.attempts + 1
                    order := some { kind := .quench, seq := s.psu.seq, sent := s.time, dest := h.src, slot := k.val, unsent := unsent }
                    fx := { back.fx with quenchDue := none, quenchTimeout := timeout } }
                  { counted with
                    log := counted.amended q.logIndex fun r => { r with ordersSent := r.ordersSent + 1 }
                    counters.quenchSent := bump32 s.aeu.counters.quenchSent }
                t = { v with port := t.port, psu := { v.psu with sendList := t.psu.sendList, seq := s.psu.seq + 1 } })))
    -- R61: how a reading is entered in the trace of the record at a place; a reading that finds the record full is log 18
    ∧ ∀ (u : Aeu) (pl vp : Nat),
      let level := min (vp / 250) 255
      let v := u.enterTrace pl vp
      let sampled (l : List AeRecord) (f : AeRecord → AeRecord) : List AeRecord :=
        l.map fun r => if r.place = pl then { f r with samples := min (r.samples + 1) 65535 } else r
      let discard (g : Run) (l : List AeRecord) : List AeRecord :=
        l.map fun r => if r.place = g.place then { r with runCount := r.runCount - 1, truncated := true } else r
      let fresh (r : AeRecord) : AeRecord := { r with peak := max r.peak vp, runCount := r.runCount + 1 }
      let grows (r : Run) : Prop := r.place = pl ∧ r.level = level ∧ r.count < 255
      (∀ before r after, u.trace = before ++ r :: after → grows r → (∀ x ∈ after, x.place ≠ pl) →
          v = { u with
            trace := before ++ { r with count := r.count + 1 } :: after
            log := sampled u.log fun r => { r with peak := max r.peak vp } })
        ∧ ((∀ before r after, u.trace = before ++ r :: after → (∀ x ∈ after, x.place ≠ pl) → ¬grows r) →
          let full : Prop := ∃ r ∈ u.log, r.place = pl ∧ Config.recordRuns ≤ r.runCount
          let run : Run := { place := pl, level := level, count := 1 }
          (full → v = { u with log := sampled u.log fun r => { r with truncated := true } })
            ∧ (¬full → u.trace.length < Config.storeRuns → v = { u with trace := u.trace ++ [run], log := sampled u.log fresh })
            ∧ (∀ g rest, ¬full → Config.storeRuns ≤ u.trace.length → u.trace = g :: rest →
              v = { u with
                trace := rest ++ [run], log := sampled (discard g u.log) fresh
                counters.discardedRuns := bump32 u.counters.discardedRuns }))

/-! ### Line -/

/-- R67, R68, R71, R72, R74, R76, R77, R78: what a LINE-SAMPLE does to the line record. In FORWARD-ONLY the frame is only forwarded; in
TRIPPED the sample is recorded and the heat debt stepped, and nothing is composed. That an Inom which has been written already counts in the
heat debt step is the model's choice (log 43). R84, R85: the allocation is run last on the sample's line record and the groups as they stand, and the
orders that it makes due are decided (R94; log 15). -/
def Obligations.LineSampleComposesTheTarget : Prop :=
  ∀ (h : Header) (time : Long) (il vl : Half) (extra : List Byte) (s : State),
    s.takes h .lineSample = true → extra.length ≤ 52 → s.Settled →
    (s.meu.mode = .forwardOnly → exec (.lineSample h time il vl extra) s
        = .next (s.carried h .lineSample (lineSamplePayload time il vl extra)))
      ∧ (s.meu.mode ≠ .forwardOnly → ∃ t, exec (.lineSample h time il vl extra) s = .next t
        ∧ let l := s.line
          let m := t.line
          let dt := match l.sampleTime with | none => 0 | some u => min (s.time - u) 1000
          let floor := if m.heatRecovery then l.cfg.inom else l.cfg.if0
          let w1 : Int := clampCurrent (l.cfg.inom + l.player.op)
          let w2 : Int := match t.egu.slot.cap with | none => w1 | some id => min w1 id
          let w4 : Int := min (max w2 floor) s.clu.ic
          let w : Int := if l.aeHold then min w4 l.it else w4
          let i : Int := min l.it s.clu.ic
          -- R77 and R78, with It before the sample
          (l.it < l.cfg.inom → m.hd = min (l.hd + (l.heatRemainder + (l.cfg.inom - l.it) * dt) / 1000) 4294967295
              ∧ m.heatRemainder = (l.heatRemainder + (l.cfg.inom - l.it) * dt) % 1000)
            ∧ (l.cfg.inom ≤ l.it → m.hd * 1000 + m.heatRemainder = l.hd * 1000 + l.heatRemainder - l.cfg.hr * dt
              ∧ m.heatRemainder < 1000)
            ∧ m.heatRecovery = (decide (l.cfg.hl ≤ m.hd) || (l.heatRecovery && decide (l.cfg.hl / 2 ≤ m.hd)))
            ∧ (m.heatRecovery = true → l.heatRecovery = false →
              (t.meu.events[EventKind.heatRecovery.index]).pending = true)
            -- R67, stage 3
            ∧ m.il = il.toNat ∧ m.vl = vl.toNat ∧ m.sampleTime = some s.time ∧ m.iminInForce = l.cfg.imin
            -- R68 to R76 in LOW and ENERGISED
            ∧ (l.state ≠ .tripped → m.state = (if l.cfg.imin ≤ il.toNat then .energised else .low)
              ∧ m.tripWatch = (if il.toNat < l.cfg.itrip ∧ l.cfg.imin ≤ l.it ∧ l.cfg.imin ≤ m.it
                then some (l.tripWatch.getD s.time) else none)
              ∧ (m.it : Int) = (if i < w then min w (i + l.cfg.sup * dt / 1000)
                else if w < i then max w (i - l.cfg.sdn * dt / 1000) else i)
              ∧ m.curtailing = decide (w < l.cfg.inom ∧ (l.player.op < 0 ∨ w2 < w1))
              ∧ m.belowFloor = decide (s.clu.ic < floor)
              ∧ (m.belowFloor = true → l.belowFloor = false →
                (t.meu.events[EventKind.capacityBelowFloor.index]).pending = true)
              ∧ (l.cfg.imin ≤ il.toNat ∧ s.meu.mode = .supervising ∧ s.aeu.count = 0 ∧ (∃ g, (s.group g).available = true) →
                m.c = max (-(l.cfg.cmax : Int)) (min (l.c + ((m.it : Int) - il.toNat).tdiv (2 ^ l.cfg.ki)) l.cfg.cmax))
              ∧ (¬(l.cfg.imin ≤ il.toNat ∧ s.meu.mode = .supervising ∧ s.aeu.count = 0 ∧ ∃ g, (s.group g).available = true) →
                m.c = l.c))
            ∧ (l.state = .tripped → m.state = .tripped ∧ m.it = l.it ∧ m.c = l.c ∧ m.tripWatch = l.tripWatch
              ∧ m.curtailing = l.curtailing ∧ m.belowFloor = l.belowFloor)
            ∧ (m.ig : Int) = clampCurrent (m.it + m.c)
            ∧ m = { l with
                il := m.il, vl := m.vl, sampleTime := m.sampleTime, iminInForce := m.iminInForce, state := m.state
                tripWatch := m.tripWatch, it := m.it, c := m.c, ig := m.ig, hd := m.hd, heatRemainder := m.heatRemainder
                heatRecovery := m.heatRecovery, belowFloor := m.belowFloor, curtailing := m.curtailing }
            -- R67, stage 7: the allocation, and the orders that are due
            ∧ (∃ u : State, t = u.allocate.regulate ∧ u = { s with
                line := m, egu := t.egu, port := u.port, meu := { s.meu with events := u.meu.events, alarm := u.meu.alarm } })
            ∧ t.smap = s.smap ∧ t.psu = s.psu ∧ t.aeu = s.aeu ∧ t.clu = s.clu ∧ t.tru = s.tru)

/-- R131, R134, R135, R136, R79: what a LINE-SAMPLE does to the energy unit. Whole Wh leave the remainder, total and the slot's energy grow
by them, the extremes of IL follow, the cap is worked outside the guard period, and curtailed time is that of the interval before. That an
Inom which has been written already counts in curtailed time (log 43), and that the cap of a slot's first sample too is worked from Es with the
sample's own Wh in it (log 50), are the model's choices. -/
def Obligations.LineSampleAddsEnergyAndWorksTheCap : Prop :=
  ∀ (h : Header) (time : Long) (il vl : Half) (extra : List Byte) (s : State),
    s.takes h .lineSample = true → extra.length ≤ 52 → s.meu.mode ≠ .forwardOnly → s.Settled →
    ∃ t, exec (.lineSample h time il vl extra) s = .next t
      ∧ let o := s.egu.slot
        let n := t.egu.slot
        let dt := match s.line.sampleTime with | none => 0 | some u => min (s.time - u) 1000
        let clamped := match s.line.sampleTime with | none => false | some u => decide (1000 < s.time - u)
        let sum := s.egu.remainder + vl.toNat * il.toNat * dt
        let wh := sum / 3600000
        let w1 : Int := clampCurrent (s.line.cfg.inom + s.line.player.op)
        let binds : Bool := match n.cap with | none => false | some id => decide ((id : Int) < w1)
        t.egu.remainder = sum % 3600000 ∧ t.egu.total = s.egu.total + wh
          ∧ n.es = min (o.es + wh) 4294967295 ∧ t.egu.lost = s.egu.lost + (o.es + wh - 4294967295)
          ∧ n.gap = (o.gap || clamped)
          ∧ n.minIl = some (match o.minIl with | none => il.toNat | some a => min a il.toNat)
          ∧ n.maxIl = some (match o.maxIl with | none => il.toNat | some a => max a il.toNat)
          ∧ n.curtailed = o.curtailed + (if s.line.curtailing = true ∧ s.line.it < s.line.cfg.inom then dt else 0)
          ∧ (o.number = none ∨ o.entry.limit = 0 → n.cap = none)
          ∧ (∀ day ms, s.egu.clock = some ⟨day, ms⟩ → ms < 86400000 → o.number = some ((day - 1) * 48 + ms / 1800000) →
            o.entry.limit ≠ 0 →
            let left := 1800000 - ms % 1800000
            (left ≤ 60000 ∨ vl = 0 → n.cap = o.cap)
              ∧ (60000 < left → vl ≠ 0 →
                n.cap = some (min ((o.entry.limit * 1000 - n.es) * 3600000 / left / vl.toNat) 65535)))
          ∧ (s.line.state ≠ .tripped → n.capBinding = binds)
          ∧ (s.line.state ≠ .tripped → binds = true → o.capBinding = false →
            (t.meu.events[EventKind.demandCap.index]).pending = true)
          ∧ (s.line.state = .tripped → n.capBinding = o.capBinding)
          ∧ t.egu = { s.egu with
              remainder := t.egu.remainder, total := t.egu.total, lost := t.egu.lost
              slot := { o with
                es := n.es, gap := n.gap, minIl := n.minIl, maxIl := n.maxIl, curtailed := n.curtailed, cap := n.cap
                capBinding := n.capBinding } }

/-- R84, R85: the allocation shares Ir out over the available set in proportion to the capacities: each share is the whole part, or one more
from the lowest group upward, none is above its group's capacity, and together they are Ir. Nothing else is written, and nothing in
FORWARD-ONLY or when no group is available. That a SILENT group contributes no fixed load, although R179 counts one at the takeover, is the
model's choice (log 52). -/
def Obligations.AllocationSharesTheCommand : Prop :=
  (∀ s : State, s.meu.mode = .forwardOnly → s.allocate = s)
    ∧ (∀ s : State, s.meu.mode ≠ .forwardOnly →
      let a := s.allocate
      let cap (g : Fin 8) : Nat := if (s.group g).available then (s.group g).cap else 0
      let share (g : Fin 8) : Nat := if (s.group g).available then (a.group g).wanted else 0
      let total := ((List.finRange 8).map cap).sum
      let load (q : Group) : Nat :=
        if q.cfg.present = false ∨ q.available = true ∨ q.stale = .silent then 0
        else if q.stale = .holding ∧ q.authority ≠ .released then q.confirmed else q.reported
      let ir := min (s.line.ig - ((List.finRange 8).map fun g => load (s.group g)).sum) total
      let base (g : Fin 8) : Nat := ir * cap g / total
      (∀ g, (s.group g).available = true ↔ (s.group g).cfg.present = true ∧ (s.group g).authority ≠ .released
          ∧ (s.group g).stale = .fresh ∧ (s.group g).withdrawal = .none ∧ 0 < (s.group g).cap)
        ∧ ((∃ g, (s.group g).available = true) → ((List.finRange 8).map share).sum = ir)
        ∧ (∀ g, (s.group g).available = true →
          a.group g = { s.group g with wanted := share g } ∧ share g ≤ cap g
            ∧ (share g = base g ∨ share g = base g + 1
              ∧ ∀ g' < g, (s.group g').available = true → share g' = base g' + 1 ∨ share g' = cap g'))
        ∧ (∀ g, (s.group g).available = false → a.group g = s.group g)
        ∧ a = { s with gau.groups := a.gau.groups })

/-- R69, R70: LINE-TRIP at the end of its watch makes It, c and Ig 0, stops the player without an event and gives every held group wanted 0,
those outside the available set among them (log 28); LINE-RESTART in TRIPPED brings back the smaller of IL and Ic with c 0 and runs the
allocation (R85), with the orders that it makes due (R94; log 15), and in LOW or ENERGISED is refused BAD-STATE. The Imin compared is the one
in force (log 21). -/
def Obligations.LineTripZeroesAndLineRestartRestores : Prop :=
  (∀ (s : State) (u : Nat), s.resetLow = false → s.meu.mode ≠ .forwardOnly → s.line.tripWatch = some u → u + 1000 ≤ s.time →
      s.Settled → ∃ t, exec .lineTrip s = .next t
        ∧ t.line = { s.line with
            state := .tripped, it := 0, c := 0, ig := 0, tripWatch := none
            player := { s.line.player with state := .idle, profile := none, stepEnd := none, remaining := none, op := 0 } }
        ∧ (∀ g, (s.group g).authority ≠ .released → (t.group g).authority ≠ .released ∧ (t.group g).wanted = 0)
        ∧ (∀ g, (s.group g).authority = .released → t.group g = s.group g)
        ∧ (t.meu.events[EventKind.lineTrip.index]).pending = true ∧ t.meu.alarm = alarmHeld t.meu.events
        ∧ t.smap = s.smap ∧ t.psu = s.psu ∧ t.aeu = s.aeu ∧ t.clu = s.clu ∧ t.egu = s.egu ∧ t.tru = s.tru)
    ∧ (∀ (h : Header) (arg : Half) (tail : List Byte) (s : State),
      s.admits h (commandPayload .lineRestart arg tail) = true → s.Settled →
      (s.line.state ≠ .tripped → exec (.lineRestart h arg tail) s = .next (s.replied h (replyOf .badState [])))
        -- the allocation is run on the restarted line, and the orders that it makes due are decided
        ∧ (s.line.state = .tripped → exec (.lineRestart h arg tail) s = .next (State.replied
          (State.regulate (State.allocate { s with line := { s.line with
            it := min s.line.il s.clu.ic, c := 0, ig := min s.line.il s.clu.ic, tripWatch := none
            state := if s.line.iminInForce ≤ s.line.il then .energised else .low } })) h (replyOf .ok [])))
        ∧ (s.line.state = .tripped → ∃ t, exec (.lineRestart h arg tail) s = .next t
          ∧ t.line = { s.line with
              it := min s.line.il s.clu.ic, c := 0, ig := min s.line.il s.clu.ic, tripWatch := none
              state := if s.line.iminInForce ≤ s.line.il then .energised else .low }
          ∧ t.hasReplied (replyFrame s.address h.src h.seq (replyOf .ok []))
          ∧ t.smap = s.smap ∧ t.psu = s.psu ∧ t.aeu = s.aeu ∧ t.clu = s.clu ∧ t.egu = s.egu ∧ t.tru = s.tru))

/-- R81, R82: what PROFILE-PLAY, HOLD, RESUME and STOP do by the player's state, and what the end of a step does. The last flag is that of
the step as it was entered (log 33). R80: what a WRITE of a field of PROFILE-STEP or PROFILE does; that a field number that names none is
BAD-VALUE is the model's choice (log 11). -/
def Obligations.ProfilePlayerTakesItsCommands : Prop :=
  let idled (s : State) : State := { s with line.player :=
    { s.line.player with state := .idle, profile := none, stepEnd := none, remaining := none, op := 0 } }
  (∀ (h : Header) (arg : Half) (tail : List Byte) (s : State), s.admits h (commandPayload .profilePlay arg tail) = true → s.Settled →
      (8 ≤ arg.toNat → exec (.profilePlay h arg tail) s = .next (s.replied h (replyOf .badIndex [])))
        ∧ (arg.toNat < 8 → s.line.player.state ≠ .idle ∨ s.line.state = .tripped ∨ s.meu.mode = .forwardOnly →
          exec (.profilePlay h arg tail) s = .next (s.replied h (replyOf .badState [])))
        ∧ (∀ n : Fin 8, arg.toNat = n.val → s.line.player.state = .idle → s.line.state ≠ .tripped → s.meu.mode ≠ .forwardOnly →
          exec (.profilePlay h arg tail) s
            = .next ((s.stepEntered n s.line.profiles[n].startStep).replied h (replyOf .ok []))))
    ∧ (∀ (h : Header) (arg : Half) (tail : List Byte) (s : State), s.admits h (commandPayload .profileHold arg tail) = true → s.Settled →
      (s.line.player.state ≠ .playing → exec (.profileHold h arg tail) s = .next (s.replied h (replyOf .badState [])))
        ∧ (∀ e, s.line.player.state = .playing → s.line.player.stepEnd = some e →
          exec (.profileHold h arg tail) s = .next (State.replied
            { s with line.player := { s.line.player with state := .held, remaining := some (e - s.time), stepEnd := none } }
            h (replyOf .ok []))))
    ∧ (∀ (h : Header) (arg : Half) (tail : List Byte) (s : State), s.admits h (commandPayload .profileResume arg tail) = true → s.Settled →
      (s.line.player.state ≠ .held → exec (.profileResume h arg tail) s = .next (s.replied h (replyOf .badState [])))
        ∧ (∀ r, s.line.player.state = .held → s.line.player.remaining = some r →
          exec (.profileResume h arg tail) s = .next (State.replied
            { s with line.player := { s.line.player with state := .playing, stepEnd := some (s.time + r), remaining := none } }
            h (replyOf .ok []))))
    ∧ (∀ (h : Header) (arg : Half) (tail : List Byte) (s : State), s.admits h (commandPayload .profileStop arg tail) = true → s.Settled →
      exec (.profileStop h arg tail) s
        = .next ((if s.line.player.state = .idle then s else idled s).replied h (replyOf .ok [])))
    ∧ (∀ (s : State) (n : Fin 8) (u : Nat), s.resetLow = false → s.meu.mode ≠ .forwardOnly → s.line.player.state = .playing →
      s.line.player.profile = some n → s.line.player.stepEnd = some u → u ≤ s.time →
      (∀ k : Fin 256, s.line.player.last = false → k.val = s.line.player.step.val + 1 →
          exec .stepEnd s = .next (s.stepEntered n k))
        ∧ (s.line.player.last = true ∨ s.line.player.step = 255 →
          exec .stepEnd s = .next ((idled s).raise .profileEnd n.val s.line.player.step.val
            (if s.line.player.last then 1 else 2))))
    ∧ (∀ (h : Header) (index : Half) (field : Byte) (v : Long) (rest : List Byte) (s : State),
      s.admits h (writePayload .profileStep index field (be32 v ++ rest)) = true → s.Settled →
      let c := writeRow .profileStep h index field (be32 v ++ rest)
      (256 ≤ index.toNat → exec c s = .next (s.replied h (replyOf .badIndex [])))
        ∧ ∀ k : Fin 256, k.val = index.toNat →
          let gives (st : ProfileStep) (r : Reply) : Prop :=
            exec c s = .next (State.replied { s with line.steps := s.line.steps.set k st } h r)
          let st := s.line.steps[k]
          let offset : Int := max (-32768) (min v.toInt 32767)
          let n := nearest 1 3600 v.toNat
          (field = 0 → gives { st with offset := offset } (replyOf (if offset = v.toInt then .ok else .clamped) (be32 (BitVec.ofInt 32 offset))))
            ∧ (field = 1 → gives { st with duration := n } (writeReply v n))
            ∧ (field = 2 → v.toNat ≤ 15 → gives { st with marker := v.toNat } (writeReply v v.toNat))
            ∧ (field = 3 → v.toNat ≤ 1 → gives { st with last := decide (v = 1) } (writeReply v v.toNat))
            ∧ (field = 2 ∧ 15 < v.toNat ∨ field = 3 ∧ 1 < v.toNat ∨ 4 ≤ field.toNat →
              exec c s = .next (s.replied h (replyOf .badValue []))))
    ∧ (∀ (h : Header) (index : Half) (field : Byte) (v : Long) (rest : List Byte) (s : State),
      s.admits h (writePayload .profile index field (be32 v ++ rest)) = true → s.Settled →
      let c := writeRow .profile h index field (be32 v ++ rest)
      (8 ≤ index.toNat → exec c s = .next (s.replied h (replyOf .badIndex [])))
        ∧ ∀ n : Fin 8, n.val = index.toNat →
          let gives (e : ProfileEntry) (r : Reply) : Prop :=
            exec c s = .next (State.replied { s with line.profiles := s.line.profiles.set n e } h r)
          let e := s.line.profiles[n]
          (∀ k : Fin 256, field = 0 → k.val = nearest 0 255 v.toNat → gives { e with startStep := k } (writeReply v k.val))
            ∧ (field = 1 → v.toNat ≤ 7 → gives { e with trigger := some v.toNat } (writeReply v v.toNat))
            ∧ (field = 1 → v.toNat = 255 → gives { e with trigger := none } (writeReply v v.toNat))
            ∧ (field = 1 ∧ 7 < v.toNat ∧ v.toNat ≠ 255 ∨ 2 ≤ field.toNat → exec c s = .next (s.replied h (replyOf .badValue []))))

/-! ### Groups -/

/-- R89, R90, R110, R111, R117, R118, R119: what a full GROUP-STATUS does. One that matches no present group, or has a bad mode or tap, is only
counted; a good one is recorded, gives the group its percentage and capacity, forms Ic and re-evaluates the stage conditions (R121); one that
reports LOCAL releases a held group, one that changes LOCAL to REMOTE claims a group that claims itself (R92), and one whose flow has failed
has a held group ordered to 0. -/
def Obligations.FullStatusIsRecordedAndRated : Prop :=
  ∀ (h : Header) (mode : Byte) (current : Half) (tap : Byte) (echo tout tsink flow : Half) (extra : List Byte) (s : State),
    s.takes h .statusFull = true → extra.length ≤ 48 → s.meu.mode ≠ .forwardOnly → s.Settled →
    let c : Instr := .groupStatusFull h mode current tap echo tout tsink flow extra
    let u := s.carried h .statusFull (statusFullPayload mode current tap echo tout tsink flow extra)
    ((∀ g, (s.group g).cfg.present = true → (s.group g).cfg.node ≠ h.src) →
        exec c s = .next { u with gau.unmatchedStatus := bump32 s.gau.unmatchedStatus })
      ∧ ∀ g, (s.group g).cfg.present = true → (s.group g).cfg.node = h.src →
        (∀ g' < g, (s.group g').cfg.present = true → (s.group g').cfg.node ≠ h.src) →
        let q := s.group g
        ((mode ≠ 1 ∧ mode ≠ 2) ∨ tap.toNat < 1 ∨ 35 < tap.toNat →
            exec c s = .next (u.modGroup g fun x => { x with counters.badStatus := min (x.counters.badStatus + 1) 65535 }))
          ∧ (mode = 1 ∨ mode = 2 → 1 ≤ tap.toNat → tap.toNat ≤ 35 → ∃ t, exec c s = .next t
            ∧ let x := t.group g
              let teq : Int := max tout.toInt (tsink.toInt - q.cfg.sinkOffset)
              x.lastStatus = some s.time ∧ x.stale = .fresh ∧ x.reported = current.toNat ∧ x.tap = tap.toNat
                ∧ x.echo = echo.toNat ∧ x.tout = tout.toInt ∧ x.tsink = tsink.toInt ∧ x.flow = flow.toNat
                ∧ x.latestForm = .full ∧ x.mode = (if mode = 1 then .remote else .localMode) ∧ x.form = q.form
                ∧ x.cfg = q.cfg ∧ x.curve = q.curve
                ∧ x.counters.echoMismatch = (if (q.authority = .held ∨ q.authority = .heldWatched) ∧ echo.toNat ≠ q.confirmed
                  then bump32 q.counters.echoMismatch else q.counters.echoMismatch)
                ∧ (q.form = .full → x.teq = some teq ∧ x.flowLow = decide (flow.toNat < q.cfg.minFlow)
                  ∧ x.pct = if flow.toNat < q.cfg.minFlow then 0 else readCurve q.curve teq)
                ∧ (q.form = .basic → x.teq = q.teq ∧ x.flowLow = q.flowLow ∧ x.pct = if q.flowLow then 0 else q.cfg.derate)
                ∧ x.cap = q.cfg.rated * x.pct / 100 * s.clu.pct / 100
                ∧ (let idle : Withdrawal :=
                      if q.withdrawal = .withdrawing ∧ current.toNat ≤ q.cfg.idle then .withdrawn else q.withdrawal
                  (q.form = .basic → x.withdrawal = idle)
                    ∧ (q.form = .full → flow.toNat < q.cfg.minFlow →
                      x.withdrawal = (if q.withdrawal = .none then .withdrawing else idle)
                        ∧ (q.withdrawal = .none → (t.meu.events[EventKind.groupWithdrawn.index]).pending = true))
                    ∧ (q.form = .full → q.cfg.minFlow ≤ flow.toNat → x.withdrawal = if 0 < x.cap then .none else idle))
                ∧ (mode = 2 → x.authority = .released)
                ∧ (mode = 2 → q.authority ≠ .released → x.order = none ∧ x.watcher = none ∧ x.streak = 0
                  ∧ x.confirmed = q.confirmed ∧ (t.meu.events[EventKind.groupWentLocal.index]).pending = true)
                ∧ (mode = 1 → q.authority ≠ .released → x.authority ≠ .released ∧ x.watcher = q.watcher)
                ∧ (mode = 1 → q.form = .full → flow.toNat < q.cfg.minFlow → q.withdrawal = .none → q.order = none →
                  q.authority = .held ∨ q.authority = .heldWatched → 0 < q.confirmed → s.meu.mode = .supervising →
                  q.cfg.ack = .external → x.wanted = 0 ∧ x.authority = q.authority.toPending
                    ∧ ∃ o, x.order = some o ∧ o.setpoint = 0 ∧ o.withdraw = true ∧ o.sent = s.time)
                ∧ (mode = 1 → q.authority = .released →
                  let claims : Prop := q.cfg.autoclaim = true ∧ q.mode = .localMode ∧ s.meu.mode = .supervising
                  (claims → q.autoclaimed x s.time current.toNat) ∧ (¬claims → x.authority = .released ∧ x.confirmed = q.confirmed))
                ∧ t.clu.ic = t.stationCapacity
                ∧ s.stageEvaluated t
                ∧ t.clu = { s.clu with
                    ic := t.clu.ic, hottest := t.clu.hottest, upSince := t.clu.upSince, downSince := t.clu.downSince }
                ∧ t.line = { s.line with
                    it := if t.clu.ic = s.clu.ic ∨ s.line.state = .tripped then s.line.it else min s.line.it t.clu.ic
                    ig := t.line.ig, tripWatch := t.line.tripWatch, belowFloor := t.line.belowFloor }
                ∧ (s.meu.mode = .observing → ∀ g', g' ≠ g → t.group g' = { s.group g' with wanted := (t.group g').wanted })
                ∧ t.smap = s.smap ∧ t.psu = s.psu ∧ t.aeu = s.aeu ∧ t.egu = s.egu ∧ t.tru = s.tru)

/-- R89, R107, R108, R117, R118: what a short GROUP-STATUS does. Under full-form lock only the current and the counter are recorded, and a
group that was not FRESH is evaluated; without it the group falls back to BASIC form on the basic derate, and a pending order counts as
confirmed. One that changes LOCAL to REMOTE claims a group that claims itself (R90, R92), and where the form or the stale state may have
changed the stage conditions are re-evaluated (R119, R121). One that matches no present group, or has a bad mode or tap, is only counted. -/
def Obligations.ShortStatusFallsBackOrIsCounted : Prop :=
  (∀ (h : Header) (mode : Byte) (current : Half) (tap : Byte) (extra : List Byte) (s : State),
      s.takes h .statusShort = true → extra.length ≤ 56 → s.meu.mode ≠ .forwardOnly →
      let c : Instr := .groupStatusShort h mode current tap extra
      let u := s.carried h .statusShort (statusShortPayload mode current tap extra)
      ((∀ g, (s.group g).cfg.present = true → (s.group g).cfg.node ≠ h.src) →
          exec c s = .next { u with gau.unmatchedStatus := bump32 s.gau.unmatchedStatus })
        ∧ ∀ g, (s.group g).cfg.present = true → (s.group g).cfg.node = h.src →
          (∀ g' < g, (s.group g').cfg.present = true → (s.group g').cfg.node ≠ h.src) →
          (mode ≠ 1 ∧ mode ≠ 2) ∨ tap.toNat < 1 ∨ 35 < tap.toNat →
          exec c s = .next (u.modGroup g fun x => { x with counters.badStatus := min (x.counters.badStatus + 1) 65535 }))
    ∧ ∀ (h : Header) (mode : Byte) (current : Half) (tap : Byte) (extra : List Byte) (s : State) (g : Fin 8),
    s.takes h .statusShort = true → extra.length ≤ 56 → s.meu.mode ≠ .forwardOnly → s.Settled →
    (s.group g).cfg.present = true → (s.group g).cfg.node = h.src →
    (∀ g' < g, (s.group g').cfg.present = true → (s.group g').cfg.node ≠ h.src) →
    mode = 1 ∨ mode = 2 → 1 ≤ tap.toNat → tap.toNat ≤ 35 →
    ∃ t, exec (.groupStatusShort h mode current tap extra) s = .next t
      ∧ let q := s.group g
        let x := t.group g
        x.lastStatus = some s.time ∧ x.stale = .fresh ∧ x.reported = current.toNat
          ∧ x.mode = (if mode = 1 then .remote else .localMode) ∧ x.cfg = q.cfg ∧ x.curve = q.curve
          ∧ x.echo = q.echo ∧ x.tout = q.tout ∧ x.tsink = q.tsink ∧ x.flow = q.flow ∧ x.teq = q.teq ∧ x.flowLow = q.flowLow
          ∧ x.withdrawal = (if q.withdrawal = .withdrawing ∧ current.toNat ≤ q.cfg.idle then .withdrawn else q.withdrawal)
          ∧ (mode = 2 → x.authority = .released)
          ∧ (mode = 2 → q.authority ≠ .released → (t.meu.events[EventKind.groupWentLocal.index]).pending = true)
          ∧ (q.cfg.lock = true → x.form = q.form ∧ x.latestForm = q.latestForm ∧ x.tap = q.tap ∧ x.pct = q.pct
            ∧ x.counters.shortWhileLocked = bump32 q.counters.shortWhileLocked
            ∧ x.cap = if q.stale = .fresh then q.cap else q.cfg.rated * q.pct / 100 * s.clu.pct / 100)
          ∧ (q.cfg.lock = false → x.form = .basic ∧ x.latestForm = .short ∧ x.tap = tap.toNat
            ∧ x.counters.shortWhileLocked = q.counters.shortWhileLocked
            ∧ x.pct = (if q.flowLow then 0 else q.cfg.derate) ∧ x.cap = q.cfg.rated * x.pct / 100 * s.clu.pct / 100
            ∧ t.clu.ic = t.stationCapacity
            ∧ (q.form = .full → (t.meu.events[EventKind.groupFallback.index]).pending = true))
          ∧ (∀ o, q.cfg.lock = false → q.form = .full → q.order = some o → q.authority = .pending ∨ q.authority = .pendingWatched →
            mode = 1 → q.stepOpen = false → q.withdrawal = .none →
            x.order = none ∧ x.confirmed = o.setpoint ∧ x.authority = q.authority.fromPending ∧ x.streak = 0)
          ∧ (mode = 1 → q.authority = .released →
            let claims : Prop := q.cfg.autoclaim = true ∧ q.mode = .localMode ∧ s.meu.mode = .supervising
            (claims → q.autoclaimed x s.time current.toNat) ∧ (¬claims → x.authority = .released ∧ x.confirmed = q.confirmed))
          ∧ (q.cfg.lock = false ∨ q.stale ≠ .fresh → t.clu.ic = t.stationCapacity ∧ s.stageEvaluated t
            ∧ t.clu = { s.clu with
                ic := t.clu.ic, hottest := t.clu.hottest, upSince := t.clu.upSince, downSince := t.clu.downSince })
          ∧ (q.cfg.lock = true → q.stale = .fresh → t.clu = s.clu)
          ∧ (s.meu.mode = .observing → ∀ g', g' ≠ g → t.group g' = { s.group g' with wanted := (t.group g').wanted })
          ∧ t.smap = s.smap ∧ t.psu = s.psu ∧ t.aeu = s.aeu ∧ t.egu = s.egu ∧ t.tru = s.tru

/-- R96, R97, R99, R104: what a GROUP-ANSWER does: unplaced, late, TAKEN, REFUSED, refused for the third time in a row, or with a bad
result. An order that the end of this one makes due is decided at once: a withdrawal's zero order after a refusal, or after the order that stood
when the flow failed (R110; log 26), and that of a step that has opened meanwhile (R94; log 15). The notice of a TAKEN answer carries the record
as it is at the confirmation (log 47), and none is placed for 0xFFFF (log 42). -/
def Obligations.GroupAnswersEndTheirOrders : Prop :=
  ∀ (h : Header) (result : Byte) (setpoint : Half) (extra : List Byte) (s : State),
    s.takes h .groupAnswer = true → extra.length ≤ 57 →
    let c : Instr := .groupAnswer h result setpoint extra
    ((∀ g, (s.group g).cfg.present = true → (s.group g).cfg.node ≠ h.src) →
        exec c s = .next { s with gau.unplaced := bump32 s.gau.unplaced })
      ∧ ∀ g, (s.group g).cfg.present = true → (s.group g).cfg.node = h.src →
        (∀ g' < g, (s.group g').cfg.present = true → (s.group g').cfg.node ≠ h.src) →
        let q := s.group g
        let mismatch (o : GroupOrder) (k : GroupCounters) : GroupCounters :=
          if setpoint.toNat = o.setpoint then k else { k with mismatch := min (k.mismatch + 1) 65535 }
        ((∀ o, q.order = some o → o.unsent = true ∨ o.seq ≠ h.seq) →
            exec c s = .next (s.modGroup g fun x => { x with counters.late := min (x.counters.late + 1) 65535 }))
          ∧ ∀ o, q.order = some o → o.unsent = false → o.seq = h.seq →
            let k := mismatch o q.counters
            (result ≠ 1 → result ≠ 2 → exec c s = .next (s.modGroup g fun x =>
                { x with counters := { k with badAnswer := min (k.badAnswer + 1) 65535 } }))
              ∧ (result = 1 → q.stepOpen = false → q.withdrawal = .none → s.Settled → ∃ t, exec c s = .next t
                ∧ t.group g = { q with
                    order := none, confirmed := o.setpoint, authority := q.authority.fromPending, streak := 0, counters := k
                    wanted := (t.group g).wanted }
                ∧ (∀ w, q.watcher = some w → w ≠ 0xFFFF → s.meu.mode ≠ .forwardOnly → s.port.insert.length < 32 →
                  { noticeFrame s.address w g o.setpoint q.authority.fromPending with seq := s.port.noticeSeq } ∈ t.port.insert)
                ∧ t.smap = s.smap ∧ t.psu = s.psu ∧ t.aeu = s.aeu ∧ t.line = s.line ∧ t.clu = s.clu ∧ t.egu = s.egu
                ∧ t.tru = s.tru)
              ∧ (result = 2 → q.streak < 2 → q.stepOpen = false → q.withdrawal = .none → s.Settled → ∃ t, exec c s = .next t
                ∧ t.group g = { q with
                    order := none, authority := q.authority.fromPending, streak := q.streak + 1, counters := k
                    wanted := (t.group g).wanted }
                ∧ t.smap = s.smap ∧ t.psu = s.psu ∧ t.aeu = s.aeu ∧ t.line = s.line ∧ t.clu = s.clu ∧ t.egu = s.egu
                ∧ t.tru = s.tru)
              -- and what is decided at once after it
              ∧ (result = 1 → (q.authority = .pending ∨ q.authority = .pendingWatched) → s.Settled → s.Regulated → ∃ t, exec c s = .next t
                ∧ s.orderWorked g
                  { q with order := none, confirmed := o.setpoint, authority := q.authority.fromPending, streak := 0, counters := k } t
                ∧ t.smap = s.smap ∧ t.psu = s.psu ∧ t.aeu = s.aeu ∧ t.line = s.line ∧ t.clu = s.clu ∧ t.egu = s.egu
                ∧ t.tru = s.tru)
              ∧ (result = 2 → q.streak < 2 → (q.authority = .pending ∨ q.authority = .pendingWatched) → s.Settled → s.Regulated →
                ∃ t, exec c s = .next t
                ∧ s.orderWorked g
                  { q with order := none, authority := q.authority.fromPending, streak := q.streak + 1, counters := k } t
                ∧ t.smap = s.smap ∧ t.psu = s.psu ∧ t.aeu = s.aeu ∧ t.line = s.line ∧ t.clu = s.clu ∧ t.egu = s.egu
                ∧ t.tru = s.tru)
              ∧ (result = 2 → 2 ≤ q.streak → (q.authority = .pending ∨ q.authority = .pendingWatched) → s.Settled →
                ∃ t, exec c s = .next t
                  ∧ t.group g = { q with order := none, authority := .released, streak := 0, watcher := none, counters := k }
                  ∧ (t.meu.events[EventKind.groupRefusing.index]).pending = true
                  ∧ t.smap = s.smap ∧ t.psu = s.psu ∧ t.aeu = s.aeu ∧ t.line = s.line ∧ t.clu = s.clu ∧ t.egu = s.egu
                  ∧ t.tru = s.tru)

/-- R101, R102, R103: what a GROUP-PROBE does, by its next-state, and the PROBE-ANSWER it is given. It is not taken in FORWARD-ONLY or
when 16 answers wait; the value is that of the record before the change. A RETURN-REMOTE that claims a group in withdrawal decides its zero order
at once (R91, R110; log 15, 26), whose frame is not placed for 0xFFFF (log 42). -/
def Obligations.ProbesAreAnsweredByNextState : Prop :=
  (∀ (h : Header) (group data next : Byte) (extra : List Byte) (s : State),
      s.takes h .groupProbe = true → extra.length ≤ 57 → s.meu.mode = .forwardOnly ∨ 16 ≤ s.gau.answers →
      exec (.groupProbe h group data next extra) s = .next { s with gau.ignoredProbes := bump32 s.gau.ignoredProbes })
    ∧ (∀ q : Group, q.probeValue 0 = some (0, false) ∧ q.probeValue 1 = some (q.confirmed, false)
      ∧ q.probeValue 2 = some (match q.order with | none => (0, true) | some o => (o.setpoint, false))
      ∧ q.probeValue 3 = some (if q.authority = .released then q.reported
        else match q.order with | none => q.confirmed | some o => o.setpoint, false)
      ∧ ∀ d : Byte, 3 < d.toNat → q.probeValue d = none)
    ∧ ∀ (h : Header) (group data : Byte) (extra : List Byte) (s : State),
      s.takes h .groupProbe = true → extra.length ≤ 57 → s.meu.mode ≠ .forwardOnly → s.gau.answers < 16 → s.Settled → s.Regulated →
      -- the answer, with the group's record and whatever else has changed
      let gives (c : Instr) (g : Fin 8) (r : ProbeResult) (value : Nat) (x : Group) : Prop :=
        ∃ t, exec c s = .next t ∧ t.hasSent (answerFrame s.address h.src h.seq r value x.authority)
          ∧ t.group g = x
          ∧ t = { s with
              port := t.port
              gau := { s.gau with
                groups := s.gau.groups.set g x, sendList := t.gau.sendList, noticesDropped := t.gau.noticesDropped } }
      ((∀ next, 8 ≤ group.toNat ∨ (∃ g : Fin 8, g.val = group.toNat ∧ (s.group g).cfg.present = false) →
          ∃ t, exec (.groupProbe h group data next extra) s = .next t
            ∧ t.hasSent (answerFrame s.address h.src h.seq .noGroup 0 .released) ∧ t.gau.groups = s.gau.groups)
        ∧ ∀ g : Fin 8, g.val = group.toNat → (s.group g).cfg.present = true →
          let q := s.group g
          (∀ next : Byte, 3 < data.toNat ∨ 4 < next.toNat →
              gives (.groupProbe h group data next extra) g .badRequest 0 q)
            ∧ ∀ value nothing, q.probeValue data = some (value, nothing) →
              let good : ProbeResult := if nothing then .nothingPending else .ok
              gives (.groupProbe h group data 0 extra) g good value q
                ∧ (q.authority = .released → gives (.watch h group data extra) g .badState value q)
                ∧ (q.authority ≠ .released → q.watcher = none →
                  gives (.watch h group data extra) g good value
                    { q with watcher := some h.src, authority := q.authority.withWatcher })
                ∧ (∀ w, q.authority ≠ .released → q.watcher = some w →
                  gives (.watch h group data extra) g (if w = h.src then good else .busy) value q)
                ∧ (q.watcher = some h.src → gives (.unwatch h group data extra) g good value
                    { q with watcher := none, authority := q.authority.withoutWatcher })
                ∧ (q.watcher ≠ some h.src → gives (.unwatch h group data extra) g .busy value q)
                ∧ (q.authority = .released → gives (.takeLocal h group data extra) g good value q)
                ∧ (q.authority ≠ .released → ∃ t, exec (.takeLocal h group data extra) s = .next t
                  ∧ t.hasSent (answerFrame s.address h.src h.seq good value .released)
                  ∧ t.group g = { q with order := none, authority := .released, streak := 0, watcher := none })
                ∧ (q.cfg.autoclaim = false → gives (.returnRemote h group data extra) g .badState value q)
                ∧ (q.cfg.autoclaim = true → s.claimable q = false → gives (.returnRemote h group data extra) g good value q)
                ∧ (q.cfg.autoclaim = true → s.claimable q = true → q.withdrawal = .none →
                  ∃ t, exec (.returnRemote h group data extra) s = .next t
                    ∧ t.hasSent (answerFrame s.address h.src h.seq good value .held)
                    ∧ t.group g = { q with
                        confirmed := q.reported, wanted := (t.group g).wanted, authority := .held, streak := 0, order := none
                        stepCounter := q.cfg.latch, stepOpen := false })
                -- a group in withdrawal is claimed too, and its zero order decided at once, behind the answer
                ∧ (q.cfg.autoclaim = true → s.claimable q = true → q.withdrawal ≠ .none →
                  ∃ t, exec (.returnRemote h group data extra) s = .next t
                    ∧ t.hasSent (answerFrame s.address h.src h.seq good value .held) ∧ s.withdrawnClaimed g t))

/-- R93, R94, R95: at the tick that brings a step counter to 0, step-open is set and the counter reloaded, and an order that this makes due
is decided: pending under EXTERNAL, confirmed at once under INTERNAL. Otherwise only the step opens. A frame for 0xFFFF is not placed (log
42). -/
def Obligations.StepTimerOpensTheStepAndDecidesOrders : Prop :=
  ∀ (g : Fin 8) (s : State), s.resetLow = false → s.Settled → s.Regulated → (s.group g).cfg.latch ≠ 0 → (s.group g).stepCounter = 0 →
    ((s.group g).order.isSome → (s.group g).authority = .pending ∨ (s.group g).authority = .pendingWatched) →
    let q := s.group g
    let due : Prop := (q.authority = .held ∨ q.authority = .heldWatched) ∧ q.cfg.deadband ≤ ((q.wanted : Int) - q.confirmed).natAbs
      ∧ q.stale = .fresh ∧ q.withdrawal = .none ∧ (q.form = .full ∨ q.statusSince = true) ∧ s.meu.mode = .supervising
    let f := orderFrame s.address q.cfg.node s.gau.seq q.wanted false
    let external : Prop := q.form = .full ∧ q.cfg.ack = .external
    let kept (t : State) : Prop := t.gau.seq = s.gau.seq + 1 ∧ (∀ g', g' ≠ g → t.group g' = s.group g')
      ∧ t = { s with port := t.port, gau := t.gau }
    (¬due → exec (.stepTimer g) s = .next (s.modGroup g fun x => { x with stepOpen := true, stepCounter := x.cfg.latch }))
      ∧ (due → external → ∃ (t : State) (unsent : Bool), exec (.stepTimer g) s = .next t ∧ kept t
        ∧ t.group g = { q with
            stepOpen := false, stepCounter := q.cfg.latch, statusSince := false, authority := q.authority.toPending
            counters.ordersSent := bump32 q.counters.ordersSent
            order := some { setpoint := q.wanted, seq := s.gau.seq, sent := s.time, withdraw := false, unsent := unsent } }
        ∧ t.groupOrderPlaced g f unsent)
      ∧ (due → ¬external → ∃ t : State, exec (.stepTimer g) s = .next t ∧ kept t
        ∧ t.group g = { q with
            stepOpen := false, stepCounter := q.cfg.latch, statusSince := false, confirmed := q.wanted
            counters.ordersSent := bump32 q.counters.ordersSent }
        ∧ t.hasSent f)

/-- R98, R105, R106, R118, R110, R94: a pending order times out after 2000 ms, and an order that this makes due, a withdrawal's zero order (log 26)
or that of a step that has opened meanwhile, is decided at once (log 15; a frame for 0xFFFF is not placed, log 42); a FRESH group is HOLDING
after 3000 ms without a status, and SILENT after 30 000 ms, without capacity and released with GROUP-SILENT. That the capacity of a group that
becomes HOLDING is evaluated anew is the model's reading of R118 beside R105 (log 24). -/
def Obligations.GroupTimersEndOrdersAndGroups : Prop :=
  ∀ (g : Fin 8) (s : State), s.resetLow = false → s.Settled →
    let q := s.group g
    let others (t : State) : Prop := t.smap = s.smap ∧ t.psu = s.psu ∧ t.aeu = s.aeu ∧ t.egu = s.egu ∧ t.tru = s.tru
    (∀ o, q.order = some o → o.sent + 2000 ≤ s.time → q.stepOpen = false → q.withdrawal = .none → s.Regulated →
        exec (.groupOrderTimeout g) s = .next { s with gau := { s.gau with
          groups := s.gau.groups.set g { q with
            order := none, authority := q.authority.fromPending, counters.noAnswer := min (q.counters.noAnswer + 1) 65535 }
          sendList := s.gau.sendList.filter fun i => i.tag != .order g } })
      -- and what is decided at once after it
      ∧ (∀ o, q.order = some o → o.sent + 2000 ≤ s.time → (q.authority = .pending ∨ q.authority = .pendingWatched) → s.Regulated →
        ∃ t, exec (.groupOrderTimeout g) s = .next t
          ∧ s.orderWorked g { q with
              order := none, authority := q.authority.fromPending, counters.noAnswer := min (q.counters.noAnswer + 1) 65535 } t
          ∧ t.line = s.line ∧ t.clu = s.clu ∧ t.meu = s.meu ∧ others t)
      ∧ (∀ u, s.meu.mode ≠ .forwardOnly → q.cfg.present = true → q.stale = .fresh → q.lastStatus = some u → u + 3000 ≤ s.time →
        ∃ t, exec (.groupHolding g) s = .next t ∧ (t.group g).stale = .holding
          ∧ (t.group g).cap = q.cfg.rated * q.pct / 100 * s.clu.pct / 100 ∧ (t.group g).pct = q.pct
          ∧ (t.group g).confirmed = (if q.withdrawal = .none then q.confirmed else (t.group g).confirmed)
          ∧ (q.authority = .released → (t.group g).authority = .released)
          ∧ t.clu.ic = t.stationCapacity ∧ others t)
      ∧ (∀ u, s.meu.mode ≠ .forwardOnly → q.cfg.present = true → q.stale = .holding → q.lastStatus = some u → u + 30000 ≤ s.time →
        ∃ t, exec (.groupSilent g) s = .next t ∧ (t.group g).stale = .silent ∧ (t.group g).cap = 0
          ∧ (t.group g).authority = .released ∧ (t.group g).confirmed = q.confirmed
          ∧ (q.authority ≠ .released → (t.group g).order = none ∧ (t.group g).watcher = none ∧ (t.group g).streak = 0
            ∧ (t.meu.events[EventKind.groupSilent.index]).pending = true)
          ∧ t.clu.ic = t.stationCapacity ∧ others t)

/-! ### Cooling -/

/-- R116: the curve read at a temperature. On a curve that R115 admits the result is the first percentage below the first point, the last
one from the last point on, and between two neighbouring points the line between them with the fall rounded up. R115: a WRITE of CURVE
gives the group a curve of one or eight new points when the whole is good, and is otherwise refused; a READ gives a point or all eight. A
temperature beyond 16 bits is log 11, the value of the reply to a WRITE is free (log 8), and the layout of a READ is log 9. -/
def Obligations.CurveIsReadBetweenItsPoints : Prop :=
  (∀ (curve : Vector CurvePoint 8) (t : Int), curveOrdered curve.toList = true →
    (t < curve[0].t → readCurve curve t = curve[0].p)
      ∧ (curve[7].t ≤ t → readCurve curve t = curve[7].p)
      ∧ ∀ (i : Nat) (h : i < 7), curve[i].t ≤ t → t < curve[i + 1].t →
        ∃ fall : Nat, (readCurve curve t : Int) = curve[i].p - fall
          ∧ ((curve[i].p : Int) - curve[i + 1].p) * (t - curve[i].t) ≤ fall * (curve[i + 1].t - curve[i].t)
          ∧ ((fall : Int) - 1) * (curve[i + 1].t - curve[i].t) < ((curve[i].p : Int) - curve[i + 1].p) * (t - curve[i].t)
          ∧ curve[i + 1].p ≤ readCurve curve t ∧ readCurve curve t ≤ curve[i].p)
    ∧ (∀ (h : Header) (index : Half) (field : Byte) (values : List Byte) (s : State),
      s.admits h (writePayload .curve index field values) = true → s.Settled →
      let c := writeRow .curve h index field values
      let refused (code : ReplyCode) : Prop := exec c s = .next (s.replied h (replyOf code []))
      let short : Prop := field.toNat < 8 ∧ values.length < 8 ∨ field = 8 ∧ values.length < 32
      (short → refused .badValue) ∧ (¬short → 8 ≤ index.toNat ∨ 8 < field.toNat → refused .badIndex)
        ∧ ∀ g : Fin 8, g.val = index.toNat →
          let good (curve : Vector CurvePoint 8) : Prop := (∀ i : Fin 8, curve[i].p ≤ 100)
            ∧ ∀ (i : Nat) (h : i < 7), curve[i].t ≤ curve[i + 1].t ∧ curve[i + 1].p ≤ curve[i].p
          let writes (curve : Vector CurvePoint 8) : Prop :=
            (good curve → ∃ w : Long, exec c s = .next ((s.modGroup g fun q => { q with curve := curve }).replied h (replyOf .ok (be32 w))))
              ∧ (¬good curve → refused .badValue)
          (∀ (k : Fin 8) (temp pct : Long) (rest : List Byte), field.toNat = k.val → values = be32 temp ++ be32 pct ++ rest →
              (-32768 ≤ temp.toInt → temp.toInt ≤ 32767 → writes ((s.group g).curve.set k ⟨temp.toInt, pct.toNat⟩))
                ∧ (temp.toInt < -32768 ∨ 32767 < temp.toInt → refused .badValue))
            ∧ ∀ (points : Vector (Half × Half) 8) (rest : List Byte), field = 8 →
              values = points.toList.flatMap (fun e => be16 e.1 ++ be16 e.2) ++ rest →
              writes (points.map fun e => ⟨e.1.toInt, e.2.toNat⟩))
    ∧ ∀ (h : Header) (index : Half) (field : Byte) (values : List Byte) (s : State),
      s.admits h (Request.bytes { op := 1, object := 5, index := index, field := field, values := values }) = true → s.Settled →
      let c := readRow .curve h index field values
      (8 ≤ index.toNat ∨ 8 < field.toNat → exec c s = .next (s.replied h (replyOf .badIndex [])))
        ∧ ∀ g : Fin 8, g.val = index.toNat → (∀ k : Fin 8, (s.group g).curve[k].p ≤ 100) →
          let point (k : Fin 8) : CurvePoint := (s.group g).curve[k]
          (∀ k : Fin 8, k.val = field.toNat → exec c s = .next (s.replied h (replyOf .ok
              ([field, 2, 0, 0] ++ be32 (BitVec.ofInt 32 (point k).t) ++ be32 (BitVec.ofNat 32 (point k).p)))))
            ∧ (field = 8 → exec c s = .next (s.replied h (replyOf .ok
              ([8, 8, 0, 0] ++ (List.finRange 8).flatMap fun k =>
                be16 (BitVec.ofInt 16 (point k).t) ++ be16 (BitVec.ofNat 16 (point k).p)))))

/-- R121, R122, R124: when a stage condition has held its time, the wanted stage moves by one, a COOLER-ORDER with the next sequence number
is decided, the percentage is worked and the conditions start afresh. That the shortfall flag and event go by the percentage, also at a derate
of 100, is the model's choice (log 25). -/
def Obligations.StageTimersMoveTheWantedStage : Prop :=
  ∀ (c : Instr) (wanted u : Nat) (s : State), s.resetLow = false → s.meu.mode ≠ .forwardOnly → s.Settled →
    (c = .stageUp ∧ s.clu.upSince = some u ∧ u + 30000 ≤ s.time ∧ wanted = s.clu.wanted + 1)
      ∨ (c = .stageDown ∧ s.clu.downSince = some u ∧ u + 300000 ≤ s.time ∧ wanted = s.clu.wanted - 1) →
    ∃ t, exec c s = .next t ∧ stationWorked s t
      ∧ (let f : Frame := { dest := s.meu.cooler, src := s.address, kind := 0x40, seq := s.clu.seq, payload := [BitVec.ofNat 8 wanted] }
        (f ∈ t.port.insert ∧ t.clu.orderFrame = none) ∨ t.clu.orderFrame = some f)
      ∧ (let k := t.clu
        let due (e : Option StageEntry) (test : StageEntry → Int → Bool) : Bool :=
          match s.hottestNow, e with | some x, some e => test e x | _, _ => false
        k.wanted = wanted ∧ k.seq = s.clu.seq + 1 ∧ k.ordersSent = bump32 s.clu.ordersSent
          ∧ k.confirmation = (if s.clu.running = wanted then .confirmed else .awaiting)
          ∧ k.confirmEnd = (if s.clu.running = wanted then none else some (s.time + 60000))
          ∧ k.hottest = s.hottestNow
          ∧ k.upSince = (if due s.clu.stages[wanted]? fun e x => decide (e.up ≤ x) then some s.time else none)
          ∧ k.downSince = (if wanted ≠ 0 ∧ due s.clu.stages[wanted - 1]? (fun e x => decide (x < e.down)) then some s.time else none)
          ∧ k = { s.clu with
              wanted := k.wanted, seq := k.seq, ordersSent := k.ordersSent, confirmation := k.confirmation
              confirmEnd := k.confirmEnd, hottest := k.hottest, upSince := k.upSince, downSince := k.downSince
              counted := k.counted, pct := k.pct, shortfall := k.shortfall, orderFrame := k.orderFrame, ic := k.ic })

/-- R123, R124: what a COOLER-STATUS and the confirm end do to the station cooling record. That the shortfall flag and event go by
the percentage, also at a derate of 100 (log 25), and that in FORWARD-ONLY the frame is only forwarded, whatever its SRC (log 35), are the model's
choices. -/
def Obligations.CoolerStatusConfirmsTheStage : Prop :=
  (∀ (h : Header) (running available : Byte) (extra : List Byte) (s : State),
      s.takes h .coolerStatus = true → extra.length ≤ 58 → s.Settled →
      let c : Instr := .coolerStatus h running available extra
      let u := s.carried h .coolerStatus (coolerStatusPayload running available extra)
      (s.meu.mode = .forwardOnly → exec c s = .next u)
        ∧ (s.meu.mode ≠ .forwardOnly → h.src ≠ s.meu.cooler →
          exec c s = .next { u with clu.unmatched := bump32 s.clu.unmatched })
        ∧ (s.meu.mode ≠ .forwardOnly → h.src = s.meu.cooler → 4 < running.toNat ∨ 4 < available.toNat →
          exec c s = .next { u with clu.badStatus := bump32 s.clu.badStatus })
        ∧ (s.meu.mode ≠ .forwardOnly → h.src = s.meu.cooler → running.toNat ≤ 4 → available.toNat ≤ 4 →
          ∃ t, exec c s = .next t ∧ stationWorked s t ∧ t.clu.running = running.toNat ∧ t.clu.available = available.toNat
            ∧ t.clu.statusTime = some s.time ∧ t.clu.wanted = s.clu.wanted
            ∧ (running.toNat = s.clu.wanted → t.clu.confirmation = .confirmed
              ∧ (s.clu.confirmation = .awaiting → t.clu.confirmEnd = none))
            ∧ (running.toNat ≠ s.clu.wanted → s.clu.confirmation = .confirmed →
              t.clu.confirmation = .awaiting ∧ t.clu.confirmEnd = some (s.time + 60000))
            ∧ (running.toNat ≠ s.clu.wanted → s.clu.confirmation ≠ .confirmed →
              t.clu.confirmation = s.clu.confirmation ∧ t.clu.confirmEnd = s.clu.confirmEnd)))
    ∧ ∀ (s : State) (u : Nat), s.resetLow = false → s.meu.mode ≠ .forwardOnly → s.Settled → s.clu.confirmation = .awaiting →
      s.clu.confirmEnd = some u → u ≤ s.time →
      ∃ t, exec .coolerNoResponse s = .next t ∧ stationWorked s t ∧ t.clu.confirmation = .failed ∧ t.clu.confirmEnd = none
        ∧ (t.meu.events[EventKind.coolerNoResponse.index]).pending = true
        ∧ t.clu.wanted = s.clu.wanted ∧ t.clu.running = s.clu.running ∧ t.clu.seq = s.clu.seq

/-! ### Energy and tariffs -/

/-- R127, R128, R129, R137: what a TIME-MARK does: forwarded only in FORWARD-ONLY, counted when out of range, and otherwise the clock; the
first mark closes the UNKNOWN slot and opens its own, PARTIAL; a later mark more than 2000 ms off is a time step, and one in another slot
closes and opens. A slot that is opened takes its entry and source by the slot start of R148, and the mark tests the prefetch (R150). That a
fetch goes into the lowest free place is the model's choice (log 44). -/
def Obligations.TimeMarksMoveTheClockAndTheSlot : Prop :=
  ∀ (h : Header) (day : Half) (ms : Long) (extra : List Byte) (s : State),
    s.takes h .timeMark = true → extra.length ≤ 54 → s.Settled →
    let c : Instr := .timeMark h day ms extra
    let u := s.carried h .timeMark (timeMarkPayload day ms extra)
    let good : Prop := 1 ≤ day.toNat ∧ day.toNat ≤ 366 ∧ ms.toNat ≤ 86399999
    let n := (day.toNat - 1) * 48 + ms.toNat / 1800000
    (s.meu.mode = .forwardOnly → exec c s = .next u)
      ∧ (s.meu.mode ≠ .forwardOnly → ¬good → exec c s = .next { u with egu.badMarks := bump32 s.egu.badMarks })
      ∧ (s.meu.mode ≠ .forwardOnly → good → ∃ t, exec c s = .next t
        ∧ t.egu.clock = some ⟨day.toNat, ms.toNat⟩ ∧ t.egu.marksTaken = bump32 s.egu.marksTaken
        -- a slot that the mark opens has the entry that the slot start of R148 chooses
        ∧ (s.egu.clock = none → u.slotOpened n false true t)
        ∧ (s.egu.clock = none → t.egu.slot = { number := some n, part := true, entry := t.egu.slot.entry, source := t.egu.slot.source }
          ∧ s.egu.queued t.egu (slotRecord s.egu.slot) ∧ t.egu.timeSteps = s.egu.timeSteps)
        ∧ (∀ d m, s.egu.clock = some ⟨d, m⟩ → m < 86400000 →
          let off := (((day.toNat - 1) * 86400000 + ms.toNat : Nat) - ((d - 1) * 86400000 + m : Nat) : Int).natAbs
          let stepped := decide (2000 < off)
          let marked : OpenSlot := { s.egu.slot with timeStep := s.egu.slot.timeStep || stepped }
          t.egu.timeSteps = (if stepped then bump32 s.egu.timeSteps else s.egu.timeSteps)
            ∧ (stepped = true → (t.meu.events[EventKind.timeStep.index]).pending = true)
            ∧ (s.egu.slot.number = some n → t.egu = { s.egu with
                clock := t.egu.clock, marksTaken := t.egu.marksTaken, timeSteps := t.egu.timeSteps, slot := marked })
            -- a mark within the open slot changes no slot; it may bring its last minute, and with it the prefetch (R150)
            ∧ (s.egu.slot.number = some n → ∃ v, exec .prefetch v = .next t ∧ v = { u with
                egu := t.egu, port := v.port, meu := { s.meu with events := v.meu.events, alarm := v.meu.alarm } })
            ∧ (s.egu.slot.number ≠ some n → u.slotOpened n stepped false t)
            ∧ (s.egu.slot.number ≠ some n →
              t.egu.slot = { number := some n, timeStep := stepped, entry := t.egu.slot.entry, source := t.egu.slot.source }
                ∧ s.egu.queued t.egu (slotRecord marked)))
        ∧ t.smap = s.smap ∧ t.psu = s.psu ∧ t.aeu = s.aeu ∧ t.gau = s.gau ∧ t.clu = s.clu
        ∧ t.line = { s.line with player := t.line.player })

/-- R130, R129, R137, R146 to R149, R83, R126: at its end the open slot is closed into a record and the next slot opened with the entry that
the written windows give it, its price class may start a profile, a pending invalidation and a cache that is not enabled empty the cache, and
a miss has the slot fetched, with the counters of each; in FORWARD-ONLY the clock only passes into the next day. That a fetch goes into the
lowest free place is the model's choice (log 44). R144, R145:
what a WRITE of a field of TARIFF-WINDOW or TARIFF-DEFAULT does to the written copies; that a calendar base above 16 bits and a field number
that names no field are BAD-VALUE is the model's choice (log 11). -/
def Obligations.SlotEndsCloseOpenAndChooseTheEntry : Prop :=
  (∀ (s : State) (n : Nat) (c : Clock), s.resetLow = false → s.meu.mode ≠ .forwardOnly → s.clockNow = some c →
      s.egu.slot.number = some n → c.slot ≠ n → s.Settled →
      ∃ t, exec .slotEnd s = .next t
        ∧ let next := if n + 1 < 17568 then n + 1 else 0
          let set := s.tru.written
          let hits := set.windows.toList.filter fun w => w.enable && ((BitVec.ofNat 15 next ^^^ w.base) &&& ~~~w.mask) == 0
          let own (w : TariffWindow) : TariffEntry × RateSource :=
            if w.own.valid then (w.own, .fallback) else (set.fallback, .default)
          let index (w : TariffWindow) : Half := w.calendarBase + (BitVec.ofNat 15 next &&& w.mask).setWidth 16
          let o := t.egu.slot
          let r := slotRecord s.egu.slot
          t.egu.clock = some c ∧ o = { number := some next, entry := o.entry, source := o.source } ∧ s.egu.queued t.egu r
            -- the slot start whole: the cache, the counters, the fetch with its ask, the entry, the profile and the prefetch (R148)
            ∧ s.slotOpened next false false t
            ∧ (s.tru.invalidation = true → ∀ k : Fin 8, t.tru.cache[k].valid = false)
            ∧ (s.line.cacheEnable = false → ∀ k : Fin 8, t.tru.cache[k].valid = true → t.tru.cache[k].tag = next)
            ∧ (0 < r.overrun → (t.meu.events[EventKind.demandOverrun.index]).pending = true)
            ∧ (s.egu.queueHigh = false → 56 ≤ t.egu.queue.length →
              (t.meu.events[EventKind.energyQueueHigh.index]).pending = true)
            ∧ t.tru.inForce = set ∧ t.tru.written = set ∧ t.tru.lookup.slot = some next ∧ t.tru.invalidation = false
            ∧ t.tru.lookup.source = o.source
            ∧ (hits = [] → (o.entry, o.source) = (set.fallback, .default))
            ∧ (∀ w more, hits = w :: more → w.mode = .direct → (o.entry, o.source) = own w)
            ∧ (∀ w more e, hits = w :: more → w.mode = .mapped → s.tru.invalidation = false →
              s.tru.lookupCache next (index w) = some e →
              (o.entry, o.source) = (e, .cache) ∧ t.tru.counters.hits = bump32 s.tru.counters.hits)
            ∧ (∀ w more, hits = w :: more → w.mode = .mapped →
              s.tru.invalidation = true ∨ s.tru.lookupCache next (index w) = none →
              (o.entry, o.source) = own w ∧ t.tru.counters.misses = bump32 s.tru.counters.misses
                ∧ t.tru.lookup.awaiting = decide (s.tru.declined ≠ some (next, index w)))
            ∧ (s.line.player.state ≠ .idle ∨ s.line.state = .tripped → t.line = s.line)
            ∧ (∀ (p : Fin 8) (k : Nat), s.line.player.state = .idle → s.line.state ≠ .tripped →
              s.line.profiles[p].trigger = some k → k ≤ o.entry.cls →
              (∀ p' < p, ∀ k', s.line.profiles[p'].trigger = some k' → o.entry.cls < k') →
              t.line.player.state = .playing ∧ t.line.player.profile = some p
                ∧ t.line.player.step = s.line.profiles[p].startStep)
            ∧ t.smap = s.smap ∧ t.psu = s.psu ∧ t.aeu = s.aeu ∧ t.gau = s.gau ∧ t.clu = s.clu)
    ∧ (∀ (s : State) (d m : Nat), s.resetLow = false → s.meu.mode = .forwardOnly → s.egu.clock = some ⟨d, m⟩ → 86400000 ≤ m →
      exec .stationDayEnd s = .next { s with egu.clock := some ⟨if d < 366 then d + 1 else 1, 0⟩ })
    ∧ (∀ (h : Header) (index : Half) (field : Byte) (v : Long) (rest : List Byte) (s : State),
      s.admits h (writePayload .tariffWindow index field (be32 v ++ rest)) = true → s.Settled →
      let c := writeRow .tariffWindow h index field (be32 v ++ rest)
      let n := v.toNat
      (4 ≤ index.toNat → exec c s = .next (s.replied h (replyOf .badIndex [])))
        ∧ ∀ k : Fin 4, k.val = index.toNat →
          let w := s.tru.written.windows[k]
          let gives (x : TariffWindow) (m : Nat) : Prop := exec c s = .next (State.replied
            { s with tru.written.windows := s.tru.written.windows.set k x } h (writeReply v m))
          (field = 0 → n ≤ 1 → gives { w with enable := decide (v = 1) } n)
            ∧ (field = 1 → n ≤ 32767 → gives { w with base := BitVec.ofNat 15 n } n)
            ∧ (∀ b, b ≤ 15 → field = 2 → n + 1 = 2 ^ b → gives { w with mask := BitVec.ofNat 15 n } n)
            ∧ (field = 3 → n ≤ 1 → gives { w with mode := if v = 0 then .direct else .mapped } n)
            ∧ (field = 4 → n ≤ 65535 → gives { w with calendarBase := BitVec.ofNat 16 n } n)
            ∧ (field = 5 → gives { w with own.rate := min n 4000000000 } (min n 4000000000))
            ∧ (field = 6 → gives { w with own.limit := n } n)
            ∧ (field = 7 → n ≤ 7 → gives { w with own.cls := n } n)
            ∧ (field = 8 → n ≤ 1 → gives { w with own.valid := decide (v = 1) } n)
            ∧ ((field = 0 ∨ field = 3 ∨ field = 8) ∧ 1 < n ∨ field = 1 ∧ 32767 < n ∨ field = 2 ∧ (∀ b ≤ 15, n + 1 ≠ 2 ^ b)
                ∨ field = 4 ∧ 65535 < n ∨ field = 7 ∧ 7 < n ∨ 9 ≤ field.toNat →
              exec c s = .next (s.replied h (replyOf .badValue []))))
    ∧ ∀ (h : Header) (index : Half) (field : Byte) (v : Long) (rest : List Byte) (s : State),
      s.admits h (writePayload .tariffDefault index field (be32 v ++ rest)) = true → s.Settled →
      let c := writeRow .tariffDefault h index field (be32 v ++ rest)
      let e := s.tru.written.fallback
      let gives (x : TariffEntry) (m : Nat) : Prop :=
        exec c s = .next (State.replied { s with tru.written.fallback := x } h (writeReply v m))
      (index ≠ 0 → exec c s = .next (s.replied h (replyOf .badIndex [])))
        ∧ (index = 0 → field = 0 → gives { e with rate := min v.toNat 4000000000 } (min v.toNat 4000000000))
        ∧ (index = 0 → field = 1 → gives { e with limit := v.toNat } v.toNat)
        ∧ (index = 0 → field = 2 → v.toNat ≤ 7 → gives { e with cls := v.toNat } v.toNat)
        ∧ (index = 0 → field = 2 ∧ 7 < v.toNat ∨ 3 ≤ field.toNat → exec c s = .next (s.replied h (replyOf .badValue [])))

/-- R151, R152, R154, R133, R147: a CALENDAR-ENTRY that matches a fetch frees its place; a valid one is placed in the cache and handed to an
open slot that awaits it, an invalid one leaves the declined note, its error and TARIFF-ERROR; one that matches none is late. The freed
place then takes the oldest waiting fetch that is still wanted, and nothing else changes. That the SRC of the entry is not tested, although R162
names it, is the model's choice (log 51). -/
def Obligations.CalendarEntriesAreTakenAgainstTheirFetch : Prop :=
  ∀ (h : Header) (index slot : Half) (valid cls : Byte) (rate limit : Long) (extra : List Byte) (s : State),
    s.takes h .calendarEntry = true → extra.length ≤ 46 →
    let c : Instr := .calendarEntry h index slot valid cls rate limit extra
    let n := slot.toNat
    let fits (k : Fin 2) : Prop := ∃ f, s.tru.table[k] = some f ∧ f.seq = h.seq ∧ f.index = index ∧ f.slot = n ∧ f.unsent = false
    let good : Prop := valid ≠ 0 ∧ cls.toNat ≤ 7 ∧ rate.toNat ≤ 4000000000
    let e : TariffEntry := { rate := rate.toNat, limit := limit.toNat, cls := cls.toNat, valid := true }
    let place : CachePlace := { valid := true, tag := n, index := index, entry := e }
    let awaited : Bool := s.tru.lookup.awaiting && decide (s.tru.lookup.slot = some n) && decide (s.tru.lookup.index = some index)
    let lookup : SlotLookup := { s.tru.lookup with awaiting := s.tru.lookup.awaiting && !awaited }
    let o := s.egu.slot
    let handed : OpenSlot := { o with
      cost := o.cost + ((o.es - o.costedMark) * o.entry.rate + 500000) / 1000000, costedMark := o.es, entry := e
      source := if o.source = .cache then .cache else .mixed }
    (s.meu.mode = .forwardOnly → exec c s = .next { s with tru.counters.ignored := bump32 s.tru.counters.ignored })
      ∧ (s.meu.mode ≠ .forwardOnly → (∀ k, ¬fits k) →
        exec c s = .next { s with tru.counters.late := bump32 s.tru.counters.late })
      ∧ ∀ k, s.meu.mode ≠ .forwardOnly → fits k → (∀ k' < k, ¬fits k') → s.tru.waitList = [] ∨ s.Settled →
        (good → ∃ (cache : Vector CachePlace 8) (pointer : Fin 8) (t : State),
            ((∃ j : Fin 8, s.tru.cache[j].valid = true ∧ s.tru.cache[j].tag = n
                ∧ (∀ j' < j, ¬(s.tru.cache[j'].valid = true ∧ s.tru.cache[j'].tag = n))
                ∧ cache = s.tru.cache.set j place ∧ pointer = s.tru.pointer)
              ∨ (∀ j : Fin 8, ¬(s.tru.cache[j].valid = true ∧ s.tru.cache[j].tag = n))
                ∧ cache = s.tru.cache.set s.tru.pointer place ∧ pointer.val = (s.tru.pointer.val + 1) % 8)
              ∧ exec c s = .next t
              ∧ State.refilled { s with
                  egu.slot := if awaited then handed else o
                  tru := { s.tru with
                    cache := cache, pointer := pointer, lookup := lookup, table := s.tru.table.set k none
                    declined := if s.tru.declined = some (n, index) then none else s.tru.declined
                    counters.taken := bump32 s.tru.counters.taken } } k t)
          ∧ (¬good → ∃ t : State, exec c s = .next t ∧ State.refilled (State.raise
            { s with
              meu.errors := s.meu.errors.offer .calInvalid ⟨n, index.toNat, 0⟩ s.stamp.1 s.stamp.2
              tru := { s.tru with
                lookup := lookup, table := s.tru.table.set k none, declined := some (n, index)
                counters.invalid := bump32 s.tru.counters.invalid } } .tariffError n index.toNat 1) k t)

/-- R150, R149, R153: in the last minute of the open slot the prefetch is made once: where the written windows send the next slot to the
calendar, and it is neither cached, declined nor in flight, a fetch is issued with its CALENDAR-ASK, or waits when both places are in use;
one for the slot with another index is abandoned. A fetch of 5000 ms times out. A place that is freed takes the oldest waiting fetch that is
still wanted. That the lowest free place is taken is the model's choice (log 44). -/
def Obligations.PrefetchesAreMadeAndFetchesTimeOut : Prop :=
  (∀ (s : State) (o left : Nat), s.resetLow = false → s.meu.mode ≠ .forwardOnly → s.tru.lookup.slot = some o → s.timeLeft = some left →
      left ≤ 60000 → s.tru.lookup.prefetchMade = false → s.tru.invalidation = false → s.Settled →
      let next := if o + 1 < 17568 then o + 1 else 0
      let made : State := { s with tru.lookup.prefetchMade := true }
      (∀ e src, s.tru.written.resolve next = .entry e src → exec .prefetch s = .next made)
        ∧ ∀ i e src, s.tru.written.resolve next = .lookup i e src →
          ((s.tru.lookupCache next i).isSome = true ∨ s.tru.declined = some (next, i) ∨ s.tru.holdsFetch next i = true →
              exec .prefetch s = .next made)
            ∧ (s.tru.lookupCache next i = none → s.tru.declined ≠ some (next, i) →
              ∃ t, exec .prefetch s = .next t ∧ made.requested next i t))
    ∧ ∀ (k : Fin 2) (f : Fetch) (s : State), s.resetLow = false → s.meu.mode ≠ .forwardOnly → s.tru.table[k] = some f →
      f.sent + 5000 ≤ s.time → s.tru.waitList = [] ∨ s.Settled →
      let awaited := s.tru.lookup.awaiting && decide (s.tru.lookup.slot = some f.slot) && decide (s.tru.lookup.index = some f.index)
      ∃ t : State, exec (.fetchTimeout k) s = .next t ∧ State.refilled (State.raise
        { s with
          meu.errors := s.meu.errors.offer .calTimeout ⟨f.slot, f.index.toNat, 0⟩ s.stamp.1 s.stamp.2
          tru := { s.tru with
            table := s.tru.table.set k none, sendList := s.tru.sendList.filter fun x => x.seq != f.seq
            lookup.awaiting := s.tru.lookup.awaiting && !awaited
            counters.timeouts := bump32 s.tru.counters.timeouts } } .tariffError f.slot f.index.toNat 2) k t

/-! ### Start-up, restart and takeover -/

/-- R177, R22, R65, R86, R113, R125, R142, R156: what START in FORWARD-ONLY and RESTART in any mode do to each block, whole: what a record
does not name stands. The open slot goes on where the clock is unknown or still in it, and is closed otherwise, and the clock's slot opened,
PARTIAL. Every open effect is closed by force, its record with the cause RESTART (R57, R59), the watcher of a group that is released gets its
last notice (R100, R104), and each group's capacity follows its new stale state and the new station percentage (R118, R121, R124). START in
the other modes is refused BAD-STATE. The model's choices are the order of the blocks (log 31, 32), the wanted setpoints that the releases leave
(log 16), the Imin in force, by which R66 and the line state are read (log 21), the persistent flag that goes with an effect (log 19), the
record's duration that stops at 32 bits (log 7), the lowest free place that the fetch of the opened slot takes (log 44), the shortfall
flag and event by the percentage, also at a derate of 100 (log 25), and that a notice for 0xFFFF is not placed (log 42). -/
def Obligations.StartAndRestartPrepareEveryBlock : Prop :=
  (∀ (h : Header) (arg : Half) (tail : List Byte) (s : State), s.admits h (commandPayload .start arg tail) = true → s.Settled →
      s.meu.mode ≠ .forwardOnly → exec (.start h arg tail) s = .next (s.replied h (replyOf .badState [])))
    ∧ ∀ (c : Instr) (h : Header) (arg : Half) (tail : List Byte) (s : State),
      c = .start h arg tail ∧ s.admits h (commandPayload .start arg tail) = true ∧ s.meu.mode = .forwardOnly
        ∨ c = .restart h arg tail ∧ s.admits h (commandPayload .restart arg tail) = true →
      s.Settled →
      let goesOn : Prop := ∀ now, s.clockNow = some now → s.egu.slot.number = some now.slot
      ∃ t, exec c s = .next t ∧ t.hasReplied (replyFrame s.address h.src h.seq (replyOf .ok []))
        ∧ t = { s with
            port := t.port, psu := t.psu, aeu := t.aeu, line := t.line, gau := t.gau, clu := t.clu, egu := t.egu, tru := t.tru, meu := t.meu }
        ∧ t.port.forward = s.port.forward
        ∧ t.meu = { s.meu with
            mode := .observing, observationEnd := some (s.time + 10000), requestsTaken := bump32 s.meu.requestsTaken
            sendList := t.meu.sendList, events := t.meu.events, alarm := t.meu.alarm }
        -- no kind but these is raised, and the enables stand
        ∧ (∀ k : EventKind, k ≠ .aeEnd → k ≠ .coolingShortfall → k ≠ .demandOverrun → k ≠ .energyQueueHigh → k ≠ .profileMarker →
          t.meu.events[k.index] = s.meu.events[k.index])
        ∧ (∀ k : Fin 26, t.meu.events[k].enable = s.meu.events[k].enable)
        ∧ (∀ p, let q := s.pot p
          t.pot p = if q.sup = .unconfigured then { s.closedPot q with order := none, inhibitUntil := none }
            else { s.closedPot q with
              sup := .starting, startingCount := 0, rf := 0, nf := 0, band := .within, noisy := false, dwell := 0, parked := none
              order := none, inhibitUntil := none, lastTime := s.time })
        ∧ t.psu = { s.psu with pots := t.psu.pots, sendList := [] }
        -- every open effect is closed by force: its record with RESTART and its duration, AE-END, and the AE hold flag with the count
        ∧ t.aeu.count = s.aeu.count - (List.finRange 384).countP (fun p => (s.pot p).ae.counted)
        ∧ (logLaw s → t.aeu.log = s.aeu.log.map fun r =>
          if r.closed then r else closedRecord .restart (s.durationNow (s.pot r.pot)) r)
        ∧ (∀ p, (s.pot p).ae.inEffect = true → (t.meu.events[EventKind.aeEnd.index]).pending = true)
        ∧ (let ends := s.meu.events[EventKind.aeEnd.index].count + (List.finRange 384).countP fun p => (s.pot p).ae.inEffect
          ends ≤ 4294967295 → (t.meu.events[EventKind.aeEnd.index]).count = ends)
        ∧ t.line.aeHold = (if ∃ p, (s.pot p).ae.counted = true then decide (s.line.ae.holdLimit ≤ t.aeu.count) else s.line.aeHold)
        ∧ t.aeu = { s.aeu with count := t.aeu.count, log := t.aeu.log }
        -- each group whole: released, and its capacity evaluated by its new stale state and the new station percentage (R118, R125)
        ∧ (∀ g, let q := s.group g
          let stale : Stale := if q.cfg.present = false then q.stale else match q.lastStatus with
            | none => .silent
            | some u => if u + 30000 ≤ s.time then .silent else if u + 3000 ≤ s.time then .holding else .fresh
          t.group g = { q with
            authority := .released, order := none, stepOpen := false, stepCounter := q.cfg.latch
            watcher := if q.authority = .released then q.watcher else none
            streak := if q.authority = .released then q.streak else 0
            stale := stale
            cap := if q.cfg.present = true ∧ stale ≠ .silent then q.cfg.rated * q.pct / 100 * t.clu.pct / 100 else 0 })
        ∧ t.gau = { s.gau with groups := t.gau.groups, sendList := t.gau.sendList, noticesDropped := t.gau.noticesDropped }
        ∧ (∀ g w, s.gau.answers ≤ 8 → (s.group g).authority ≠ .released → (s.group g).watcher = some w → t.hasNotice (s.lastNotice g w))
        ∧ (∀ i ∈ t.gau.sendList, i.isOrder = false)
        -- the cooling record: the running stage wanted, the counted stage, percentage and shortfall anew, the stage conditions from now (R125)
        ∧ (let c := t.clu
          c = { s.clu with
              wanted := s.clu.running, confirmation := .confirmed, confirmEnd := none, orderFrame := none
              counted := min s.clu.available s.clu.running
              pct := if s.clu.running ≤ c.counted then 100 else match s.clu.stages[c.counted]? with | some e => e.derate | none => 100
              shortfall := decide (c.pct < 100), ic := t.stationCapacity
              hottest := c.hottest, upSince := c.upSince, downSince := c.downSince }
            ∧ State.stageEvaluated { s with clu.upSince := none, clu.downSince := none } t
            ∧ (c.pct < 100 → s.clu.shortfall = false → (t.meu.events[EventKind.coolingShortfall.index]).pending = true))
        ∧ t.line = { s.line with
            it := min s.line.il t.clu.ic, c := 0, ig := min s.line.il t.clu.ic, tripWatch := none
            state := if s.line.iminInForce ≤ s.line.il then .energised else .low
            aeHold := t.line.aeHold, player := t.line.player }
        ∧ (∀ k : Fin 8, t.tru.cache[k].valid = false) ∧ t.tru.declined = none ∧ t.tru.invalidation = false
        ∧ t.tru.pointer = s.tru.pointer ∧ t.tru.written = s.tru.written ∧ t.tru.waitList = []
        ∧ (let idle : Player := { s.line.player with state := .idle, profile := none, stepEnd := none, remaining := none, op := 0 }
          goesOn → t.line.player = idle
          ∧ t.tru = { s.tru with
              cache := s.tru.cache.map fun p => { p with valid := false }
              invalidation := false, table := Vector.replicate 2 none, waitList := [], sendList := [], declined := none
              lookup := { s.tru.lookup with awaiting := false, prefetchMade := false } }
          ∧ (∀ k : EventKind, k ≠ .aeEnd → k ≠ .coolingShortfall → t.meu.events[k.index] = s.meu.events[k.index])
          ∧ t.egu = { s.egu with slot := { s.egu.slot with part := true, cap := none, capBinding := false } })
        ∧ ∀ now, s.clockNow = some now → s.egu.slot.number ≠ some now.slot →
          let o := t.egu.slot
          -- the slot start, on the tariff unit and the player as the command has left them (R148, R83)
          (∃ b w : State, b.slotOpened now.slot false true w ∧ w.tru = t.tru ∧ w.egu = t.egu ∧ w.line = t.line
              ∧ b.resetLow = false ∧ b.time = s.time ∧ b.address = s.address ∧ b.meu.mode = .observing ∧ b.meu.server = s.meu.server
              ∧ b.line = { t.line with
                  player := { s.line.player with state := .idle, profile := none, stepEnd := none, remaining := none, op := 0 } }
              ∧ b.tru = { s.tru with
                  cache := s.tru.cache.map fun p => { p with valid := false }
                  invalidation := false, table := Vector.replicate 2 none, waitList := [], sendList := [], declined := none
                  lookup := { s.tru.lookup with awaiting := false, prefetchMade := false } })
            ∧ o = { number := some now.slot, part := true, entry := o.entry, source := o.source }
            ∧ s.egu.queued t.egu (slotRecord { s.egu.slot with part := true })
            ∧ t.egu = { s.egu with
                slot := o, queue := t.egu.queue, queueHigh := t.egu.queueHigh, lost := t.egu.lost, lostRecords := t.egu.lostRecords }
            ∧ t.tru.inForce = s.tru.written ∧ t.tru.lookup.slot = some now.slot ∧ t.tru.lookup.source = o.source
            ∧ (∀ e src, s.tru.written.resolve now.slot = .entry e src →
              o.entry = e ∧ o.source = src ∧ t.tru.lookup.awaiting = false)
            ∧ (∀ i e src, s.tru.written.resolve now.slot = .lookup i e src →
              o.entry = e ∧ o.source = src ∧ t.tru.lookup.awaiting = true ∧ t.tru.lookup.index = some i
                -- the fetch goes into the lowest free place (log 44)
                ∧ ∃ f, t.tru.table[0] = some f ∧ f.slot = now.slot ∧ f.index = i ∧ f.sent = s.time ∧ f.seq = s.tru.seq)
            ∧ ((∀ (n : Fin 8) (k : Nat), s.line.profiles[n].trigger = some k → o.entry.cls < k) →
              t.line.player.state = .idle ∧ t.line.player.op = 0)
            ∧ ∀ (n : Fin 8) (k : Nat), s.line.profiles[n].trigger = some k → k ≤ o.entry.cls →
              (∀ n' < n, ∀ k', s.line.profiles[n'].trigger = some k' → o.entry.cls < k') →
              t.line.player.state = .playing ∧ t.line.player.profile = some n
                ∧ t.line.player.step = s.line.profiles[n].startStep

/-- R178, R179, R65, R100, R104: STOP releases every held group, with the last notice to its watcher as far as not more than half of the places
of the send list hold answers, stops the player and the trip watch and leaves FORWARD-ONLY, with all else as it stands; at the observation end
the part is SUPERVISING, claims the groups that claim themselves, and orders the quenches whose due has passed. The order of the takeover's work
(log 38), the groups that STOP leaves as they stand, wanted setpoints included (log 16), the due pot without an order address that stays as it is
(log 37), and that a notice for 0xFFFF is not placed (log 42) are the model's choices. -/
def Obligations.StopReleasesAndTakeoverClaims : Prop :=
  (∀ (h : Header) (arg : Half) (tail : List Byte) (s : State), s.admits h (commandPayload .stop arg tail) = true → s.Settled →
      (s.meu.mode = .forwardOnly → exec (.stop h arg tail) s = .next (s.replied h (replyOf .ok [])))
        ∧ (s.meu.mode ≠ .forwardOnly → ∃ t, exec (.stop h arg tail) s = .next t
          ∧ t.hasReplied (replyFrame s.address h.src h.seq (replyOf .ok []))
          ∧ t.meu = { s.meu with
              mode := .forwardOnly, observationEnd := none, requestsTaken := bump32 s.meu.requestsTaken, sendList := t.meu.sendList }
          ∧ t.gau = { s.gau with groups := t.gau.groups, sendList := t.gau.sendList, noticesDropped := t.gau.noticesDropped }
          ∧ (∀ g, t.group g = if (s.group g).authority = .released then s.group g
            else { s.group g with order := none, authority := .released, streak := 0, watcher := none })
          ∧ (∀ g w, s.gau.answers ≤ 8 → (s.group g).authority ≠ .released → (s.group g).watcher = some w →
            t.hasNotice (s.lastNotice g w))
          ∧ (∀ i ∈ t.gau.sendList, ∀ g, (s.group g).authority ≠ .released → i.tag ≠ .order g)
          ∧ (s.gau.notices ≤ 8 → t.gau.noticesDropped = s.gau.noticesDropped)
          ∧ t.line = { s.line with
              tripWatch := none
              player := { s.line.player with state := .idle, profile := none, stepEnd := none, remaining := none, op := 0 } }
          ∧ t = { s with port := t.port, meu := t.meu, gau := t.gau, line := t.line }))
    ∧ ∀ (s : State) (u : Nat), s.resetLow = false → s.meu.mode = .observing → s.meu.observationEnd = some u → u ≤ s.time → s.Settled →
      let claims (q : Group) : Prop := q.cfg.autoclaim = true ∧ q.cfg.present = true ∧ q.authority = .released ∧ q.mode = .remote
        ∧ q.stale = .fresh
      let quenches (q : Pot) : Prop := q.ae = .active ∧ (∃ d, q.fx.quenchDue = some d ∧ d ≤ s.time) ∧ q.cfg.autoQuench = true
        ∧ q.fx.persistent = false ∧ q.orderAddress.isSome
      ∃ t, exec .takeover s = .next t ∧ t.meu = { s.meu with mode := .supervising, observationEnd := none }
        ∧ (∀ g, let q := s.group g
          let x := t.group g
          (claims q → x.authority ≠ .released ∧ x.stepCounter = q.cfg.latch ∧ x.stepOpen = false)
            ∧ (claims q → q.withdrawal = .none → x.authority = .held ∧ x.order = none ∧ x.confirmed = q.reported)
            ∧ (¬claims q → q.authority = .released → x.authority = .released ∧ x.confirmed = q.confirmed ∧ x.wanted = q.wanted))
        ∧ (∀ p, let q := s.pot p
          let x := t.pot p
          (quenches q → x.ae = .quenching ∧ x.attempts = q.attempts + 1
              ∧ x.fx = { q.fx with quenchDue := none, quenchTimeout := some (s.time + s.line.ae.tqx * 1000) }
              ∧ ∃ o, x.order = some o ∧ o.kind = .quench ∧ o.sent = s.time)
            ∧ (¬quenches q → x = q))
        ∧ t.smap = s.smap ∧ t.line = s.line ∧ t.clu = s.clu ∧ t.egu = s.egu ∧ t.tru = s.tru

/-! ### Management -/

/-- R91, R100, R103, R104, R109: what CLAIM, RELEASE and SET-FULL answer and do, by the group's record. A group that is claimed in withdrawal gets
its zero order at once (R110; log 15, 26). A release sends the last notice to the watcher, as far as not more than half of the places of the send
list hold answers. That one for 0xFFFF is not placed (log 42), and that SET-FULL makes its curve computation in FORWARD-ONLY too and leaves the
capacity there as it stands (log 41), are the model's choices. -/
def Obligations.GroupCommandsAreAnsweredByTheRecord : Prop :=
  (∀ (h : Header) (arg : Half) (tail : List Byte) (s : State), s.admits h (commandPayload .claim arg tail) = true → s.Settled →
      (8 ≤ arg.toNat → exec (.claim h arg tail) s = .next (s.replied h (replyOf .badIndex [])))
        ∧ ∀ g : Fin 8, g.val = arg.toNat →
          let q := s.group g
          let claimable : Prop := q.cfg.present = true ∧ q.authority = .released ∧ q.mode = .remote ∧ q.stale = .fresh
            ∧ s.meu.mode = .supervising
          (¬claimable → exec (.claim h arg tail) s = .next (s.replied h (replyOf .badState [])))
            ∧ (claimable → q.withdrawal = .none → ∃ t, exec (.claim h arg tail) s = .next t
              ∧ t.hasReplied (replyFrame s.address h.src h.seq (replyOf .ok []))
              ∧ t.group g = { q with
                  confirmed := q.reported, wanted := (t.group g).wanted, authority := .held, streak := 0, order := none
                  stepCounter := q.cfg.latch, stepOpen := false }
              ∧ t.smap = s.smap ∧ t.psu = s.psu ∧ t.aeu = s.aeu ∧ t.line = s.line ∧ t.clu = s.clu ∧ t.egu = s.egu
              ∧ t.tru = s.tru)
            -- a group in withdrawal is claimed too, and its zero order decided at once
            ∧ (claimable → q.withdrawal ≠ .none → ∃ t, exec (.claim h arg tail) s = .next t
              ∧ t.hasReplied (replyFrame s.address h.src h.seq (replyOf .ok [])) ∧ s.withdrawnClaimed g t))
    ∧ (∀ (h : Header) (arg : Half) (tail : List Byte) (s : State), s.admits h (commandPayload .release arg tail) = true → s.Settled →
      s.Regulated →
      (8 ≤ arg.toNat → exec (.release h arg tail) s = .next (s.replied h (replyOf .badIndex [])))
        ∧ ∀ g : Fin 8, g.val = arg.toNat →
          let q := s.group g
          (q.cfg.present = false → exec (.release h arg tail) s = .next (s.replied h (replyOf .badState [])))
            ∧ (q.cfg.present = true → q.authority = .released →
              exec (.release h arg tail) s = .next (s.replied h (replyOf .ok (be32 (BitVec.ofNat 32 q.reported)))))
            ∧ (q.cfg.present = true → q.authority ≠ .released → ∃ t, exec (.release h arg tail) s = .next t
              ∧ t.hasReplied (replyFrame s.address h.src h.seq (replyOf .ok (be32 (BitVec.ofNat 32
                  (match q.order with | some o => o.setpoint | none => q.confirmed)))))
              ∧ t.group g = { q with order := none, authority := .released, streak := 0, watcher := none }
              ∧ (∀ w, q.watcher = some w → s.gau.answers ≤ 8 → t.hasNotice (s.lastNotice g w))
              ∧ t.smap = s.smap ∧ t.psu = s.psu ∧ t.aeu = s.aeu ∧ t.line = s.line ∧ t.clu = s.clu ∧ t.egu = s.egu
              ∧ t.tru = s.tru))
    ∧ ∀ (h : Header) (arg : Half) (tail : List Byte) (s : State), s.admits h (commandPayload .setFull arg tail) = true → s.Settled →
      (8 ≤ arg.toNat → exec (.setFull h arg tail) s = .next (s.replied h (replyOf .badIndex [])))
        ∧ ∀ g : Fin 8, g.val = arg.toNat →
          let q := s.group g
          (q.cfg.present = false ∨ q.form = .basic ∧ q.latestForm = .short →
              exec (.setFull h arg tail) s = .next (s.replied h (replyOf .badState [])))
            ∧ (q.cfg.present = true → q.form = .full → exec (.setFull h arg tail) s = .next (s.replied h (replyOf .ok [])))
            ∧ (q.cfg.present = true → q.form = .basic → q.latestForm = .full → ∃ t, exec (.setFull h arg tail) s = .next t
              ∧ t.hasReplied (replyFrame s.address h.src h.seq (replyOf .ok []))
              ∧ (let x := t.group g
                let teq : Int := max q.tout (q.tsink - q.cfg.sinkOffset)
                x.form = .full ∧ x.teq = some teq ∧ x.flowLow = decide (q.flow < q.cfg.minFlow)
                  ∧ x.pct = (if q.flow < q.cfg.minFlow then 0 else readCurve q.curve teq)
                  ∧ x.cap = (if s.meu.mode = .forwardOnly then q.cap
                    else if q.stale = .silent then 0 else q.cfg.rated * x.pct / 100 * s.clu.pct / 100)
                  ∧ x.cfg = q.cfg ∧ x.stale = q.stale ∧ x.reported = q.reported)
              ∧ t.clu.ic = t.stationCapacity ∧ t.smap = s.smap ∧ t.psu = s.psu ∧ t.aeu = s.aeu ∧ t.egu = s.egu ∧ t.tru = s.tru)

/-- R155, R139, R170, R172, R173: what CACHE-INVALIDATE, ENERGY-RELEASE, CLEAR-ERROR, ACK-EVENTS and a WRITE of EVENTS do, whole. That the
field byte of a WRITE of EVENTS is not read is the model's choice (log 11). -/
def Obligations.ErrorEventAndEnergyCommands : Prop :=
  (∀ (h : Header) (arg : Half) (tail : List Byte) (s : State), s.admits h (commandPayload .cacheInvalidate arg tail) = true →
      s.Settled → exec (.cacheInvalidate h arg tail) s
        = .next (State.replied { s with tru.invalidation := true } h (replyOf .ok [])))
    ∧ (∀ (h : Header) (arg : Half) (tail : List Byte) (s : State), s.admits h (commandPayload .energyRelease arg tail) = true →
      s.Settled → exec (.energyRelease h arg tail) s = .next (State.replied
        { s with egu := { s.egu with
          queue := s.egu.queue.drop arg.toNat
          released := s.egu.released + ((s.egu.queue.take arg.toNat).map EnergyRecord.energy).sum
          queueHigh := s.egu.queueHigh && decide (56 ≤ s.egu.queue.length - arg.toNat) } } h
        (replyOf (if s.egu.queue.length < arg.toNat then .clamped else .ok)
          (be32 (BitVec.ofNat 32 (min arg.toNat s.egu.queue.length))))))
    ∧ (∀ (h : Header) (arg : Half) (tail : List Byte) (s : State), s.admits h (commandPayload .clearError arg tail) = true →
      s.Settled → exec (.clearError h arg tail) s
        = .next (State.replied { s with meu.errors := { s.meu.errors with err := false, lost := false } } h (replyOf .ok [])))
    ∧ (∀ (h : Header) (arg : Half) (tail : List Byte) (s : State), s.admits h (commandPayload .ackEvents arg tail) = true → s.Settled →
      (4 ≤ arg.toNat → exec (.ackEvents h arg tail) s = .next (s.replied h (replyOf .badValue [])))
        ∧ (arg.toNat ≤ 3 → ∃ events : Vector EventSummary 26,
          (∀ k : EventKind, events[k.index] = { s.meu.events[k.index] with
              pending := s.meu.events[k.index].pending && decide (arg.toNat < k.level.code) })
            ∧ exec (.ackEvents h arg tail) s = .next (State.replied
              { s with meu := { s.meu with events := events, alarm := alarmHeld events } } h (replyOf .ok []))))
    ∧ ∀ (h : Header) (kind : Half) (field : Byte) (v : Long) (rest : List Byte) (s : State),
      s.admits h (writePayload .events kind field (be32 v ++ rest)) = true → s.Settled →
      let c : Instr := .eventsWrite h kind field (be32 v ++ rest)
      (kind = 0 ∨ 26 < kind.toNat → exec c s = .next (s.replied h (replyOf .badIndex [])))
        ∧ ∀ k : EventKind, kind.toNat = k.code →
          (k.level = .info ∨ k.level = .minor → exec c s = .next (s.replied h (replyOf .badIndex [])))
            ∧ (k.level = .major ∨ k.level = .urgent → 1 < v.toNat → exec c s = .next (s.replied h (replyOf .badValue [])))
            ∧ (k.level = .major ∨ k.level = .urgent → v.toNat ≤ 1 →
              let events := s.meu.events.set k.index { s.meu.events[k.index] with enable := decide (v = 1) }
              exec c s = .next (State.replied
                { s with meu := { s.meu with events := events, alarm := alarmHeld events } } h (replyOf .ok (be32 v))))

/-- R6, R8, R9, R37, R47: what the writes of a pot's configuration do: a number outside its range is written at the nearest end and answered
CLAMPED, the target, band and dwell limit clear the dwell, enabling starts the pot, disabling it ends its order and closes an open effect with
the cause UNCONFIGURED (R57, R59, R75), and automatic quench may decide an order at once. The model's choices are that the pot is tested before
the field (log 11), that an order needs an order address (log 37), that the persistent flag goes with the effect (log 19) and that its record's
duration stops at 32 bits (log 7). -/
def Obligations.PotWritesFollowTheirFields : Prop :=
  (∀ (h : Header) (pot : Half) (field : Byte) (values : List Byte) (s : State),
      s.admits h (writePayload .pot pot field values) = true → s.Settled →
      (values.length < 4 ∨ pot.toNat < 384 ∧ 11 ≤ field.toNat →
          exec (.potWrite h pot field values) s = .next (s.replied h (replyOf .badValue [])))
        ∧ (4 ≤ values.length → 384 ≤ pot.toNat → exec (.potWrite h pot field values) s = .next (s.replied h (replyOf .badIndex []))))
    ∧ (∀ (h : Header) (pot : Half) (p : Fin 384) (v : Long) (rest : List Byte) (s : State), p.val = pot.toNat → s.Settled →
      s.admits h (writePayload .pot pot 0 (be32 v ++ rest)) = true →
      let number (field : Byte) (lo hi : Nat) (set : Nat → Pot → Pot) : Prop :=
        let w := if v.toNat < lo then lo else if hi < v.toNat then hi else v.toNat
        exec (.potWrite h pot field (be32 v ++ rest)) s = .next ((s.modPot p (set w)).replied h
          (replyOf (if w = v.toNat then .ok else .clamped) (be32 (BitVec.ofNat 32 w))))
      number 1 0 3000 (fun w q => { q with cfg.vb := w })
        ∧ number 2 0 250000 (fun w q => { q with cfg.rt := w, dwell := 0 })
        ∧ number 3 0 65535 (fun w q => { q with cfg.bw := w, dwell := 0 })
        ∧ number 4 1 8 (fun w q => { q with cfg.k := w })
        ∧ number 5 1 8 (fun w q => { q with cfg.kn := w })
        ∧ number 6 0 65535 (fun w q => { q with cfg.nlim := w })
        ∧ number 8 1 255 (fun w q => { q with cfg.nd := w, dwell := 0 })
        ∧ number 10 0 255 (fun w q => { q with cfg.tqd := w })
        ∧ (v.toNat ≤ 1 → exec (.potWrite h pot 7 (be32 v ++ rest)) s
          = .next ((s.modPot p fun q => { q with cfg.advice := decide (v = 1) }).replied h (replyOf .ok (be32 v))))
        ∧ (1 < v.toNat → exec (.potWrite h pot 7 (be32 v ++ rest)) s = .next (s.replied h (replyOf .badValue []))))
    ∧ (∀ (h : Header) (pot : Half) (p : Fin 384) (extra : List Byte) (s : State), p.val = pot.toNat →
      s.admits h (writePayload .pot pot 0 (be32 1 ++ extra)) = true → s.Settled →
      ((s.pot p).sup ≠ .unconfigured → exec (.potEnable h pot extra) s = .next (s.replied h (replyOf .ok (be32 1))))
        ∧ ((s.pot p).sup = .unconfigured → exec (.potEnable h pot extra) s = .next ((s.modPot p fun q =>
          { q with
            cfg.enabled := true, sup := .starting, startingCount := 0, rf := 0, nf := 0, band := .within, noisy := false
            dwell := 0, parked := none, lastTime := s.time }).replied h (replyOf .ok (be32 1)))))
    ∧ (∀ (h : Header) (pot : Half) (p : Fin 384) (extra : List Byte) (s : State), p.val = pot.toNat →
      s.admits h (writePayload .pot pot 0 (be32 0 ++ extra)) = true → s.Settled →
      ((s.pot p).sup = .unconfigured → exec (.potDisable h pot extra) s = .next (s.replied h (replyOf .ok (be32 0))))
        ∧ ((s.pot p).sup ≠ .unconfigured → (s.pot p).ae = .quiet → exec (.potDisable h pot extra) s = .next (State.replied
          { s with psu := { s.psu with
            pots := s.psu.pots.set p { s.pot p with
              cfg.enabled := false, sup := .unconfigured, order := none, inhibitUntil := none, parked := none
              dwell := if (s.pot p).order.any fun o => o.kind != .quench then 0 else (s.pot p).dwell }
            sendList := s.psu.sendList.filter fun e => e.1 != p } } h (replyOf .ok (be32 0))))
        -- what the pot is in is closed by force first
        ∧ ((s.pot p).sup ≠ .unconfigured → ∃ v : State, exec (.potDisable h pot extra) s = .next (v.replied h (replyOf .ok (be32 0)))
          ∧ v = { s with
              psu := { s.psu with
                pots := s.psu.pots.set p { s.closedPot (s.pot p) with
                  cfg.enabled := false, sup := .unconfigured, order := none, inhibitUntil := none, parked := none
                  dwell := if (s.pot p).order.any fun o => o.kind != .quench then 0 else (s.pot p).dwell }
                sendList := s.psu.sendList.filter fun e => e.1 != p }
              aeu := s.closedAeu (s.pot p) .unconfigured, line.aeHold := s.closedHold (s.pot p)
              meu := (s.endRaised p .unconfigured).meu, port := (s.endRaised p .unconfigured).port }))
    ∧ ∀ (h : Header) (pot : Half) (p : Fin 384) (v : Long) (rest : List Byte) (s : State), p.val = pot.toNat → s.Settled →
      s.admits h (writePayload .pot pot 9 (be32 v ++ rest)) = true →
      let c : Instr := .automaticQuenchWrite h pot (be32 v ++ rest)
      let written := s.modPot p fun q => { q with cfg.autoQuench := decide (v = 1) }
      (1 < v.toNat → exec c s = .next (s.replied h (replyOf .badValue [])))
        ∧ (v.toNat ≤ 1 → written.quenchReady (written.pot p) = false → exec c s = .next (written.replied h (replyOf .ok (be32 v))))
        ∧ (v.toNat ≤ 1 → written.quenchReady (written.pot p) = true → ∃ t, exec c s = .next t
          ∧ t.hasReplied (replyFrame s.address h.src h.seq (replyOf .ok (be32 v))) ∧ (t.pot p).cfg = (written.pot p).cfg
          ∧ (t.pot p).ae = .quenching ∧ (t.pot p).attempts = (s.pot p).attempts + 1
          ∧ (∃ o, (t.pot p).order = some o ∧ o.kind = .quench ∧ o.seq = s.psu.seq) ∧ ∀ p', p' ≠ p → t.pot p' = s.pot p')

/-- R17, R41, R66, R75, R78, R87, R88, R93, R114, R155: what the writes of every field of LINE and GROUP do. The model's choices are that the
index of LINE is not read, that a field number that names no field is BAD-VALUE (log 11), that a node address above 16 bits is clamped
(log 40), and when the orders that a deadband makes due are decided (log 15). -/
def Obligations.LineAndGroupWritesFollowTheirFields : Prop :=
  (∀ (h : Header) (index : Half) (v : Long) (rest : List Byte) (s : State),
      s.admits h (writePayload .line index 8 (be32 v ++ rest)) = true → s.Settled →
      let w := nearest 1 4000000000 v.toNat
      let set : State := { s with line.cfg.hl := w }
      exec (.hlWrite h index (be32 v ++ rest)) s = .next (State.replied
        (if w ≤ s.line.hd ∧ s.line.heatRecovery = false then
          State.raise { set with line.heatRecovery := true } .heatRecovery 0 (min (s.line.hd / 1000) 65535) s.line.cfg.inom
        else if s.line.hd < w / 2 then { set with line.heatRecovery := false } else set) h (writeReply v w)))
    ∧ (∀ (h : Header) (index : Half) (v : Long) (rest : List Byte) (s : State),
      s.admits h (writePayload .line index 16 (be32 v ++ rest)) = true → s.Settled →
      let w := nearest 1 16 v.toNat
      exec (.aeHoldLimitWrite h index (be32 v ++ rest)) s = .next (State.replied
        { s with line := { s.line with ae.holdLimit := w, aeHold := decide (w ≤ s.aeu.count) } } h (writeReply v w)))
    ∧ (∀ (h : Header) (group : Half) (g : Fin 8) (v : Long) (rest : List Byte) (s : State), g.val = group.toNat → s.Settled →
      s.admits h (writePayload .group group 0 (be32 v ++ rest)) = true →
      let q := s.group g
      let values := be32 v ++ rest
      let taken (a : Addr) : Prop := ∃ k, k ≠ g ∧ (s.group k).cfg.present = true ∧ (s.group k).cfg.node = a
      exec (.stepLatchWrite h group values) s = .next (State.replied (s.modGroup g fun x =>
          { x with
            cfg.latch := nearest 0 255 v.toNat, stepCounter := nearest 0 255 v.toNat
            stepOpen := if nearest 0 255 v.toNat = 0 then false else x.stepOpen }) h (writeReply v (nearest 0 255 v.toNat)))
        ∧ (3 < v.toNat → exec (.stepClockWrite h group values) s = .next (s.replied h (replyOf .badValue [])))
        ∧ (∀ k : StepClock, k.code = v.toNat → exec (.stepClockWrite h group values) s = .next
          ((s.modGroup g fun x => { x with cfg.clock := k, stepCounter := x.cfg.latch }).replied h (replyOf .ok (be32 v))))
        ∧ (q.authority ≠ .released → exec (.nodeAddressWrite h group values) s = .next (s.replied h (replyOf .badState [])))
        ∧ (let a : Addr := BitVec.ofNat 16 (nearest 0 65535 v.toNat)
          (q.authority = .released → a = s.address ∨ taken a →
              exec (.nodeAddressWrite h group values) s = .next (s.replied h (replyOf .badValue [])))
            ∧ (q.authority = .released → a ≠ s.address → ¬taken a → exec (.nodeAddressWrite h group values) s = .next
              ((s.modGroup g fun x => { x with cfg.node := a }).replied h (writeReply v (nearest 0 65535 v.toNat)))))
        ∧ (1 < v.toNat → exec (.groupPresentWrite h group values) s = .next (s.replied h (replyOf .badValue [])))
        ∧ (v.toNat ≤ 1 → q.cfg.present = decide (v = 1) →
          exec (.groupPresentWrite h group values) s = .next (s.replied h (replyOf .ok (be32 v))))
        ∧ (v = 1 → q.cfg.present = false → taken q.cfg.node →
          exec (.groupPresentWrite h group values) s = .next (s.replied h (replyOf .badValue [])))
        ∧ (v = 0 → q.cfg.present = true → q.authority ≠ .released →
          exec (.groupPresentWrite h group values) s = .next (s.replied h (replyOf .badState [])))
        ∧ (v = 1 → q.cfg.present = false → ¬taken q.cfg.node → ∃ t, exec (.groupPresentWrite h group values) s = .next t
          ∧ t.hasReplied (replyFrame s.address h.src h.seq (replyOf .ok (be32 1)))
          ∧ t.group g = { q with
              cfg.present := true, authority := .released, stale := .silent, lastStatus := none, watcher := none, form := .full
              withdrawal := .none, stepCounter := q.cfg.latch, stepOpen := false, pct := 100, flowLow := false, teq := none
              cap := 0 }
          ∧ t.clu.ic = t.stationCapacity ∧ t.smap = s.smap ∧ t.psu = s.psu ∧ t.aeu = s.aeu ∧ t.egu = s.egu ∧ t.tru = s.tru)
        ∧ (v = 0 → q.cfg.present = true → q.authority = .released → ∃ t, exec (.groupPresentWrite h group values) s = .next t
          ∧ t.hasReplied (replyFrame s.address h.src h.seq (replyOf .ok (be32 0)))
          ∧ t.group g = { q with cfg.present := false, stale := .silent, cap := 0 }
          ∧ t.clu.ic = t.stationCapacity ∧ t.smap = s.smap ∧ t.psu = s.psu ∧ t.aeu = s.aeu ∧ t.egu = s.egu ∧ t.tru = s.tru))
    ∧ (∀ (h : Header) (index : Half) (field : Byte) (v : Long) (rest : List Byte) (s : State),
      s.admits h (writePayload .line index field (be32 v ++ rest)) = true → s.Settled →
      let c := writeRow .line h index field (be32 v ++ rest)
      let refused : Prop := exec c s = .next (s.replied h (replyOf .badValue []))
      let number (k : Byte) (lo hi : Nat) (set : Nat → Line → Line) : Prop :=
        field = k → exec c s = .next (State.replied { s with line := set (nearest lo hi v.toNat) s.line } h
          (writeReply v (nearest lo hi v.toNat)))
      let voltage (k : Byte) (lo hi : Nat) (a : AeConfig) : Prop :=
        let good : Prop := lo ≤ v.toNat ∧ v.toNat ≤ hi ∧ a.vclr < a.vae ∧ a.vae ≤ a.vmax
        (field = k → good → exec c s = .next (State.replied { s with line.ae := a } h (writeReply v v.toNat)))
          ∧ (field = k → ¬good → refused)
      number 0 0 65535 (fun w l => { l with cfg.inom := w }) ∧ number 1 1000 65535 (fun w l => { l with cfg.imin := w })
        ∧ number 2 0 65535 (fun w l => { l with cfg.if0 := w }) ∧ number 3 0 65535 (fun w l => { l with cfg.itrip := w })
        ∧ number 4 1 65535 (fun w l => { l with cfg.sup := w }) ∧ number 5 1 65535 (fun w l => { l with cfg.sdn := w })
        ∧ number 6 1 12 (fun w l => { l with cfg.ki := w }) ∧ number 7 0 65535 (fun w l => { l with cfg.cmax := w })
        ∧ number 9 1 65535 (fun w l => { l with cfg.hr := w }) ∧ number 13 1 10 (fun w l => { l with ae.tq := w })
        ∧ number 14 1 600 (fun w l => { l with ae.tclr := w }) ∧ number 15 10 600 (fun w l => { l with ae.tqx := w })
        ∧ number 17 0 3600 (fun w l => { l with inhibitTime := w })
        ∧ voltage 10 1 65535 { s.line.ae with vae := v.toNat } ∧ voltage 11 0 65534 { s.line.ae with vclr := v.toNat }
        ∧ voltage 12 1 65535 { s.line.ae with vmax := v.toNat }
        ∧ (field = 18 → v.toNat ≤ 1 → exec c s = .next (State.replied
          { s with line.cacheEnable := decide (v = 1) } h (writeReply v v.toNat)))
        ∧ (field = 18 ∧ 1 < v.toNat ∨ 19 ≤ field.toNat → refused))
    ∧ ∀ (h : Header) (index : Half) (field : Byte) (v : Long) (rest : List Byte) (s : State),
      s.admits h (writePayload .group index field (be32 v ++ rest)) = true → s.Settled →
      let c := writeRow .group h index field (be32 v ++ rest)
      (8 ≤ index.toNat → exec c s = .next (s.replied h (replyOf .badIndex [])))
        ∧ ∀ g : Fin 8, g.val = index.toNat →
          let q := s.group g
          let sets (x : GroupConfig) (w : Nat) : Prop :=
            exec c s = .next ((s.modGroup g fun q => { q with cfg := x }).replied h (writeReply v w))
          let number (k : Byte) (lo hi : Nat) (set : Nat → GroupConfig) : Prop :=
            field = k → sets (set (nearest lo hi v.toNat)) (nearest lo hi v.toNat)
          number 2 0 65535 (fun w => { q.cfg with rated := w }) ∧ number 3 0 65535 (fun w => { q.cfg with idle := w })
            ∧ number 10 0 100 (fun w => { q.cfg with derate := w }) ∧ number 11 0 1000 (fun w => { q.cfg with sinkOffset := w })
            ∧ number 12 0 65535 (fun w => { q.cfg with minFlow := w })
            ∧ (field = 4 → v.toNat ≤ 1 → sets { q.cfg with ack := if v = 0 then .external else .internal } v.toNat)
            ∧ (field = 8 → v.toNat ≤ 1 → sets { q.cfg with autoclaim := decide (v = 1) } v.toNat)
            ∧ (field = 9 → v.toNat ≤ 1 → sets { q.cfg with lock := decide (v = 1) } v.toNat)
            ∧ ((field = 4 ∨ field = 8 ∨ field = 9) ∧ 1 < v.toNat ∨ 13 ≤ field.toNat →
              exec c s = .next (s.replied h (replyOf .badValue [])))
            -- a deadband as written may make orders due, which are then decided (R94; log 15)
            ∧ (let w := nearest 1 65535 v.toNat
              let u := s.modGroup g fun q => { q with cfg.deadband := w }
              (field = 7 → (∀ g', u.orderDue (u.group g') = false ∧ u.zeroOrderDue (u.group g') = false) →
                  exec c s = .next (u.replied h (writeReply v w)))
                ∧ (field = 7 → ∃ t, exec c s = .next t ∧ t.hasReplied (replyFrame s.address h.src h.seq (writeReply v w))
                  ∧ (t.group g).cfg = { q.cfg with deadband := w } ∧ (∀ g', g' ≠ g → (t.group g').cfg = (s.group g').cfg)
                  ∧ t.smap = s.smap ∧ t.psu = s.psu ∧ t.aeu = s.aeu ∧ t.line = s.line ∧ t.clu = s.clu ∧ t.egu = s.egu ∧ t.tru = s.tru))

/-- R167, R168, R169, R62, R120, R121: the checks of a management request in their order, a READ, which changes nothing, the writes of the four
node addresses, and the writes of the stage table, a derate in every mode (log 41). Then the fields of each object that a READ gives, in the
order of R168 and of its owner's tables (R4, R24, R60, R66, R80, R87, R114, R140, R144, R156, R170, R172, R174, R175), a value as section 10.1
writes it; a state without a code and a number above 4 bytes are free values (log 8). The model's choices are the layouts of a READ of TRACE and
of some fields (log 9), the record's duration that stops at 32 bits (log 7), the valid field of the default entry (log 34), a READ by the row
MGMT_WRITE (log 10), an unknown field or a value beyond 16 bits answered BAD-VALUE and the unread field byte of the addresses (log 11), the
shortfall flag (log 25), a DENIED request counted as taken and the overrun tested before the access check (log 30), and the request counted
before it is worked (log 46). -/
def Obligations.RequestsPassTheirChecks : Prop :=
  (∀ (h : Header) (op object : Byte) (index : Half) (field : Byte) (values : List Byte) (s : State),
      let c : Instr := .mgmtWrite h op object index field values
      s.takes h .request = true → values.length ≤ 55 → s.Settled →
      (8 ≤ s.meu.sendList.length → exec c s = .next { s with meu.requestOverrun := bump32 s.meu.requestOverrun })
        ∧ (s.meu.sendList.length < 8 → ∀ a, s.meu.management = some a → a ≠ h.src → exec c s = .next (State.replied
          { s with meu := { s.meu with
            denied := bump32 s.meu.denied
            errors := s.meu.errors.offer .mgmtDenied ⟨h.src.toNat, 0, 0⟩ s.stamp.1 s.stamp.2 } } h (replyOf .denied [])))
        ∧ (s.meu.sendList.length < 8 → s.meu.management = none ∨ s.meu.management = some h.src →
          (op.toNat = 0 ∨ 3 < op.toNat → exec c s = .next (s.replied h (replyOf .badValue [])))
            ∧ (op = 3 → object = 0 ∨ 15 < object.toNat → exec c s = .next (s.replied h (replyOf .badObject [])))
            ∧ (op = 1 ∨ op = 2 → object = 0 ∨ object = 8 ∨ 22 < object.toNat →
              exec c s = .next (s.replied h (replyOf .badObject [])))
            ∧ (op = 2 → 13 ≤ object.toNat → object.toNat ≤ 17 → exec c s = .next (s.replied h (replyOf .badObject [])))
            ∧ (op = 1 → ∃ r, exec c s = .next (s.replied h r))
            -- too few bytes for the one value of a WRITE; CURVE is stated with its curve
            ∧ (∀ o : Object, op = 2 → object = o.code → o ≠ .curve → object.toNat < 13 ∨ 17 < object.toNat → values.length < 4 →
              exec c s = .next (s.replied h (replyOf .badValue [])))
            ∧ (∀ o : Object, op = 1 → object = o.code → o ≠ .trace → o ≠ .curve → s.hasIndex o index.toNat = false →
              exec c s = .next (s.replied h (replyOf .badIndex [])))
            -- a READ of TRACE at a place and a run number
            ∧ (op = 1 → object = 15 → (∀ r ∈ s.aeu.log, r.place ≠ index.toNat) → exec c s = .next (s.replied h (replyOf .badIndex [])))
            ∧ (∀ before r after, op = 1 → object = 15 → s.aeu.log = before ++ r :: after → r.place = index.toNat →
              (∀ x ∈ before, x.place ≠ index.toNat) → r.runCount ≤ 256 →
              (r.runCount ≤ field.toNat → exec c s = .next (s.replied h (replyOf .badIndex [])))
                ∧ (field.toNat < r.runCount → exec c s = .next (s.replied h (replyOf .ok
                  ([field, 1, 0, 0] ++ be32 (BitVec.ofNat 32 r.runCount)
                    ++ (((s.aeu.trace.filter fun x => x.place = r.place).drop field.toNat).take 25).flatMap fun x =>
                      [BitVec.ofNat 8 x.level, BitVec.ofNat 8 x.count])))))
            -- a READ of any other object; the request itself is counted first (log 46)
            ∧ (∀ (o : Object) (fields : Fields), op = 1 → object = o.code → o ≠ .trace → o ≠ .curve →
              ({ s with meu.requestsTaken := bump32 s.meu.requestsTaken } : State).objectFields o index.toNat = some fields →
              (fields.length ≤ field.toNat → exec c s = .next (s.replied h (replyOf .badValue [])))
                ∧ (field.toNat < fields.length →
                  let shown := (fields.drop field.toNat).take 13
                  exec c s = .next (s.replied h (replyOf .ok ([field, BitVec.ofNat 8 shown.length]
                    ++ be16 (BitVec.ofNat 16 (absentMask shown)) ++ shown.flatMap fun v => be32 (v.getD 0))))))
            ∧ (op = 2 → ∀ v rest, values = be32 v ++ rest → object = 19 ∨ object = 20 ∨ object = 21 →
              (index ≠ 0 → exec c s = .next (s.replied h (replyOf .badIndex [])))
                ∧ (index = 0 → 65535 ≤ v.toNat ∨ v.toNat = s.address.toNat → exec c s = .next (s.replied h (replyOf .badValue []))))
            ∧ (op = 2 → ∀ v rest, values = be32 v ++ rest → v.toNat < 65535 → v.toNat ≠ s.address.toNat → index = 0 →
              let a : Addr := BitVec.ofNat 16 v.toNat
              (object = 19 → exec c s = .next (State.replied { s with meu.supervisor := a } h (replyOf .ok (be32 v))))
                ∧ (object = 20 → exec c s = .next (State.replied { s with meu.server := a } h (replyOf .ok (be32 v))))
                ∧ (object = 21 → exec c s = .next (State.replied { s with meu.cooler := a } h (replyOf .ok (be32 v)))))))
    ∧ (∀ (h : Header) (index : Half) (field : Byte) (v : Long) (rest : List Byte) (s : State),
      s.admits h (writePayload .mgmtAddress index field (be32 v ++ rest)) = true → s.Settled →
      let c : Instr := .mgmtAddressWrite h index field (be32 v ++ rest)
      (index ≠ 0 → exec c s = .next (s.replied h (replyOf .badIndex [])))
        ∧ (index = 0 → 65535 ≤ v.toNat ∨ v.toNat = s.address.toNat → exec c s = .next (s.replied h (replyOf .badValue [])))
        ∧ (index = 0 → v.toNat < 65535 → v.toNat ≠ s.address.toNat → exec c s = .next
          (State.replied { s with meu.management := some (BitVec.ofNat 16 v.toNat) } h (replyOf .ok (be32 v)))))
    ∧ ∀ (h : Header) (stage : Half) (field : Byte) (v : Long) (rest : List Byte) (s : State),
      s.admits h (writePayload .stage stage field (be32 v ++ rest)) = true → s.Settled →
      let c : Instr := .stageWrite h stage field (be32 v ++ rest)
      (stage = 0 ∨ 4 < stage.toNat → exec c s = .next (s.replied h (replyOf .badIndex [])))
        ∧ ∀ k : Fin 4, k.val + 1 = stage.toNat →
          let ordered (a : Vector StageEntry 4) : Prop :=
            (∀ i : Fin 4, a[i].down < a[i].up) ∧ a[0].up ≤ a[1].up ∧ a[1].up ≤ a[2].up ∧ a[2].up ≤ a[3].up
          let threshold (a : Vector StageEntry 4) : Prop :=
            ((-32768 ≤ v.toInt ∧ v.toInt ≤ 32767 ∧ ordered a) → exec c s = .next (State.replied
                (State.evaluateStage { s with clu.stages := a }) h (replyOf .ok (be32 v))))
              ∧ (¬(-32768 ≤ v.toInt ∧ v.toInt ≤ 32767 ∧ ordered a) → exec c s = .next (s.replied h (replyOf .badValue [])))
          (field = 0 → threshold (s.clu.stages.set k { s.clu.stages[k] with up := v.toInt }))
            ∧ (field = 1 → threshold (s.clu.stages.set k { s.clu.stages[k] with down := v.toInt }))
            ∧ (3 ≤ field.toNat → exec c s = .next (s.replied h (replyOf .badValue [])))
            ∧ (field = 2 → ∃ t, exec c s = .next t
              ∧ t.hasReplied (replyFrame s.address h.src h.seq
                (replyOf (if 100 < v.toNat then .clamped else .ok) (be32 (BitVec.ofNat 32 (min v.toNat 100)))))
              ∧ t.clu.stages = s.clu.stages.set k { s.clu.stages[k] with derate := min v.toNat 100 }
              ∧ stationWorked s t ∧ t.clu.wanted = s.clu.wanted ∧ t.clu.running = s.clu.running
              ∧ t.clu.confirmation = s.clu.confirmation ∧ t.clu.seq = s.clu.seq)
    -- the fields of every object that a READ gives them of, in their order
    ∧ ∀ s : State,
      let n (k : Nat) : Option Long := some (if k < 4294967296 then BitVec.ofNat 32 k else Config.wideValue k)
      let z (k : Int) : Option Long := some (BitVec.ofInt 32 k)
      let f (b : Bool) : Option Long := some (if b = true then 1 else 0)
      let opt (k : Option Nat) : Option Long := k.bind n
      let two (k : Nat) : Fields := [n (k / 4294967296), n (k % 4294967296)]
      -- a state without a code in the spec (log 8)
      let state (x : Config.UncodedField) (k : Nat) : Option Long := some (Config.stateCode x k)
      let slot (k : Option Nat) : Option Long := n (k.getD 65535)
      let entry (e : TariffEntry) : Fields := [n e.rate, n e.limit, n e.cls, f e.valid]
      let window (w : TariffWindow) : Fields :=
        [f w.enable, n w.base.toNat, n w.mask.toNat, n (if w.mode = .direct then 0 else 1), n w.calendarBase.toNat] ++ entry w.own
      let potKind (k : OrderKind) : Nat := match k with | .raise => 1 | .lower => 2 | .check => 3 | .quench => 4
      let potState (a : AeState) : Nat := match a with | .quiet => 0 | .suspect => 1 | .active => 2 | .quenching => 3 | .clearing => 4
      let authority (a : Authority) : Nat :=
        match a with | .released => 0 | .held => 1 | .heldWatched => 2 | .pending => 3 | .pendingWatched => 4
      let cause (c : EndCause) : Nat :=
        match c with | .selfCleared => 1 | .quenched => 2 | .noData => 3 | .bypassed => 4 | .unconfigured => 5 | .restart => 6
      let level (l : Level) : Nat := match l with | .info => 0 | .minor => 1 | .major => 2 | .urgent => 3
      (∀ p : Fin 384, let q := s.pot p
        s.objectFields .pot p.val = some (
          [f q.cfg.enabled, n q.cfg.vb, n q.cfg.rt, n q.cfg.bw, n q.cfg.k, n q.cfg.kn, n q.cfg.nlim, f q.cfg.advice, n q.cfg.nd,
            f q.cfg.autoQuench, n q.cfg.tqd,
            state .supervision q.sup.position, n (potState q.ae), n q.rf, n q.nf, n q.startingCount, n q.lastVoltage, n q.lastTime,
            state .band q.band.position, f q.noisy, n q.dwell]
          ++ (match q.order with
            | some o => [n (potKind o.kind), n o.seq.toNat, n o.sent, n o.dest.toNat, n o.slot, f o.unsent]
            | none => [none, none, none, none, none, none])
          ++ (match q.orderAddress with | some (node, k) => [n node.toNat, n k] | none => [none, none])
          ++ [opt q.inhibitUntil, opt q.parked, opt q.logIndex, n q.attempts, f q.localQuench, n q.glitches, n q.faults,
            n q.lateAnswers, n q.staleCurrent, n q.ignoredMarkers, n q.lastResistance, f q.lowV, f q.sat,
            n q.fx.quietVoltage, n q.fx.onsetTime, n q.fx.onsetDay, n q.fx.onsetMs, n q.fx.onsetVoltage, n q.fx.vnorm,
            opt q.fx.qualificationEnd, opt q.fx.quenchDue, opt q.fx.quenchTimeout, opt q.fx.clearEnd, n q.fx.spanStart,
            n q.fx.duration, f q.fx.persistent, n q.fx.energyRemainder]))
      ∧ (∀ k x, s.smap.potMap[k]? = some x →
        s.objectFields .map k = some [n (match x with | some p => p.val | none => 65535)])
      ∧ (∀ k w, s.smap.windows[k]? = some w → s.objectFields .sectionWindow k = some
          [f w.enable, n w.base.toNat, n w.mask.toNat, n (if w.mode = .direct then 0 else 1), n w.indexBase])
      ∧ (let l := s.line
        s.objectFields .line 0 = some
          [n l.cfg.inom, n l.cfg.imin, n l.cfg.if0, n l.cfg.itrip, n l.cfg.sup, n l.cfg.sdn, n l.cfg.ki, n l.cfg.cmax, n l.cfg.hl,
            n l.cfg.hr, n l.ae.vae, n l.ae.vclr, n l.ae.vmax, n l.ae.tq, n l.ae.tclr, n l.ae.tqx, n l.ae.holdLimit, n l.inhibitTime,
            f l.cacheEnable, n l.il, n l.vl, opt l.sampleTime, state .lineState l.state.position, opt l.tripWatch, n l.it, z l.c,
            n l.ig, n l.hd, n l.heatRemainder, f l.heatRecovery, n l.floor, f l.aeHold, f l.belowFloor, f l.curtailing,
            n s.aeu.count, state .playerState l.player.state.position, opt (l.player.profile.map Fin.val), n l.player.step.val,
            z l.player.op])
      ∧ (∀ k x, s.line.steps[k]? = some x →
        s.objectFields .profileStep k = some [z x.offset, n x.duration, n x.marker, f x.last])
      ∧ (∀ k x, s.line.profiles[k]? = some x → s.objectFields .profile k = some [n x.startStep.val, n (x.trigger.getD 255)])
      ∧ (∀ g : Fin 8, let q := s.group g
        s.objectFields .group g.val = some (
          [f q.cfg.present, n q.cfg.node.toNat, n q.cfg.rated, n q.cfg.idle, n (if q.cfg.ack = .external then 0 else 1),
            n (match q.cfg.clock with | .ms100 => 0 | .s1 => 1 | .s10 => 2 | .s60 => 3), n q.cfg.latch, n q.cfg.deadband,
            f q.cfg.autoclaim, f q.cfg.lock, n q.cfg.derate, n q.cfg.sinkOffset, n q.cfg.minFlow,
            n (authority q.authority), opt (q.watcher.map BitVec.toNat), state .form q.form.position,
            state .latestForm q.latestForm.position, n (if q.mode = .remote then 1 else 2), n q.reported, n q.tap, n q.echo, z q.tout,
            z q.tsink, n q.flow, n q.confirmed]
          ++ (match q.order with
            | some o => [n o.setpoint, n o.seq.toNat, n o.sent, f o.withdraw, f o.unsent]
            | none => [none, none, none, none, none])
          ++ [n q.streak, n q.wanted, state .staleState q.stale.position, opt q.lastStatus, state .withdrawal q.withdrawal.position,
            n q.stepCounter, f q.stepOpen, f q.statusSince, q.teq.bind z, n q.pct, f q.flowLow, n q.cap]))
      ∧ (let c := s.clu
        s.objectFields .stage 0 = some
          [n c.wanted, n c.running, n c.available, opt c.statusTime, state .confirmation c.confirmation.position, opt c.confirmEnd,
            c.hottest.bind z, opt c.upSince, opt c.downSince, n c.counted, n c.pct, f c.shortfall,
            c.orderFrame.bind fun x => n (byteAt x.payload 0).toNat, n c.ic])
      ∧ (∀ k : Fin 4, s.objectFields .stage (k.val + 1) = some
          [z s.clu.stages[k].up, z s.clu.stages[k].down, n s.clu.stages[k].derate])
      ∧ (∀ k w v, s.tru.written.windows[k]? = some w → s.tru.inForce.windows[k]? = some v →
        s.objectFields .tariffWindow k = some (window w ++ window v))
      ∧ s.objectFields .tariffDefault 0 = some (entry s.tru.written.fallback ++ entry s.tru.inForce.fallback)
      ∧ (∀ k : Fin 8, let p := s.tru.cache[k]
        s.objectFields .tariffDefault (k.val + 1) = some ([f p.valid, n p.tag, n p.index.toNat] ++ entry p.entry))
      ∧ (let u := s.tru
        let place (x : Option Fetch) : Fields := match x with
          | some x => [n x.slot, n x.index.toNat, n x.seq.toNat, n x.sent, f x.unsent]
          | none => [none, none, none, none, none]
        let pair (x : Option (Nat × Half)) : Fields := match x with | some x => [n x.1, n x.2.toNat] | none => [none, none]
        s.objectFields .tariffDefault 9 = some (
          [n u.pointer.val] ++ place u.table[0] ++ place u.table[1] ++ pair u.waitList[0]? ++ pair u.waitList[1]?
          ++ [slot u.lookup.slot, opt (u.lookup.index.map BitVec.toNat), state .rateSource u.lookup.source.position,
            f u.lookup.awaiting, f u.lookup.prefetchMade]
          ++ pair u.declined ++ [f u.invalidation]))
      ∧ (∀ k r, k ≠ 65535 → s.egu.queue[k]? = some r → s.objectFields .energyRecord k = some (
          [slot r.number, n r.energy] ++ two r.cost ++ [n r.aeEnergy, n r.overrun, n r.curtailed, n r.minIl, n r.maxIl, n r.cls,
            state .rateSource r.source.position, f r.timeStep, f r.gap, f r.part, f r.lostBefore]))
      ∧ (let o := s.egu.slot
        s.objectFields .energyRecord 65535 = some (
          [slot o.number, n o.es, n o.costedMark] ++ two o.cost ++ [n o.aeEnergy, n o.curtailed, opt o.minIl, opt o.maxIl]
          ++ entry o.entry ++ [state .rateSource o.source.position, opt o.cap, f o.capBinding, f o.timeStep, f o.gap, f o.part]
          ++ (match s.clockNow with | some now => [n now.day, n now.ms] | none => [none, none])
          ++ [n s.egu.remainder, n s.egu.queue.length]))
      ∧ (∀ k r, s.aeu.log[k]? = some r →
        let duration := if r.closed = true then r.duration else min (s.durationNow (s.pot r.pot)) 4294967295
        s.objectFields .aeLog k = some
          [n r.pot.val, n r.onsetDay, n r.onsetMs, state .recordStatus (if r.closed = true then 1 else 0), n duration, n r.peak,
            n r.vnorm, n r.energy, n r.ordersSent, n r.quenchTaken, f r.localQuench, n r.declines, n r.relapses, f r.persistent,
            opt (r.endCause.map cause), n r.runCount, n r.samples, f r.truncated, n r.place])
      ∧ (let l := s.meu.errors
        s.objectFields .errorLog 0 = some
          [f l.err, n (match l.code with
              | none => 0 | some .mapRange => 1 | some .mapInvalid => 2 | some .calInvalid => 3 | some .calTimeout => 4
              | some .mgmtDenied => 5),
            n l.detail.first, n l.detail.second, n l.detail.third, n l.day, n l.ms, f l.lost, n l.mapRange, n l.mapInvalid,
            n l.calInvalid, n l.calTimeout, n l.mgmtDenied])
      ∧ s.objectFields .mgmtAddress 0 = some [opt (s.meu.management.map BitVec.toNat)]
      ∧ s.objectFields .supervisorAddress 0 = some [n s.meu.supervisor.toNat]
      ∧ s.objectFields .serverAddress 0 = some [n s.meu.server.toNat]
      ∧ s.objectFields .coolerAddress 0 = some [n s.meu.cooler.toNat]
      ∧ (∃ highest, s.objectFields .events 0 = some
            [n highest, n (EventKind.all.countP fun k => s.meu.events[k.index].pending),
              state .alarmLine (if s.meu.alarm = true then 1 else 0)]
          ∧ ((∀ k : EventKind, s.meu.events[k.index].pending = false) → highest = 255)
          ∧ ∀ k : EventKind, s.meu.events[k.index].pending = true →
            (∀ k' : EventKind, s.meu.events[k'.index].pending = true → level k'.level ≤ level k.level) → highest = level k.level)
      ∧ (∀ k : EventKind, s.objectFields .events (k.index.val + 1) = some
          [n (level k.level), f s.meu.events[k.index].pending, n s.meu.events[k.index].count,
            if k.level = .major ∨ k.level = .urgent then f s.meu.events[k.index].enable else none])
      ∧ (let p := s.port
        s.objectFields .counters 0 = some
          [n p.counters.malformed, n p.counters.badCheck, n p.counters.stripped, n p.counters.unknownKind, n p.counters.shortPayload,
            n p.counters.forwarded, n p.counters.forwardOverrun, n p.counters.inserted, n p.counters.reportsSent,
            n p.counters.infoDrops, n p.counters.minorDrops, n p.counters.majorDrops, n p.counters.urgentDrops, n p.noticeSeq.toNat,
            n p.forward.length, n p.insert.length, n p.buffer.length])
      ∧ s.objectFields .counters 1 = some [n s.smap.overlap, n s.smap.unmatched]
      ∧ (let k := s.psu.counters
        s.objectFields .counters 2 = some
          [n k.raiseSent, n k.lowerSent, n k.checkSent, n k.taken, n k.declined, n k.expired, n k.badAnswer, n k.unplaced,
            n s.psu.seq.toNat])
      ∧ (let k := s.aeu.counters
        s.objectFields .counters 3 = some
          [n k.onsets, n k.quenchSent, n k.quenchTaken, n k.quenchDeclined, n k.persistent, n k.unlogged, n k.discardedRuns])
      ∧ s.objectFields .counters 4 = some
          [n s.gau.unmatchedStatus, n s.gau.unplaced, n s.gau.ignoredProbes, n s.gau.noticesDropped, n s.gau.seq.toNat]
      ∧ s.objectFields .counters 5 = some [n s.clu.ordersSent, n s.clu.unmatched, n s.clu.badStatus, n s.clu.seq.toNat]
      ∧ s.objectFields .counters 6 = some (
          [n s.egu.marksTaken, n s.egu.badMarks, n s.egu.timeSteps, n s.egu.lostRecords, n s.egu.queue.length]
          ++ two s.egu.total ++ two s.egu.released ++ two s.egu.lost)
      ∧ (let k := s.tru.counters
        s.objectFields .counters 7 = some
          [n k.overlap, n k.defaultUsed, n k.hits, n k.misses, n k.fetchesSent, n k.taken, n k.invalid, n k.timeouts, n k.late,
            n k.ignored, n s.tru.seq.toNat])
      ∧ s.objectFields .counters 8 = some
          [n s.meu.requestsTaken, n s.meu.requestOverrun, n s.meu.denied,
            n (match s.meu.mode with | .forwardOnly => 0 | .observing => 1 | .supervising => 2), opt s.meu.observationEnd]
      ∧ ∀ g : Fin 8, let k := (s.group g).counters
        s.objectFields .counters (16 + g.val) = some
          [n k.late, n k.noAnswer, n k.badAnswer, n k.mismatch, n k.badStatus, n k.echoMismatch, n k.shortWhileLocked, n k.ordersSent]
end

