-- ==== Sys2Proof/Laws/State.lean ====
section
/-! SUPPORT. The fields of the state after each of its named updates, one lemma for each, true by unfolding: no later proof unfolds a
record update. -/

namespace Sys2Proof.Machine

/-! ### One pot changed -/

@[simp] theorem State.modPot_pending (s : State) (p : Fin 384) (f : Pot → Pot) : (s.modPot p f).pending = s.pending := rfl
@[simp] theorem State.modPot_resetLow (s : State) (p : Fin 384) (f : Pot → Pot) : (s.modPot p f).resetLow = s.resetLow := rfl
@[simp] theorem State.modPot_address (s : State) (p : Fin 384) (f : Pot → Pot) : (s.modPot p f).address = s.address := rfl
@[simp] theorem State.modPot_time (s : State) (p : Fin 384) (f : Pot → Pot) : (s.modPot p f).time = s.time := rfl
@[simp] theorem State.modPot_port (s : State) (p : Fin 384) (f : Pot → Pot) : (s.modPot p f).port = s.port := rfl
@[simp] theorem State.modPot_smap (s : State) (p : Fin 384) (f : Pot → Pot) : (s.modPot p f).smap = s.smap := rfl
@[simp] theorem State.modPot_aeu (s : State) (p : Fin 384) (f : Pot → Pot) : (s.modPot p f).aeu = s.aeu := rfl
@[simp] theorem State.modPot_line (s : State) (p : Fin 384) (f : Pot → Pot) : (s.modPot p f).line = s.line := rfl
@[simp] theorem State.modPot_gau (s : State) (p : Fin 384) (f : Pot → Pot) : (s.modPot p f).gau = s.gau := rfl
@[simp] theorem State.modPot_clu (s : State) (p : Fin 384) (f : Pot → Pot) : (s.modPot p f).clu = s.clu := rfl
@[simp] theorem State.modPot_egu (s : State) (p : Fin 384) (f : Pot → Pot) : (s.modPot p f).egu = s.egu := rfl
@[simp] theorem State.modPot_tru (s : State) (p : Fin 384) (f : Pot → Pot) : (s.modPot p f).tru = s.tru := rfl
@[simp] theorem State.modPot_meu (s : State) (p : Fin 384) (f : Pot → Pot) : (s.modPot p f).meu = s.meu := rfl
@[simp] theorem State.modPot_psu_seq (s : State) (p : Fin 384) (f : Pot → Pot) : (s.modPot p f).psu.seq = s.psu.seq := rfl
@[simp] theorem State.modPot_psu_sendList (s : State) (p : Fin 384) (f : Pot → Pot) : (s.modPot p f).psu.sendList = s.psu.sendList := rfl
@[simp] theorem State.modPot_psu_counters (s : State) (p : Fin 384) (f : Pot → Pot) : (s.modPot p f).psu.counters = s.psu.counters := rfl

/-- The changed pot. -/
@[simp] theorem State.pot_modPot (s : State) (p : Fin 384) (f : Pot → Pot) : (s.modPot p f).pot p = f (s.pot p) := by
  simp [State.pot, State.modPot]

/-- The other pots. -/
theorem State.pot_modPot_of_ne (s : State) {p k : Fin 384} (f : Pot → Pot) (h : k ≠ p) : (s.modPot p f).pot k = s.pot k := by
  have : p.val ≠ k.val := fun e => h (Fin.ext e.symm)
  simp [State.pot, State.modPot, Vector.getElem_set_ne, this]

/-- Two changes of one pot are one. -/
@[simp] theorem State.modPot_modPot (s : State) (p : Fin 384) (f f' : Pot → Pot) :
    (s.modPot p f).modPot p f' = s.modPot p fun q => f' (f q) := by
  simp [State.modPot]

@[simp] theorem State.group_modPot (s : State) (p : Fin 384) (f : Pot → Pot) (g : Fin 8) : (s.modPot p f).group g = s.group g := rfl

/-! ### One group changed -/

@[simp] theorem State.modGroup_pending (s : State) (g : Fin 8) (f : Group → Group) : (s.modGroup g f).pending = s.pending := rfl
@[simp] theorem State.modGroup_resetLow (s : State) (g : Fin 8) (f : Group → Group) : (s.modGroup g f).resetLow = s.resetLow := rfl
@[simp] theorem State.modGroup_address (s : State) (g : Fin 8) (f : Group → Group) : (s.modGroup g f).address = s.address := rfl
@[simp] theorem State.modGroup_time (s : State) (g : Fin 8) (f : Group → Group) : (s.modGroup g f).time = s.time := rfl
@[simp] theorem State.modGroup_port (s : State) (g : Fin 8) (f : Group → Group) : (s.modGroup g f).port = s.port := rfl
@[simp] theorem State.modGroup_smap (s : State) (g : Fin 8) (f : Group → Group) : (s.modGroup g f).smap = s.smap := rfl
@[simp] theorem State.modGroup_psu (s : State) (g : Fin 8) (f : Group → Group) : (s.modGroup g f).psu = s.psu := rfl
@[simp] theorem State.modGroup_aeu (s : State) (g : Fin 8) (f : Group → Group) : (s.modGroup g f).aeu = s.aeu := rfl
@[simp] theorem State.modGroup_line (s : State) (g : Fin 8) (f : Group → Group) : (s.modGroup g f).line = s.line := rfl
@[simp] theorem State.modGroup_clu (s : State) (g : Fin 8) (f : Group → Group) : (s.modGroup g f).clu = s.clu := rfl
@[simp] theorem State.modGroup_egu (s : State) (g : Fin 8) (f : Group → Group) : (s.modGroup g f).egu = s.egu := rfl
@[simp] theorem State.modGroup_tru (s : State) (g : Fin 8) (f : Group → Group) : (s.modGroup g f).tru = s.tru := rfl
@[simp] theorem State.modGroup_meu (s : State) (g : Fin 8) (f : Group → Group) : (s.modGroup g f).meu = s.meu := rfl
@[simp] theorem State.modGroup_gau_seq (s : State) (g : Fin 8) (f : Group → Group) : (s.modGroup g f).gau.seq = s.gau.seq := rfl
@[simp] theorem State.modGroup_gau_sendList (s : State) (g : Fin 8) (f : Group → Group) : (s.modGroup g f).gau.sendList = s.gau.sendList := rfl
@[simp] theorem State.modGroup_gau_unmatchedStatus (s : State) (g : Fin 8) (f : Group → Group) : (s.modGroup g f).gau.unmatchedStatus = s.gau.unmatchedStatus := rfl
@[simp] theorem State.modGroup_gau_unplaced (s : State) (g : Fin 8) (f : Group → Group) : (s.modGroup g f).gau.unplaced = s.gau.unplaced := rfl
@[simp] theorem State.modGroup_gau_ignoredProbes (s : State) (g : Fin 8) (f : Group → Group) : (s.modGroup g f).gau.ignoredProbes = s.gau.ignoredProbes := rfl
@[simp] theorem State.modGroup_gau_noticesDropped (s : State) (g : Fin 8) (f : Group → Group) : (s.modGroup g f).gau.noticesDropped = s.gau.noticesDropped := rfl

/-- The changed group. -/
@[simp] theorem State.group_modGroup (s : State) (g : Fin 8) (f : Group → Group) : (s.modGroup g f).group g = f (s.group g) := by
  simp [State.group, State.modGroup]

/-- The other groups. -/
theorem State.group_modGroup_of_ne (s : State) {g k : Fin 8} (f : Group → Group) (h : k ≠ g) :
    (s.modGroup g f).group k = s.group k := by
  have : g.val ≠ k.val := fun e => h (Fin.ext e.symm)
  simp [State.group, State.modGroup, Vector.getElem_set_ne, this]

/-- Two changes of one group are one. -/
@[simp] theorem State.modGroup_modGroup (s : State) (g : Fin 8) (f f' : Group → Group) :
    (s.modGroup g f).modGroup g f' = s.modGroup g fun q => f' (f q) := by
  simp [State.modGroup]

@[simp] theorem State.pot_modGroup (s : State) (g : Fin 8) (f : Group → Group) (p : Fin 384) : (s.modGroup g f).pot p = s.pot p := rfl

/-! ### Log records changed -/

@[simp] theorem State.modRecord_pending (s : State) (pl : Nat) (f : AeRecord → AeRecord) : (s.modRecord pl f).pending = s.pending := rfl
@[simp] theorem State.modRecord_resetLow (s : State) (pl : Nat) (f : AeRecord → AeRecord) : (s.modRecord pl f).resetLow = s.resetLow := rfl
@[simp] theorem State.modRecord_address (s : State) (pl : Nat) (f : AeRecord → AeRecord) : (s.modRecord pl f).address = s.address := rfl
@[simp] theorem State.modRecord_time (s : State) (pl : Nat) (f : AeRecord → AeRecord) : (s.modRecord pl f).time = s.time := rfl
@[simp] theorem State.modRecord_port (s : State) (pl : Nat) (f : AeRecord → AeRecord) : (s.modRecord pl f).port = s.port := rfl
@[simp] theorem State.modRecord_smap (s : State) (pl : Nat) (f : AeRecord → AeRecord) : (s.modRecord pl f).smap = s.smap := rfl
@[simp] theorem State.modRecord_psu (s : State) (pl : Nat) (f : AeRecord → AeRecord) : (s.modRecord pl f).psu = s.psu := rfl
@[simp] theorem State.modRecord_line (s : State) (pl : Nat) (f : AeRecord → AeRecord) : (s.modRecord pl f).line = s.line := rfl
@[simp] theorem State.modRecord_gau (s : State) (pl : Nat) (f : AeRecord → AeRecord) : (s.modRecord pl f).gau = s.gau := rfl
@[simp] theorem State.modRecord_clu (s : State) (pl : Nat) (f : AeRecord → AeRecord) : (s.modRecord pl f).clu = s.clu := rfl
@[simp] theorem State.modRecord_egu (s : State) (pl : Nat) (f : AeRecord → AeRecord) : (s.modRecord pl f).egu = s.egu := rfl
@[simp] theorem State.modRecord_tru (s : State) (pl : Nat) (f : AeRecord → AeRecord) : (s.modRecord pl f).tru = s.tru := rfl
@[simp] theorem State.modRecord_meu (s : State) (pl : Nat) (f : AeRecord → AeRecord) : (s.modRecord pl f).meu = s.meu := rfl
@[simp] theorem State.modRecord_aeu_count (s : State) (pl : Nat) (f : AeRecord → AeRecord) : (s.modRecord pl f).aeu.count = s.aeu.count := rfl
@[simp] theorem State.modRecord_aeu_trace (s : State) (pl : Nat) (f : AeRecord → AeRecord) : (s.modRecord pl f).aeu.trace = s.aeu.trace := rfl
@[simp] theorem State.modRecord_aeu_counters (s : State) (pl : Nat) (f : AeRecord → AeRecord) : (s.modRecord pl f).aeu.counters = s.aeu.counters := rfl
@[simp] theorem State.pot_modRecord (s : State) (pl : Nat) (f : AeRecord → AeRecord) (p : Fin 384) : (s.modRecord pl f).pot p = s.pot p := rfl

@[simp] theorem State.group_modRecord (s : State) (pl : Nat) (f : AeRecord → AeRecord) (g : Fin 8) : (s.modRecord pl f).group g = s.group g := rfl

/-- A change of an effect's record changes the log, and nothing else of the part. -/
theorem State.modOpenRecord_eq (s : State) (p : Fin 384) (f : AeRecord → AeRecord) :
    s.modOpenRecord p f = { s with aeu := { s.aeu with log := match (s.pot p).logIndex with
      | none => s.aeu.log
      | some pl => s.aeu.log.map fun r => if r.place = pl then f r else r } } := by
  unfold State.modOpenRecord
  cases (s.pot p).logIndex <;> rfl

@[simp] theorem State.modOpenRecord_pending (s : State) (p : Fin 384) (f : AeRecord → AeRecord) : (s.modOpenRecord p f).pending = s.pending := by
  rw [State.modOpenRecord_eq]
@[simp] theorem State.modOpenRecord_resetLow (s : State) (p : Fin 384) (f : AeRecord → AeRecord) : (s.modOpenRecord p f).resetLow = s.resetLow := by
  rw [State.modOpenRecord_eq]
@[simp] theorem State.modOpenRecord_address (s : State) (p : Fin 384) (f : AeRecord → AeRecord) : (s.modOpenRecord p f).address = s.address := by
  rw [State.modOpenRecord_eq]
@[simp] theorem State.modOpenRecord_time (s : State) (p : Fin 384) (f : AeRecord → AeRecord) : (s.modOpenRecord p f).time = s.time := by
  rw [State.modOpenRecord_eq]
@[simp] theorem State.modOpenRecord_port (s : State) (p : Fin 384) (f : AeRecord → AeRecord) : (s.modOpenRecord p f).port = s.port := by
  rw [State.modOpenRecord_eq]
@[simp] theorem State.modOpenRecord_smap (s : State) (p : Fin 384) (f : AeRecord → AeRecord) : (s.modOpenRecord p f).smap = s.smap := by
  rw [State.modOpenRecord_eq]
@[simp] theorem State.modOpenRecord_psu (s : State) (p : Fin 384) (f : AeRecord → AeRecord) : (s.modOpenRecord p f).psu = s.psu := by
  rw [State.modOpenRecord_eq]
@[simp] theorem State.modOpenRecord_line (s : State) (p : Fin 384) (f : AeRecord → AeRecord) : (s.modOpenRecord p f).line = s.line := by
  rw [State.modOpenRecord_eq]
@[simp] theorem State.modOpenRecord_gau (s : State) (p : Fin 384) (f : AeRecord → AeRecord) : (s.modOpenRecord p f).gau = s.gau := by
  rw [State.modOpenRecord_eq]
@[simp] theorem State.modOpenRecord_clu (s : State) (p : Fin 384) (f : AeRecord → AeRecord) : (s.modOpenRecord p f).clu = s.clu := by
  rw [State.modOpenRecord_eq]
@[simp] theorem State.modOpenRecord_egu (s : State) (p : Fin 384) (f : AeRecord → AeRecord) : (s.modOpenRecord p f).egu = s.egu := by
  rw [State.modOpenRecord_eq]
@[simp] theorem State.modOpenRecord_tru (s : State) (p : Fin 384) (f : AeRecord → AeRecord) : (s.modOpenRecord p f).tru = s.tru := by
  rw [State.modOpenRecord_eq]
@[simp] theorem State.modOpenRecord_meu (s : State) (p : Fin 384) (f : AeRecord → AeRecord) : (s.modOpenRecord p f).meu = s.meu := by
  rw [State.modOpenRecord_eq]

@[simp] theorem State.pot_modOpenRecord (s : State) (p : Fin 384) (f : AeRecord → AeRecord) (k : Fin 384) :
    (s.modOpenRecord p f).pot k = s.pot k := by
  simp [State.pot]

@[simp] theorem State.group_modOpenRecord (s : State) (p : Fin 384) (f : AeRecord → AeRecord) (g : Fin 8) :
    (s.modOpenRecord p f).group g = s.group g := by
  simp [State.group]

/-! ### A pot order dropped, group frames dropped -/

@[simp] theorem State.dropPotOrder_pending (s : State) (p : Fin 384) : (s.dropPotOrder p).pending = s.pending := rfl
@[simp] theorem State.dropPotOrder_resetLow (s : State) (p : Fin 384) : (s.dropPotOrder p).resetLow = s.resetLow := rfl
@[simp] theorem State.dropPotOrder_address (s : State) (p : Fin 384) : (s.dropPotOrder p).address = s.address := rfl
@[simp] theorem State.dropPotOrder_time (s : State) (p : Fin 384) : (s.dropPotOrder p).time = s.time := rfl
@[simp] theorem State.dropPotOrder_port (s : State) (p : Fin 384) : (s.dropPotOrder p).port = s.port := rfl
@[simp] theorem State.dropPotOrder_smap (s : State) (p : Fin 384) : (s.dropPotOrder p).smap = s.smap := rfl
@[simp] theorem State.dropPotOrder_aeu (s : State) (p : Fin 384) : (s.dropPotOrder p).aeu = s.aeu := rfl
@[simp] theorem State.dropPotOrder_line (s : State) (p : Fin 384) : (s.dropPotOrder p).line = s.line := rfl
@[simp] theorem State.dropPotOrder_gau (s : State) (p : Fin 384) : (s.dropPotOrder p).gau = s.gau := rfl
@[simp] theorem State.dropPotOrder_clu (s : State) (p : Fin 384) : (s.dropPotOrder p).clu = s.clu := rfl
@[simp] theorem State.dropPotOrder_egu (s : State) (p : Fin 384) : (s.dropPotOrder p).egu = s.egu := rfl
@[simp] theorem State.dropPotOrder_tru (s : State) (p : Fin 384) : (s.dropPotOrder p).tru = s.tru := rfl
@[simp] theorem State.dropPotOrder_meu (s : State) (p : Fin 384) : (s.dropPotOrder p).meu = s.meu := rfl
@[simp] theorem State.pot_dropPotOrder (s : State) (p : Fin 384) : (s.dropPotOrder p).pot p = { s.pot p with order := none } := by
  simp [State.dropPotOrder, State.pot, State.modPot]

theorem State.pot_dropPotOrder_of_ne (s : State) {p k : Fin 384} (h : k ≠ p) : (s.dropPotOrder p).pot k = s.pot k := by
  have : p.val ≠ k.val := fun e => h (Fin.ext e.symm)
  simp [State.dropPotOrder, State.pot, State.modPot, Vector.getElem_set_ne, this]

@[simp] theorem State.group_dropPotOrder (s : State) (p : Fin 384) (g : Fin 8) : (s.dropPotOrder p).group g = s.group g := rfl

@[simp] theorem State.dropGroupFrames_pending (s : State) (g : Fin 8) : (s.dropGroupFrames g).pending = s.pending := rfl
@[simp] theorem State.dropGroupFrames_resetLow (s : State) (g : Fin 8) : (s.dropGroupFrames g).resetLow = s.resetLow := rfl
@[simp] theorem State.dropGroupFrames_address (s : State) (g : Fin 8) : (s.dropGroupFrames g).address = s.address := rfl
@[simp] theorem State.dropGroupFrames_time (s : State) (g : Fin 8) : (s.dropGroupFrames g).time = s.time := rfl
@[simp] theorem State.dropGroupFrames_port (s : State) (g : Fin 8) : (s.dropGroupFrames g).port = s.port := rfl
@[simp] theorem State.dropGroupFrames_smap (s : State) (g : Fin 8) : (s.dropGroupFrames g).smap = s.smap := rfl
@[simp] theorem State.dropGroupFrames_psu (s : State) (g : Fin 8) : (s.dropGroupFrames g).psu = s.psu := rfl
@[simp] theorem State.dropGroupFrames_aeu (s : State) (g : Fin 8) : (s.dropGroupFrames g).aeu = s.aeu := rfl
@[simp] theorem State.dropGroupFrames_line (s : State) (g : Fin 8) : (s.dropGroupFrames g).line = s.line := rfl
@[simp] theorem State.dropGroupFrames_clu (s : State) (g : Fin 8) : (s.dropGroupFrames g).clu = s.clu := rfl
@[simp] theorem State.dropGroupFrames_egu (s : State) (g : Fin 8) : (s.dropGroupFrames g).egu = s.egu := rfl
@[simp] theorem State.dropGroupFrames_tru (s : State) (g : Fin 8) : (s.dropGroupFrames g).tru = s.tru := rfl
@[simp] theorem State.dropGroupFrames_meu (s : State) (g : Fin 8) : (s.dropGroupFrames g).meu = s.meu := rfl
@[simp] theorem State.group_dropGroupFrames (s : State) (g k : Fin 8) : (s.dropGroupFrames g).group k = s.group k := rfl

@[simp] theorem State.pot_dropGroupFrames (s : State) (g : Fin 8) (p : Fin 384) : (s.dropGroupFrames g).pot p = s.pot p := rfl

/-! ### An error offered -/

@[simp] theorem State.offerError_pending (s : State) (k : ErrorKind) (d : ErrorDetail) : (s.offerError k d).pending = s.pending := rfl
@[simp] theorem State.offerError_resetLow (s : State) (k : ErrorKind) (d : ErrorDetail) : (s.offerError k d).resetLow = s.resetLow := rfl
@[simp] theorem State.offerError_address (s : State) (k : ErrorKind) (d : ErrorDetail) : (s.offerError k d).address = s.address := rfl
@[simp] theorem State.offerError_time (s : State) (k : ErrorKind) (d : ErrorDetail) : (s.offerError k d).time = s.time := rfl
@[simp] theorem State.offerError_port (s : State) (k : ErrorKind) (d : ErrorDetail) : (s.offerError k d).port = s.port := rfl
@[simp] theorem State.offerError_smap (s : State) (k : ErrorKind) (d : ErrorDetail) : (s.offerError k d).smap = s.smap := rfl
@[simp] theorem State.offerError_psu (s : State) (k : ErrorKind) (d : ErrorDetail) : (s.offerError k d).psu = s.psu := rfl
@[simp] theorem State.offerError_aeu (s : State) (k : ErrorKind) (d : ErrorDetail) : (s.offerError k d).aeu = s.aeu := rfl
@[simp] theorem State.offerError_line (s : State) (k : ErrorKind) (d : ErrorDetail) : (s.offerError k d).line = s.line := rfl
@[simp] theorem State.offerError_gau (s : State) (k : ErrorKind) (d : ErrorDetail) : (s.offerError k d).gau = s.gau := rfl
@[simp] theorem State.offerError_clu (s : State) (k : ErrorKind) (d : ErrorDetail) : (s.offerError k d).clu = s.clu := rfl
@[simp] theorem State.offerError_egu (s : State) (k : ErrorKind) (d : ErrorDetail) : (s.offerError k d).egu = s.egu := rfl
@[simp] theorem State.offerError_tru (s : State) (k : ErrorKind) (d : ErrorDetail) : (s.offerError k d).tru = s.tru := rfl
@[simp] theorem State.offerError_meu_mode (s : State) (k : ErrorKind) (d : ErrorDetail) : (s.offerError k d).meu.mode = s.meu.mode := rfl
@[simp] theorem State.offerError_meu_observationEnd (s : State) (k : ErrorKind) (d : ErrorDetail) : (s.offerError k d).meu.observationEnd = s.meu.observationEnd := rfl
@[simp] theorem State.offerError_meu_management (s : State) (k : ErrorKind) (d : ErrorDetail) : (s.offerError k d).meu.management = s.meu.management := rfl
@[simp] theorem State.offerError_meu_supervisor (s : State) (k : ErrorKind) (d : ErrorDetail) : (s.offerError k d).meu.supervisor = s.meu.supervisor := rfl
@[simp] theorem State.offerError_meu_server (s : State) (k : ErrorKind) (d : ErrorDetail) : (s.offerError k d).meu.server = s.meu.server := rfl
@[simp] theorem State.offerError_meu_cooler (s : State) (k : ErrorKind) (d : ErrorDetail) : (s.offerError k d).meu.cooler = s.meu.cooler := rfl
@[simp] theorem State.offerError_meu_events (s : State) (k : ErrorKind) (d : ErrorDetail) : (s.offerError k d).meu.events = s.meu.events := rfl
@[simp] theorem State.offerError_meu_alarm (s : State) (k : ErrorKind) (d : ErrorDetail) : (s.offerError k d).meu.alarm = s.meu.alarm := rfl
@[simp] theorem State.offerError_meu_sendList (s : State) (k : ErrorKind) (d : ErrorDetail) : (s.offerError k d).meu.sendList = s.meu.sendList := rfl
@[simp] theorem State.offerError_meu_requestsTaken (s : State) (k : ErrorKind) (d : ErrorDetail) : (s.offerError k d).meu.requestsTaken = s.meu.requestsTaken := rfl
@[simp] theorem State.offerError_meu_requestOverrun (s : State) (k : ErrorKind) (d : ErrorDetail) : (s.offerError k d).meu.requestOverrun = s.meu.requestOverrun := rfl
@[simp] theorem State.offerError_meu_denied (s : State) (k : ErrorKind) (d : ErrorDetail) : (s.offerError k d).meu.denied = s.meu.denied := rfl

end Sys2Proof.Machine
end

