-- ==== Sys2Proof/Laws/Ops.lean ====
section
/-! SUPPORT. What the shared operations can do, once for each: the admission of frames (R161), the raising of an event (R171), a reply
(R167), and the arrival of a frame or a request (R158, R159, R167). Later proofs cite these and do not unfold the operations. -/

namespace Sys2Proof.Machine

/-! ### Admission (R161) -/

/-- A pot record but for the unsent flag of its order. -/
def Pot.sentForm (q : Pot) : Pot := { q with order := q.order.map fun o => { o with unsent := false } }

/-- A group record but for the unsent flag of its order. -/
def Group.sentForm (q : Group) : Group := { q with order := q.order.map fun o => { o with unsent := false } }

/-- A fetch but for its unsent flag. -/
def Fetch.sentForm (f : Fetch) : Fetch := { f with unsent := false }

/-- All that an admission of frames can change from `s` to `t`: the ring port, the send lists, and unsent flags. -/
structure Admitted (s t : State) : Prop where
  rest : t = { s with
    port := t.port
    psu := { s.psu with pots := t.psu.pots, sendList := t.psu.sendList }
    gau := { s.gau with groups := t.gau.groups, sendList := t.gau.sendList }
    clu := { s.clu with orderFrame := t.clu.orderFrame }
    tru := { s.tru with table := t.tru.table, sendList := t.tru.sendList }
    meu := { s.meu with sendList := t.meu.sendList } }
  pots : ∀ p, (t.pot p).sentForm = (s.pot p).sentForm
  groups : ∀ g, (t.group g).sentForm = (s.group g).sentForm
  table : ∀ k : Fin 2, (t.tru.table[k]).map Fetch.sentForm = (s.tru.table[k]).map Fetch.sentForm

theorem Admitted.refl (s : State) : Admitted s s := ⟨rfl, fun _ => rfl, fun _ => rfl, fun _ => rfl⟩

theorem Admitted.trans {s t u : State} (h : Admitted s t) (h' : Admitted t u) : Admitted s u := by
  refine ⟨?_, fun p => (h'.pots p).trans (h.pots p), fun g => (h'.groups g).trans (h.groups g),
    fun k => (h'.table k).trans (h.table k)⟩
  have a := h'.rest
  rw [h.rest] at a
  exact a

/-- Clearing an unsent flag leaves the pot as it is but for that flag. -/
theorem Pot.sentForm_clearUnsent (q : Pot) (seq : Byte) : (q.clearUnsent seq).sentForm = q.sentForm := by
  unfold Pot.clearUnsent Pot.sentForm
  cases q.order <;> simp
  split <;> simp

theorem Group.sentForm_clearUnsent (q : Group) (seq : Byte) : (q.clearUnsent seq).sentForm = q.sentForm := by
  unfold Group.clearUnsent Group.sentForm
  cases q.order <;> simp
  split <;> simp

/-- A change of one pot that keeps its sent form keeps every pot's. -/
theorem State.sentForm_modPot (s : State) (p : Fin 384) (f : Pot → Pot) (h : ∀ q, (f q).sentForm = q.sentForm) (k : Fin 384) :
    ((s.modPot p f).pot k).sentForm = (s.pot k).sentForm := by
  by_cases e : k = p
  · subst e; simp [h]
  · rw [State.pot_modPot_of_ne _ _ e]

theorem State.sentForm_modGroup (s : State) (g : Fin 8) (f : Group → Group) (h : ∀ q, (f q).sentForm = q.sentForm) (k : Fin 8) :
    ((s.modGroup g f).group k).sentForm = (s.group k).sentForm := by
  by_cases e : k = g
  · subst e; simp [h]
  · rw [State.group_modGroup_of_ne _ _ e]

/-- A frame that enters changes only what an admission may (R161). -/
theorem State.enterFrom_admitted (s : State) (src : Source) : Admitted s (s.enterFrom src) := by
  cases src with
  | report => exact ⟨rfl, fun _ => rfl, fun _ => rfl, fun _ => rfl⟩
  | meu =>
    simp only [State.enterFrom]
    split
    · exact .refl s
    · exact ⟨rfl, fun _ => rfl, fun _ => rfl, fun _ => rfl⟩
  | gau =>
    simp only [State.enterFrom]
    split
    · exact .refl s
    · split
      · next i rest _ _ g _ =>
        refine ⟨rfl, fun _ => rfl, fun k => ?_, fun _ => rfl⟩
        exact State.sentForm_modGroup { s with gau.sendList := rest } g _ (fun q => q.sentForm_clearUnsent _) k
      · exact ⟨rfl, fun _ => rfl, fun _ => rfl, fun _ => rfl⟩
      · exact ⟨rfl, fun _ => rfl, fun _ => rfl, fun _ => rfl⟩
  | psu =>
    simp only [State.enterFrom]
    split
    · exact .refl s
    · next p f rest _ =>
      refine ⟨rfl, fun k => ?_, fun _ => rfl, fun _ => rfl⟩
      exact State.sentForm_modPot { s with psu.sendList := rest } p _ (fun q => q.sentForm_clearUnsent _) k
  | tru =>
    simp only [State.enterFrom]
    split
    · exact .refl s
    · next f rest _ =>
      refine ⟨rfl, fun _ => rfl, fun _ => rfl, fun k => ?_⟩
      have e : ∀ x : Option Fetch,
          (x.map fun x => if x.seq = f.seq then { x with unsent := false } else x).map Fetch.sentForm = x.map Fetch.sentForm := by
        intro x
        cases x with
        | none => rfl
        | some y => by_cases h : y.seq = f.seq <;> simp [h, Fetch.sentForm]
      simp only [Fin.getElem_fin, Vector.getElem_map]
      exact e _
  | clu =>
    simp only [State.enterFrom]
    split
    · exact .refl s
    · exact ⟨rfl, fun _ => rfl, fun _ => rfl, fun _ => rfl⟩

/-- The pointer of the rotation is a field of the ring port. -/
theorem Admitted.withPointer {s t : State} (h : Admitted s t) (src : Source) : Admitted s { t with port.pointer := src } := by
  exact ⟨congrArg (fun x : State => { x with port.pointer := src }) h.rest, h.pots, h.groups, h.table⟩

/-- The arbiter changes only what an admission may. -/
theorem State.arbitrate_admitted (n : Nat) : ∀ s : State, Admitted s (s.arbitrate n) := by
  induction n with
  | zero => exact fun s => .refl s
  | succ n ih =>
    intro s
    unfold State.arbitrate
    split
    · exact .refl s
    · next src _ => exact ((s.enterFrom_admitted src).withPointer src.next).trans (ih _)

/-- Settling changes only what an admission may (R161). -/
theorem State.settle_admitted (s : State) : Admitted s s.settle := s.arbitrate_admitted _

/-- With no source that may place a frame the arbiter does nothing, in however many rounds. -/
theorem State.arbitrate_of_settled {s : State} (h : s.Settled) (n : Nat) : s.arbitrate n = s := by
  cases n with
  | zero => rfl
  | succ n => rw [State.arbitrate, h]

/-- A settled part stays as it is. -/
@[simp] theorem State.settle_of_settled {s : State} (h : s.Settled) : s.settle = s := State.arbitrate_of_settled h _

@[simp] theorem State.settle_pending (s : State) : s.settle.pending = s.pending := by rw [s.settle_admitted.rest]
@[simp] theorem State.settle_resetLow (s : State) : s.settle.resetLow = s.resetLow := by rw [s.settle_admitted.rest]
@[simp] theorem State.settle_address (s : State) : s.settle.address = s.address := by rw [s.settle_admitted.rest]
@[simp] theorem State.settle_time (s : State) : s.settle.time = s.time := by rw [s.settle_admitted.rest]
@[simp] theorem State.settle_smap (s : State) : s.settle.smap = s.smap := by rw [s.settle_admitted.rest]
@[simp] theorem State.settle_aeu (s : State) : s.settle.aeu = s.aeu := by rw [s.settle_admitted.rest]
@[simp] theorem State.settle_line (s : State) : s.settle.line = s.line := by rw [s.settle_admitted.rest]
@[simp] theorem State.settle_egu (s : State) : s.settle.egu = s.egu := by rw [s.settle_admitted.rest]
@[simp] theorem State.settle_mode (s : State) : s.settle.meu.mode = s.meu.mode := by rw [s.settle_admitted.rest]
@[simp] theorem State.settle_events (s : State) : s.settle.meu.events = s.meu.events := by rw [s.settle_admitted.rest]
@[simp] theorem State.settle_alarm (s : State) : s.settle.meu.alarm = s.meu.alarm := by rw [s.settle_admitted.rest]
@[simp] theorem State.settle_errors (s : State) : s.settle.meu.errors = s.meu.errors := by rw [s.settle_admitted.rest]
@[simp] theorem State.settle_written (s : State) : s.settle.tru.written = s.tru.written := by rw [s.settle_admitted.rest]
@[simp] theorem State.settle_cache (s : State) : s.settle.tru.cache = s.tru.cache := by rw [s.settle_admitted.rest]
@[simp] theorem State.settle_waitList (s : State) : s.settle.tru.waitList = s.tru.waitList := by rw [s.settle_admitted.rest]
@[simp] theorem State.settle_ic (s : State) : s.settle.clu.ic = s.clu.ic := by rw [s.settle_admitted.rest]

/-- Two pots of one sent form are alike in every field but the unsent flag of their orders. -/
theorem Pot.eq_of_sentForm {q r : Pot} (h : q.sentForm = r.sentForm) : q = { r with order := q.order } := by
  cases q; cases r; simp_all [Pot.sentForm]

theorem Group.eq_of_sentForm {q r : Group} (h : q.sentForm = r.sentForm) : q = { r with order := q.order } := by
  cases q; cases r; simp_all [Group.sentForm]

/-- A pot after an admission is as before but for its order's unsent flag. -/
theorem State.pot_settle (s : State) (p : Fin 384) : s.settle.pot p = { s.pot p with order := (s.settle.pot p).order } :=
  Pot.eq_of_sentForm (s.settle_admitted.pots p)

/-- A group after an admission is as before but for its order's unsent flag. -/
theorem State.group_settle (s : State) (g : Fin 8) : s.settle.group g = { s.group g with order := (s.settle.group g).order } :=
  Group.eq_of_sentForm (s.settle_admitted.groups g)

/-! ### Events (R171) -/

@[simp] theorem State.raise_pending (s : State) (k : EventKind) (j a b : Nat) : (s.raise k j a b).pending = s.pending := by
  simp [State.raise]
@[simp] theorem State.raise_resetLow (s : State) (k : EventKind) (j a b : Nat) : (s.raise k j a b).resetLow = s.resetLow := by
  simp [State.raise]
@[simp] theorem State.raise_address (s : State) (k : EventKind) (j a b : Nat) : (s.raise k j a b).address = s.address := by
  simp [State.raise]
@[simp] theorem State.raise_time (s : State) (k : EventKind) (j a b : Nat) : (s.raise k j a b).time = s.time := by
  simp [State.raise]
@[simp] theorem State.raise_smap (s : State) (k : EventKind) (j a b : Nat) : (s.raise k j a b).smap = s.smap := by
  simp [State.raise]
@[simp] theorem State.raise_aeu (s : State) (k : EventKind) (j a b : Nat) : (s.raise k j a b).aeu = s.aeu := by
  simp [State.raise]
@[simp] theorem State.raise_line (s : State) (k : EventKind) (j a b : Nat) : (s.raise k j a b).line = s.line := by
  simp [State.raise]
@[simp] theorem State.raise_egu (s : State) (k : EventKind) (j a b : Nat) : (s.raise k j a b).egu = s.egu := by
  simp [State.raise]

/-- A raised kind is pending. -/
theorem State.raise_marks (s : State) (k : EventKind) (j a b : Nat) : ((s.raise k j a b).meu.events[k.index]).pending = true := by
  simp [State.raise, Meu.takeEvent, Meu.evaluateAlarm]

/-- After a raise the ALARM line is as R173 says. -/
theorem State.raise_alarm (s : State) (k : EventKind) (j a b : Nat) :
    (s.raise k j a b).meu.alarm = alarmHeld (s.raise k j a b).meu.events := by
  simp [State.raise, Meu.takeEvent, Meu.evaluateAlarm]

/-- What a raise changes outside admission: the event summary, the ALARM line and the ring port. -/
theorem State.raise_admitted (s : State) (k : EventKind) (j a b : Nat) :
    ∃ port, Admitted { s with meu := s.meu.takeEvent k, port := port } (s.raise k j a b) :=
  ⟨_, State.settle_admitted _⟩

/-! ### Arrival (R158, R159, R167, R176) -/

/-- A taken kind is found by its code. -/
@[simp] theorem takenKind_code (k : TakenKind) : takenKind k.code = some k := by
  cases k <;> decide

/-- A frame that the part takes, with a payload that is long enough and fits, is forwarded or consumed and then worked (R158, R159). -/
theorem State.frameRow_of_takes {s : State} {h : Header} {k : TakenKind} {p : List Byte} (work : State → State)
    (ht : s.takes h k = true) (hmin : k.length ≤ p.length) (hmax : p.length ≤ Config.payloadMax) :
    s.frameRow (frameOf h k p) work = work (s.carried h k p) := by
  simp only [State.takes, Bool.and_eq_true, Bool.not_eq_true', bne_iff_ne, Bool.or_eq_true, beq_iff_eq] at ht
  obtain ⟨⟨hr, hs⟩, hd⟩ := ht
  simp [State.frameRow, State.onRing, State.arrive, State.distribute, State.carried, frameOf, hr, hs, Nat.not_lt.mpr hmax,
    Nat.not_lt.mpr hmin, hd]

/-- A request whose SRC is admitted, on a part with room for the reply, is worked and answered (R167, R169). -/
theorem State.requestRow_of_admits {s : State} {h : Header} {p : List Byte} (work : State → Worked) (ha : s.admits h p = true) :
    let s1 : State := { s with meu.requestsTaken := bump32 s.meu.requestsTaken }
    s.requestRow h p work = (work s1).1.sendReply (replyFrame s.address h.src h.seq (work s1).2) := by
  simp only [State.admits, Bool.and_eq_true, Bool.not_eq_true', bne_iff_ne, beq_iff_eq, decide_eq_true_eq] at ha
  obtain ⟨⟨⟨⟨⟨⟨hr, hs⟩, hd⟩, hmin⟩, hmax⟩, hroom⟩, hm⟩ := ha
  have ht : s.takes h .request = true := by simp [State.takes, hr, hs, hd]
  have hc : s.carried h .request p = s := by simp [State.carried, State.passOn, frameOf, hd]
  have hm' : ({ s.meu with requestsTaken := bump32 s.meu.requestsTaken } : Meu).admits h.src = true := hm
  simp [State.requestRow, State.frameRow_of_takes _ ht hmin hmax, hc, State.answerRequest, Nat.not_le.mpr hroom, hm']

/-! ### Replies (R161, R167) -/

/-- On a settled part no source may place a frame, and a part on which none may is settled. -/
theorem State.settled_iff (s : State) : s.Settled ↔ ∀ src, s.mayEnter src = false := by
  simp only [State.Settled, State.nextSource, List.find?_eq_none, Bool.not_eq_true]
  constructor
  · intro h src
    exact h src (by cases s.port.pointer <;> cases src <;> decide)
  · exact fun h src _ => h src

/-- Where MEU has a reply waiting, the insert queue of a settled part is full. -/
theorem State.Settled.full_of_reply {s : State} (hs : s.Settled) (h : s.meu.sendList ≠ []) :
    Config.insertPlaces ≤ s.port.insert.length := by
  have := s.settled_iff.mp hs .meu
  simp [State.mayEnter, State.offers, h] at this
  omega

/-- When one source alone may place a frame, it is the next. -/
theorem State.nextSource_of_only {s : State} {src : Source} (h : s.mayEnter src = true)
    (ho : ∀ x, x ≠ src → s.mayEnter x = false) : s.nextSource = some src := by
  unfold State.nextSource
  cases hp : s.port.pointer <;> cases src <;> simp [Source.rotation, h, ho]

/-- A reply for 0xFFFF is not placed (R157). -/
theorem State.sendReply_of_broadcast {s : State} {f : Frame} (hf : sendable f = false) : s.sendReply f = s := by
  simp [State.sendReply, hf]

/-- A reply on a settled part enters the insert queue at once, or waits when the queue is full (R161, R167). -/
theorem State.sendReply_of_settled {s : State} (hs : s.Settled) {f : Frame} (hf : sendable f = true) :
    s.sendReply f = if s.port.insert.length < Config.insertPlaces then { s with port := { s.port.enter f with pointer := .gau } }
      else { s with meu.sendList := s.meu.sendList ++ [f] } := by
  have hno := s.settled_iff.mp hs
  rw [State.sendReply, if_pos hf]
  split
  · next hl =>
    have hm : s.meu.sendList = [] := by
      by_contra hne
      exact absurd (hs.full_of_reply hne) (by omega)
    have hother : ∀ x, x ≠ Source.meu → ({ s with meu.sendList := [f] } : State).mayEnter x = false := by
      intro x hx
      have hx' := hno x
      cases x <;> first | exact absurd rfl hx | exact hx'
    have hmeu : ({ s with meu.sendList := [f] } : State).mayEnter .meu = true := by
      simp [State.mayEnter, State.offers, hl]
    have hnext := State.nextSource_of_only hmeu hother
    simp only [State.settle, hm, List.nil_append, Config.insertPlaces]
    rw [show (32 : Nat) = 31 + 1 from rfl, State.arbitrate, hnext]
    have hset : ({ s with port := { s.port.enter f with pointer := .gau } } : State).Settled := by
      rw [State.settled_iff]
      intro x
      by_cases hx : x = .meu
      · subst hx
        simp [State.mayEnter, State.offers, hm]
      · have ho : ({ s with port := { s.port.enter f with pointer := .gau } } : State).offers x = s.offers x := by
          cases x <;> first | exact absurd rfl hx | rfl
        have hr : s.port.reports ≤ Port.reports { s.port.enter f with pointer := .gau } := by
          simp [Port.reports, Port.enter, List.countP_append]
        have hn := hno x
        unfold State.mayEnter at hn ⊢
        rw [ho]
        by_cases hof : s.offers x = true
        · simp only [hof, hl, decide_true, Bool.true_and, Bool.or_eq_false_iff, decide_eq_false_iff_not] at hn
          simp only [hn.1, Bool.false_or, Bool.and_eq_false_iff, decide_eq_false_iff_not]
          exact .inr fun h => hn.2 (Nat.lt_of_le_of_lt hr h)
        · simp [Bool.not_eq_true _ ▸ hof]
    have he : ({ s with meu := { s.meu with sendList := [] } } : State) = s := by rw [← hm]
    have := State.arbitrate_of_settled hset 31
    simp only [State.enterFrom, Source.next]
    simpa [he, ← hm] using this
  · next hl =>
    refine State.settle_of_settled ?_
    rw [State.settled_iff]
    intro x
    simp [State.mayEnter, hl]

/-- The answer to a request on a settled part is `replied` (R161, R167): here with the request already counted. -/
theorem State.sendReply_eq_replied {s : State} (hs : s.Settled) (h : Header) (r : Reply) :
    State.sendReply { s with meu.requestsTaken := bump32 s.meu.requestsTaken } (replyFrame s.address h.src h.seq r)
      = s.replied h r := by
  have hs' : State.Settled { s with meu.requestsTaken := bump32 s.meu.requestsTaken } := by
    rw [State.settled_iff] at hs ⊢
    intro x
    have := hs x
    cases x <;> exact this
  by_cases hb : h.src = Config.broadcast
  · rw [State.sendReply_of_broadcast (by simp [replyFrame, sendable, hb]), State.replied, if_pos hb]
  · rw [State.sendReply_of_settled hs' (by simp [replyFrame, sendable, hb]), State.replied, if_neg hb]

end Sys2Proof.Machine
end

