-- ==== Sys2Proof/Laws/Groups.lean ====
section
/-! SUPPORT. What an allocation (R85) and the decision of the orders that are due (R94, R110) can change, once for each. -/

namespace Sys2Proof.Machine

/-! ### Allocation (R85) -/

/-- Wanted setpoints written change the groups, and nothing else of the part. -/
theorem State.writeWanted_rest (ws : List (Fin 8 × Nat)) :
    ∀ s : State, s.writeWanted ws = { s with gau.groups := (s.writeWanted ws).gau.groups } := by
  induction ws with
  | nil => exact fun _ => rfl
  | cons w ws ih =>
    intro s
    have h := ih (s.modGroup w.1 fun q => { q with wanted := w.2 })
    simp only [State.writeWanted, List.foldl_cons] at h ⊢
    exact h

/-- A group after wanted setpoints are written is as before but for its wanted setpoint. -/
theorem State.group_writeWanted (ws : List (Fin 8 × Nat)) :
    ∀ (s : State) (g : Fin 8), (s.writeWanted ws).group g = { s.group g with wanted := ((s.writeWanted ws).group g).wanted } := by
  induction ws with
  | nil => exact fun _ _ => rfl
  | cons w ws ih =>
    intro s g
    have h := ih (s.modGroup w.1 fun q => { q with wanted := w.2 }) g
    simp only [State.writeWanted, List.foldl_cons] at h ⊢
    rw [h]
    by_cases e : g = w.1
    · subst e; simp
    · rw [State.group_modGroup_of_ne _ _ e]

/-- An allocation changes the groups, and nothing else of the part (R85). -/
theorem State.allocate_rest (s : State) : s.allocate = { s with gau.groups := s.allocate.gau.groups } := by
  unfold State.allocate
  split
  · exact State.writeWanted_rest _ s
  · rfl

/-- A group after an allocation is as before but for its wanted setpoint (R85). -/
theorem State.group_allocate (s : State) (g : Fin 8) :
    s.allocate.group g = { s.group g with wanted := (s.allocate.group g).wanted } := by
  unfold State.allocate
  split
  · exact State.group_writeWanted _ s g
  · rfl

/-! ### Trips and capacities (R69, R118) -/

/-- At a trip a held group's wanted setpoint is 0, and a RELEASED group is as before (R69). -/
@[simp] theorem State.group_zeroWanted (s : State) (g : Fin 8) :
    s.zeroWanted.group g = if (s.group g).authority.isHeld then { s.group g with wanted := 0 } else s.group g := by
  simp only [State.group, State.zeroWanted, Fin.getElem_fin, Vector.getElem_map]
  by_cases h : s.gau.groups[g.val].authority.isHeld = true <;> simp only [h, if_true]

/-- In FORWARD-ONLY an evaluation of the capacity changes nothing (section 6.7; log 41). -/
theorem State.evaluateCap_of_forwardOnly {s : State} (h : s.active = false) (g : Fin 8) : s.evaluateCap g = s := by
  simp [State.evaluateCap, h]

/-- Elsewhere it is the evaluation of that group (R118). -/
theorem State.group_evaluateCap {s : State} (h : s.active = true) (g : Fin 8) :
    (s.evaluateCap g).group g = (s.group g).evaluate s.clu.pct := by
  simp [State.evaluateCap, h]

/-- Every other group is as before. -/
theorem State.group_evaluateCap_of_ne (s : State) {g g' : Fin 8} (h : g' ≠ g) : (s.evaluateCap g).group g' = s.group g' := by
  unfold State.evaluateCap
  split
  · rw [State.group_modGroup_of_ne _ _ h]
  · rfl

/-! ### Orders that are due (R94, R110) -/

/-- All that the decision of orders can change from `s` to `t`: the groups, GAU's counter and list, and what an admission may. -/
def Ordered (s t : State) : Prop :=
  t = { s with
    port := t.port
    psu := { s.psu with pots := t.psu.pots, sendList := t.psu.sendList }
    gau := { s.gau with
      groups := t.gau.groups, seq := t.gau.seq, sendList := t.gau.sendList, noticesDropped := t.gau.noticesDropped }
    clu := { s.clu with orderFrame := t.clu.orderFrame }
    tru := { s.tru with table := t.tru.table, sendList := t.tru.sendList }
    meu := { s.meu with sendList := t.meu.sendList } }

theorem Ordered.refl (s : State) : Ordered s s := rfl

theorem Ordered.trans {s t u : State} (h : Ordered s t) (h' : Ordered t u) : Ordered s u := by
  unfold Ordered at h h' ⊢
  rw [h] at h'
  exact h'

/-- An admission is one such change. -/
theorem Admitted.ordered {s t : State} (h : Admitted s t) : Ordered s t := by
  have a := h.rest
  unfold Ordered
  rw [a]

/-- A changed group is one. -/
theorem ordered_modGroup (s : State) (g : Fin 8) (f : Group → Group) : Ordered s (s.modGroup g f) := rfl

/-- An allocation is one. -/
theorem ordered_allocate (s : State) : Ordered s s.allocate := by
  unfold Ordered
  conv_lhs => rw [s.allocate_rest]
  rw [s.allocate_rest]

/-- A GROUP-ORDER placed in the list is one (R95). -/
theorem ordered_sendGroupOrder (s : State) (g : Fin 8) (f : Frame) : Ordered s (s.sendGroupOrder g f) := by
  unfold State.sendGroupOrder
  simp only
  split
  · exact Ordered.trans (t := { s with gau.sendList := _ }) rfl (State.settle_admitted _).ordered
  · rfl

/-- Making room in the list changes the list and the dropped-notice counter. -/
theorem ordered_makeRoom (s : State) (l : List GauItem) :
    Ordered s { s with gau := { s.gau.makeRoom with sendList := l } } := by
  unfold Gau.makeRoom
  split <;> rfl

/-- A notice is one (R104). -/
theorem ordered_notify (s : State) (g : Fin 8) : Ordered s (s.notify g) := by
  unfold State.notify
  simp only
  split
  · exact .refl s
  · unfold State.sendNotice
    split
    · exact .refl s
    split
    · rfl
    · exact (ordered_makeRoom s _).trans (State.settle_admitted _).ordered

/-- A decided order is one (R94, R110). -/
theorem ordered_decideOrder (s : State) (g : Fin 8) (setpoint : Nat) (withdraw : Bool) : Ordered s (s.decideOrder g setpoint withdraw) := by
  unfold State.decideOrder
  simp only
  split
  · refine Ordered.trans ?_ (ordered_sendGroupOrder _ _ _)
    rfl
  · refine Ordered.trans (Ordered.trans ?_ (ordered_notify _ _)) (ordered_sendGroupOrder _ _ _)
    rfl

/-- The order that a group is due is one. -/
theorem ordered_decideFor (s : State) (g : Fin 8) : Ordered s (s.decideFor g) := by
  unfold State.decideFor
  simp only
  split
  · exact ordered_decideOrder _ _ _ _
  · split
    · exact ordered_decideOrder _ _ _ _
    · exact .refl s

/-- A fold of such changes is one. -/
theorem ordered_foldl {α : Type} (f : State → α → State) (hf : ∀ s a, Ordered s (f s a)) (l : List α) :
    ∀ s : State, Ordered s (l.foldl f s) := by
  induction l with
  | nil => exact fun s => .refl s
  | cons a l ih => exact fun s => (hf s a).trans (ih _)

/-- All orders that are due, decided. -/
theorem ordered_decideAll (s : State) : Ordered s s.decideAll := ordered_foldl _ ordered_decideFor _ s

/-- Deciding what a step has made due changes the groups, GAU's counter and list, and what an admission may (R85, R94, R110). -/
theorem ordered_regulate (s : State) : Ordered s s.regulate := by
  unfold State.regulate
  simp only
  split
  · exact ordered_decideAll s
  · exact ((ordered_decideAll s).trans (ordered_allocate _)).trans (ordered_decideAll _)

/-- With no order due for any group, nothing is decided. -/
theorem State.regulate_of_regulated {s : State} (h : s.Regulated) : s.regulate = s := by
  have hfor : ∀ g, s.decideFor g = s := by
    intro g
    simp [State.decideFor, (h g).1, (h g).2.1]
  have hall : ∀ l : List (Fin 8), l.foldl State.decideFor s = s := by
    intro l
    induction l with
    | nil => rfl
    | cons g l ih => rw [List.foldl_cons, hfor g, ih]
  have : s.decideAll = s := hall _
  simp [State.regulate, this]

end Sys2Proof.Machine
end

