-- ==== Sys2Proof/WellFormed.lean ====
section
/-! DEFINITION. Which terms of Instr stand for what their row says. A term that is not well formed still has a meaning: it is received
by the general rules of the ring port (log 12, 13). -/

namespace Sys2Proof

open Machine

/-- A payload of at most 60 bytes (R157). -/
def fits (payload : List Byte) : Bool := decide (payload.length ≤ Config.payloadMax)

/-- A frame of a kind that the part does not read in passing (R160). -/
def unread (f : Frame) : Bool :=
  match takenKind f.kind with
  | none => true
  | some k => !k.passing

/-- A frame of a kind that the part does not take, or short of its kind's payload (R159). -/
def unknownOrShort (f : Frame) : Bool :=
  match takenKind f.kind with
  | none => true
  | some k => decide (f.payload.length < k.length)

/-- A request's payload: at least the five bytes of its header, and at most 60 (section 9.1). -/
def requestFits (payload : List Byte) : Bool := decide (5 ≤ payload.length) && fits payload

/-- The bytes are no frame that the part would take: a form fault or the part's own address as SRC (R158). The address is the part's,
so only the form is checked here. -/
def formFault (bytes : List Byte) : Bool :=
  match parseFrame bytes with
  | .error _ => true
  | .ok _ => false

/-- The well-formedness of a command. -/
def wellFormed : Instr → Bool
  | .resetLow => true
  | .resetRelease _ => true
  | .frameRejected bytes => formFault bytes
  | .framePassing f => fits f.payload && unread f
  | .unknownKind f => fits f.payload && unknownOrShort f
  | .potSample _ time slots extra => fits (potSamplePayload time slots extra)
  | .lineSample _ time il vl extra => fits (lineSamplePayload time il vl extra)
  | .timeMark _ day ms extra => fits (timeMarkPayload day ms extra)
  | .groupStatusFull _ mode current tap echo tout tsink flow extra =>
    fits (statusFullPayload mode current tap echo tout tsink flow extra)
  | .groupStatusShort _ mode current tap extra => fits (statusShortPayload mode current tap extra)
  | .groupAnswer _ result setpoint extra => fits (groupAnswerPayload result setpoint extra)
  | .groupProbe _ group data next extra => fits (groupProbePayload group data next extra)
  | .watch _ group data extra => fits (groupProbePayload group data 1 extra)
  | .unwatch _ group data extra => fits (groupProbePayload group data 2 extra)
  | .takeLocal _ group data extra => fits (groupProbePayload group data 3 extra)
  | .returnRemote _ group data extra => fits (groupProbePayload group data 4 extra)
  | .potAnswer _ slot result extra => fits (potAnswerPayload slot result extra)
  | .coolerStatus _ running available extra => fits (coolerStatusPayload running available extra)
  | .calendarEntry _ index slot valid cls rate limit extra =>
    fits (calendarEntryPayload index slot valid cls rate limit extra)
  | .ringOutSend => true
  | .deferralTimerExpiry => true
  | .potLost _ => true
  | .inhibitEnd _ => true
  | .adviceExpiry _ => true
  | .qualificationEnd _ => true
  | .quenchDue _ => true
  | .quenchTimeout _ => true
  | .clearEnd _ => true
  | .lineTrip => true
  | .stepEnd => true
  | .stepTimer _ => true
  | .groupOrderTimeout _ => true
  | .groupHolding _ => true
  | .groupSilent _ => true
  | .stageUp => true
  | .stageDown => true
  | .coolerNoResponse => true
  | .slotEnd => true
  | .prefetch => true
  | .fetchTimeout _ => true
  | .takeover => true
  | .start _ arg tail => requestFits (commandPayload .start arg tail)
  | .restart _ arg tail => requestFits (commandPayload .restart arg tail)
  | .stop _ arg tail => requestFits (commandPayload .stop arg tail)
  | .claim _ arg tail => requestFits (commandPayload .claim arg tail)
  | .release _ arg tail => requestFits (commandPayload .release arg tail)
  | .setFull _ arg tail => requestFits (commandPayload .setFull arg tail)
  | .profilePlay _ arg tail => requestFits (commandPayload .profilePlay arg tail)
  | .profileHold _ arg tail => requestFits (commandPayload .profileHold arg tail)
  | .profileResume _ arg tail => requestFits (commandPayload .profileResume arg tail)
  | .profileStop _ arg tail => requestFits (commandPayload .profileStop arg tail)
  | .lineRestart _ arg tail => requestFits (commandPayload .lineRestart arg tail)
  | .cacheInvalidate _ arg tail => requestFits (commandPayload .cacheInvalidate arg tail)
  | .energyRelease _ arg tail => requestFits (commandPayload .energyRelease arg tail)
  | .clearError _ arg tail => requestFits (commandPayload .clearError arg tail)
  | .ackEvents _ arg tail => requestFits (commandPayload .ackEvents arg tail)
  | .mgmtWrite _ op object index field values =>
    requestFits (Request.bytes { op := op, object := object, index := index, field := field, values := values })
  | .potWrite _ pot field values => requestFits (writePayload .pot pot field values)
  | .potEnable _ pot extra => requestFits (writePayload .pot pot 0 (be32 1 ++ extra))
  | .potDisable _ pot extra => requestFits (writePayload .pot pot 0 (be32 0 ++ extra))
  | .automaticQuenchWrite _ pot values => requestFits (writePayload .pot pot 9 values)
  | .hlWrite _ index values => requestFits (writePayload .line index 8 values)
  | .aeHoldLimitWrite _ index values => requestFits (writePayload .line index 16 values)
  | .groupPresentWrite _ group values => requestFits (writePayload .group group 0 values)
  | .nodeAddressWrite _ group values => requestFits (writePayload .group group 1 values)
  | .stepLatchWrite _ group values => requestFits (writePayload .group group 6 values)
  | .stepClockWrite _ group values => requestFits (writePayload .group group 5 values)
  | .stageWrite _ stage field values => requestFits (writePayload .stage stage field values)
  | .eventsWrite _ kind field values => requestFits (writePayload .events kind field values)
  | .mgmtAddressWrite _ index field values => requestFits (writePayload .mgmtAddress index field values)
  | .stationDayEnd => true

end Sys2Proof
end

