-- ==== Sys2Proof/Tests/Slice0.lean ====
section
/-! SUPPORT. The model's own tests: the refusals of WellFormed, figures that the spec works out, and for every statement with hypotheses a
witness, a concrete state and operands that meet them, at a boundary where there is one. -/

namespace Sys2Proof.Tests

-- one theorem at a time: many at once need more threads than the stack sizes leave room for
set_option Elab.async false

open Machine

/-! ### Small states -/

/-- A header from `src` to the part. -/
def hd (src : Addr) (seq : Byte := 0) : Header := ⟨0x7E00, src, seq⟩

/-- A header of a passing frame. -/
def past (src : Addr) (seq : Byte := 0) : Header := ⟨0x0123, src, seq⟩

/-- A frame from `src` to `dest`. -/
def fr (dest src : Addr) (kind : Byte) (payload : List Byte) : Frame := { dest, src, kind, seq := 9, payload }

/-- A SUPERVISING part, 100 s after power-on. -/
def base : State := { State.reset with time := 100000, meu.mode := .supervising }

/-- The part in another mode. -/
def inMode (m : PartMode) (s : State := base) : State := { s with meu.mode := m }

/-- A change to the record of pot 0, which is RUNNING at the address of slot 0 of node 0x0010. -/
def withPot (f : Pot → Pot) (s : State := base) : State :=
  s.modPot 0 fun q => f { q with cfg.enabled := true, sup := .running, orderAddress := some (0x0010, 0), lastTime := 100000 }

/-- A change to the record of group 0, which is present at node 0x0200 and HELD. -/
def withGroup (f : Group → Group) (s : State := base) : State :=
  s.modGroup 0 fun q => f { q with
    cfg.present := true, cfg.node := 0x0200, cfg.rated := 13000, authority := .held, mode := .remote, stale := .fresh
    lastStatus := some 97000, cap := 13000 }

/-- The outcome is a next state. -/
def goesOn (o : Host.Outcome State Fault Refusal) : Bool :=
  match o with
  | .next _ => true
  | .fault _ => false
  | .refused _ => false

theorem next_of_goesOn {o : Host.Outcome State Fault Refusal} (h : goesOn o = true) : ∃ t, o = .next t := by
  cases o with
  | next t => exact ⟨t, rfl⟩
  | fault r => cases h
  | refused r => cases h

/-- A property of the next state. -/
def after (o : Host.Outcome State Fault Refusal) (f : State → Bool) : Bool :=
  match o with
  | .next t => f t
  | .fault _ => false
  | .refused _ => false

/-! ### WellFormed refuses an ill-formed term -/

theorem test_fits_refused : wellFormed (.lineSample (hd 1) 0 0 0 (List.replicate 53 0)) = false
    ∧ wellFormed (.lineSample (hd 1) 0 0 0 (List.replicate 52 0)) = true := by decide +kernel

theorem test_unread_refused : wellFormed (.framePassing (fr 2 1 0x10 [])) = false
    ∧ wellFormed (.framePassing (fr 2 1 0x31 [])) = true := by decide +kernel

theorem test_unknownOrShort_refused : wellFormed (.unknownKind (fr 2 1 0x31 [0, 0])) = false
    ∧ wellFormed (.unknownKind (fr 2 1 0x31 [0])) = true ∧ wellFormed (.unknownKind (fr 2 1 0x32 [0, 0])) = true := by
  decide +kernel

theorem test_requestFits_refused : wellFormed (.mgmtWrite (hd 1) 2 1 0 0 (List.replicate 56 0)) = false
    ∧ wellFormed (.start (hd 1) 0 []) = false ∧ wellFormed (.start (hd 1) 0 [0]) = true := by decide +kernel

theorem test_formFault_refused : wellFormed (.frameRejected (frameBytes (fr 2 1 0x31 [0, 0]))) = false
    ∧ wellFormed (.frameRejected [0]) = true := by decide +kernel

/-! ### Figures of the spec -/

/-- R157: the generator x^16 + x^12 + x^5 + 1 from all ones, over the digits 1 to 9 (the check value of that CRC). -/
theorem test_crc_of_digits : crc16 [0x31, 0x32, 0x33, 0x34, 0x35, 0x36, 0x37, 0x38, 0x39] = 0x29B1 := by decide +kernel

/-- R157: the bytes of a frame, DEST first and high bytes first. -/
theorem test_frame_bytes : (frameBytes (fr 0x7E05 0x0102 0x31 [3, 1])).take 9 = [0x7E, 0x05, 0x01, 0x02, 0x31, 9, 2, 3, 1] := by
  decide +kernel

/-- A line at 40000 cu, sampled just now, in the line state ENERGISED. -/
def withLine (il : Nat) (f : Line → Line) (s : State := base) : State :=
  { s with line := f { s.line with
      il := il, vl := 17000, sampleTime := some s.time, state := .energised, it := il
      cfg := { s.line.cfg with inom := 40000, if0 := 30000 } } }

/-- A POT-SAMPLE with the reading `vp` in slot 0 and no other. -/
def oneReading (vp : Half) (marker : Byte := 0) : Vector SlotReading 8 :=
  Vector.ofFn fun i => if i = 0 then ⟨vp, marker⟩ else ⟨0, 7⟩

/-- A DIRECT window over node 0x0010 whose slot 0 is pot 0. -/
def withWindow (s : State := base) : State :=
  { s with smap.windows := s.smap.windows.set 0 { enable := true, base := 0x0010, mask := 0, mode := .direct, indexBase := 0 } }

/-- Section 1.9: the frame from node 0x043A gives six readings in slot order and one map error. -/
theorem test_section_1_9 :
    let map := [(16, 200), (17, 201), (18, 202), (19, 203), (20, 204), (21, 205), (23, 205)]
    let s : State := { base with smap := { base.smap with
      windows := #v[{ enable := true, base := 0x0400, mask := 0x001F }, { enable := true, base := 0x0420, mask := 0x000F, indexBase := 256 },
        { enable := true, base := 0x0438, mask := 0x0007, mode := .mapped }, {}, {}, {}, {}, {}]
      potMap := Vector.ofFn fun i => (map.find? fun e => e.1 == i.val).map fun e => Fin.ofNat 384 e.2 } }
    let s := [200, 201, 203, 204, 205].foldl (fun (s : State) (p : Nat) => s.modPot (Fin.ofNat 384 p) fun q => { q with sup := .running }) s
    let slots := #v[⟨4180, 0⟩, ⟨4230, 0⟩, ⟨4090, 7⟩, ⟨4310, 0⟩, ⟨4260, 0⟩, ⟨4200, 0⟩, ⟨3950, 0⟩, ⟨4205, 0⟩]
    after (exec (.potSample (past 0x043A) 0 slots []) s) (fun t =>
      (t.pot 200).lastVoltage == 4180 && (t.pot 202).lastVoltage == 0 && (t.pot 204).lastVoltage == 4260
        && (t.pot 205).lastVoltage == 4205 && (t.pot 205).orderAddress == some (0x043A, 7)
        && t.meu.errors.code == some .mapInvalid && t.meu.errors.detail == ⟨0x043A, 6, 22⟩
        && t.port.buffer.map (fun r => (r.kind, r.subject, r.a, r.b)) == [(.mapError, 0x043A, 6, 22)]
        && t.smap.overlap == 0) = true := by decide +kernel

/-- Section 2.5: reading 31 steps Rf by the least step to 6119 and decides a RAISE with SEQ 40. The voltage gives R = 6105:
(4092 - 1650) × 100 000 / 40 000. -/
theorem test_section_2_5 :
    let s := withWindow (withLine 40000 id (withPot fun q => { q with rf := 6120, nf := 30, band := .low, dwell := 29 }))
    after (exec (.potSample (past 0x0010) 0 (oneReading 4092) []) { s with psu.seq := 40 }) (fun t =>
      (t.pot 0).rf == 6119 && (t.pot 0).dwell == 30 && t.psu.seq == 41 && t.psu.counters.raiseSent == 1
        && (t.pot 0).order == some ⟨.raise, 40, 100000, 0x0010, 0, false⟩
        && t.port.insert == [⟨0x0010, 0x7E00, 0x30, 40, [0, 1]⟩]) = true := by decide +kernel

/-- Section 3.7: the confirming reading of 31500 mV. -/
theorem test_section_3_7 :
    let log := (List.range 11).map fun n : Nat => ({ place := n, pot := 9, onsetDay := 0, onsetMs := 0, closed := true, vnorm := 0 } : AeRecord)
    let s := withWindow (withLine 39000 id (withPot (fun q =>
      { q with
        cfg.tqd := 5, ae := .suspect, lastTime := 5000800
        fx := { q.fx with quietVoltage := 4300, vnorm := 4300, onsetVoltage := 9200, qualificationEnd := some 5003800 } })
      { base with time := 5001600, aeu.log := log }))
    after (exec (.potSample (past 0x0010) 0 (oneReading 31500) []) s) (fun t =>
      (t.pot 0).ae == .active && t.aeu.count == 1 && (t.pot 0).fx.quenchDue == some 5006600 && (t.pot 0).logIndex == some 11
        && (t.aeu.trace.map fun r => (r.place, r.level, r.count)) == [(11, 36, 1), (11, 126, 1)]
        && ((t.aeu.log.getLast?.map fun r => (r.place, r.energy, r.peak)) == some (11, 2357, 31500))
        && (t.pot 0).fx.energyRemainder == 120000000 && t.egu.slot.aeEnergy == 2357) = true := by decide +kernel

/-- Section 4.9: the line sample, with the demand cap as the last minute of a slot keeps it. -/
theorem test_section_4_9 :
    let held (s : State) (g : Fin 8) : State := s.modGroup g fun q =>
      { q with cfg.present := true, authority := .held, stale := .fresh, cap := if g = 3 then 10500 else 12000 }
    let s := [0, 1, 2, 3].foldl held (withLine 39780 fun l =>
      { l with it := 40000, c := 30, sampleTime := some 99900, hd := 1000, player := { l.player with state := .playing, op := -3000 } })
    let s : State := { s with
      clu.ic := 46500
      egu := { s.egu with
        clock := some ⟨1, 1750000⟩
        slot := { s.egu.slot with number := some 0, cap := some 36705, entry := { limit := 330000, valid := true } } } }
    after (exec (.lineSample (past 0x0300) 0 39780 17000 []) s) (fun t =>
      t.line.hd == 600 && t.line.curtailing && t.line.it == 39980 && t.line.c == 33 && t.line.ig == 40013
        && [0, 1, 2, 3].map (fun g => (t.group g).wanted) == [10326, 10326, 10326, 9035]) = true := by decide +kernel

/-- The four groups of section 6.8. -/
def hot : State :=
  let curve : Vector CurvePoint 8 := #v[⟨0, 100⟩, ⟨350, 100⟩, ⟨400, 95⟩, ⟨450, 90⟩, ⟨500, 70⟩, ⟨550, 40⟩, ⟨600, 0⟩, ⟨600, 0⟩]
  let g (k : Fin 8) (teq : Int) (pct cap : Nat) (s : State) : State := s.modGroup k fun q =>
    { q with
      cfg.present := true, cfg.node := BitVec.ofNat 16 (0x200 + k.val), cfg.rated := 13000, authority := .held, mode := .remote
      stale := .fresh, lastStatus := some 100000, curve := curve, teq := some teq, pct := pct, cap := cap }
  let s := g 0 462 85 11050 (g 1 470 82 10660 (g 2 440 91 11830 (g 3 450 90 11700 base)))
  { s with clu := { s.clu with wanted := 2, running := 2, available := 4, counted := 2, ic := 45240, hottest := some 470 } }

/-- Section 6.8: the status of g1 with Tout 502 and Tsink 630. -/
theorem test_section_6_8_status :
    after (exec (.groupStatusFull (past 0x201) 1 100 10 0 502 630 500 []) hot) (fun t =>
      (t.group 1).teq == some 502 && (t.group 1).pct == 68 && (t.group 1).cap == 8840 && t.clu.ic == 43420
        && t.clu.hottest == some 502 && t.clu.upSince == some 100000) = true := by decide +kernel

/-- Section 6.8: the cooler can run stage 2 at most. -/
theorem test_section_6_8_shortfall :
    let s := hot.modGroup 1 fun q => { q with teq := some 502, pct := 68, cap := 8840 }
    let s := withLine 41000 id { s with clu := { s.clu with wanted := 3, running := 3, counted := 3, ic := 43420 }, meu.cooler := 0x500 }
    after (exec (.coolerStatus (past 0x500) 3 2 []) s) (fun t =>
      t.clu.counted == 2 && t.clu.pct == 90 && t.clu.ic == 39078 && t.line.it == 39078 && t.clu.confirmation == .confirmed
        && [0, 1, 2, 3].map (fun g => (t.group g).cap) == [9945, 7956, 10647, 10530]
        && t.port.buffer.map (fun r => (r.kind, r.a, r.b)) == [(.coolingShortfall, 3, 2)]) = true := by decide +kernel

/-- Section 7.9: the first sample of slot 9580. -/
theorem test_section_7_9_sample :
    let s := withLine 40000 (fun l => { l with sampleTime := some 99900 })
    let s : State := { s with egu.clock := some ⟨200, 50400100⟩, egu.slot.number := some 9580 }
    after (exec (.lineSample (past 0x0300) 0 40000 17000 []) s) (fun t =>
      t.egu.slot.es == 18888 && t.egu.remainder == 3200000 && t.egu.total == 18888) = true := by decide +kernel

/-- Sections 7.9 and 8.9: the calendar entry of slot 9580. -/
theorem test_section_8_9 :
    let old : TariffEntry := { rate := 3800, limit := 330000, cls := 4, valid := true }
    let tags := #v[9577, 9578, 9579, 9572, 9573, 9574, 9575, 9576]
    let s : State := { base with
      egu := { base.egu with
        clock := some ⟨200, 50402650⟩
        slot := { number := some 9580, es := 453333, entry := old, source := .fallback } }
      tru := { base.tru with
        cache := tags.map fun n => { valid := true, tag := n, index := BitVec.ofNat 16 (n - 8536) }
        pointer := 3, table := #v[some ⟨9580, 1044, 119, 97350, false⟩, none]
        lookup := { slot := some 9580, index := some 1044, source := .fallback, awaiting := true } } }
    after (exec (.calendarEntry (hd 0x600 119) 1044 9580 1 6 4550 330000 []) s) (fun t =>
      t.egu.slot.costedMark == 453333 && t.egu.slot.cost == 1723 && t.egu.slot.source == .mixed && t.egu.slot.entry.rate == 4550
        && t.tru.cache.toList.map CachePlace.tag == [9577, 9578, 9579, 9580, 9573, 9574, 9575, 9576] && t.tru.pointer == 4
        && t.tru.lookup.awaiting == false && t.tru.table == #v[none, none]) = true := by decide +kernel

/-- Section 7.9: the close of slot 9580. -/
theorem test_section_7_9_close :
    let s : State := { base with
      egu.clock := some ⟨200, 52200000⟩
      egu.slot := { number := some 9580, es := 330002100, costedMark := 453333, cost := 1723, source := .mixed
                    entry := { rate := 4550, limit := 330000, cls := 6, valid := true } } }
    after (exec .slotEnd s) (fun t =>
      t.egu.queue.map (fun r => (r.number, r.energy, r.cost, r.overrun, r.cls)) == [(some 9580, 330002100, 1501170, 2100, 6)]
        && t.egu.slot.number == some 9581 && t.egu.slot.es == 0
        && t.port.buffer.map (fun r => (r.kind, r.subject, r.a, r.b)) == [(.demandOverrun, 9580, 2, 65535)]) = true := by
  decide +kernel

/-- Section 7.10: a backward time step. -/
theorem test_section_7_10 :
    let s : State := { base with egu.clock := some ⟨200, 68410000⟩, egu.slot := { number := some 9590, es := 1888888 } }
    after (exec (.timeMark (past 0x1) 200 68395000 []) s) (fun t =>
      t.egu.clock == some ⟨200, 68395000⟩ && t.egu.slot.number == some 9589 && t.egu.slot.timeStep
        && t.egu.queue.map (fun r => (r.number, r.energy, r.timeStep)) == [(some 9590, 1888888, true)]
        && t.port.buffer.map (fun r => (r.kind, r.subject, r.a, r.b)) == [(.timeStep, 9589, 15, 2)]) = true := by decide +kernel

/-- Section 11.4: the claims of a takeover in group order, with g3 a fixed load. -/
theorem test_section_11_4 :
    let g (k : Fin 8) (reported cap : Nat) (auto : Bool) (s : State) : State := s.modGroup k fun q =>
      { q with
        cfg.present := true, cfg.node := BitVec.ofNat 16 (0x200 + k.val), cfg.autoclaim := auto, mode := .remote, stale := .fresh
        lastStatus := some 100000, reported := reported, confirmed := reported, cap := cap }
    let s := withLine 39000 fun l => { l with it := 39500, ig := 39500 }
    let t := (g 0 9800 12000 true (g 1 9750 12000 true (g 2 9700 12000 true (g 3 9750 10500 false s)))).claimAll
    [0, 1, 2, 3].map (fun g => (t.group g).wanted) = [9917, 9917, 9916, 0]
      ∧ [0, 1, 2, 3].map (fun g => (t.group g).authority) = [.held, .held, .held, .released]
      ∧ t.port.insert = [] := by decide +kernel

/-! ### Records of the small states -/

theorem base_pot (p : Fin 384) : base.pot p = {} := by simp [State.pot, base, State.reset, State.powerOn]

theorem withPot_pot (f : Pot → Pot) (s : State) (p : Fin 384) (h : p ≠ 0) : (withPot f s).pot p = s.pot p := by
  have hv : (0 : Fin 384).val ≠ p.val := fun e => h (Fin.ext e.symm)
  exact Vector.getElem_set_ne (by decide) p.isLt hv

theorem find_rowsFor {n : Nat} {due : Fin n → Bool} {row : Fin n → Instr} (h : ∀ k, due k = false) :
    ((rowsFor due row).find? fun e => e.1) = none := by simp [rowsFor, List.find?_eq_none, h]

/-- The timers that are no pot's. -/
def otherExpiries (s : State) : List (Bool × Instr) :=
  [(s.deferralDue, .deferralTimerExpiry)] ++ [(s.tripDue, .lineTrip), (s.stepEndDue, .stepEnd)]
    ++ rowsFor s.stepTimerDue .stepTimer ++ rowsFor s.orderTimeoutDue .groupOrderTimeout ++ rowsFor s.holdingDue .groupHolding
    ++ rowsFor s.silentDue .groupSilent
    ++ [(s.stageUpDue, .stageUp), (s.stageDownDue, .stageDown), (s.coolerDue, .coolerNoResponse), (s.slotEndDue, .slotEnd),
      (s.prefetchDue, .prefetch)]
    ++ rowsFor s.fetchDue .fetchTimeout ++ [(s.takeoverDue, .takeover), (s.dayEndDue, .stationDayEnd)]

/-- With every pot at its power-on record only the other timers can be due. -/
theorem dueEvent_of_pots {s : State} (h : ∀ p, s.pot p = {}) :
    s.dueEvent = ((otherExpiries s).find? fun e => e.1).map fun e => e.2 := by
  have h1 : ∀ p, s.potLostDue p = false := fun p => by simp [State.potLostDue, h, Supervision.worked]
  have h2 : ∀ p, s.inhibitEndDue p = false := fun p => by simp [State.inhibitEndDue, h, reached]
  have h3 : ∀ p, s.adviceExpiryDue p = false := fun p => by simp [State.adviceExpiryDue, h]
  have h4 : ∀ p, s.qualificationDue p = false := fun p => by simp [State.qualificationDue, h]
  have h5 : ∀ p, s.quenchReady (s.pot p) = false := fun p => by simp [State.quenchReady, h]
  have h6 : ∀ p, s.quenchTimeoutDue p = false := fun p => by simp [State.quenchTimeoutDue, h]
  have h7 : ∀ p, s.clearEndDue p = false := fun p => by simp [State.clearEndDue, h]
  simp only [State.dueEvent, State.expiries, otherExpiries, List.find?_append, find_rowsFor h1, find_rowsFor h2, find_rowsFor h3, find_rowsFor h4,
    find_rowsFor h5, find_rowsFor h6, find_rowsFor h7, Option.or_none]

/-! ### Witnesses: the part and its queue of commands -/

theorem test_StepTakesFrontCommand : ({ base with pending := [.lineTrip, .ringOutSend] } : State).pending = .lineTrip :: [.ringOutSend] := rfl

theorem test_EmptyQueueTakesExpiryOrPassesOneMs :
    ({ base with resetLow := true } : State).pending = [] ∧ base.resetLow = false
      ∧ ({ base with line.tripWatch := some 99000 } : State).dueEvent = some .lineTrip
      ∧ base.dueEvent = none ∧ base.egu.clock = none
      ∧ ({ base with egu.clock := some ⟨1, 86399999⟩ } : State).dueEvent = none
      ∧ ({ base with egu.clock := some ⟨366, 86400000⟩ } : State).dueEvent = none
      ∧ ({ base with time := 99999 } : State).dueEvent = none ∧ (base.group 0).cfg.latch ≠ 0
      ∧ (99999 + 1) % (base.group 0).cfg.clock.period = 0 := by
  rw [dueEvent_of_pots (s := { base with line.tripWatch := some 99000 }) base_pot, dueEvent_of_pots (s := base) base_pot,
    dueEvent_of_pots (s := { base with egu.clock := some ⟨1, 86399999⟩ }) base_pot,
    dueEvent_of_pots (s := { base with egu.clock := some ⟨366, 86400000⟩ }) base_pot,
    dueEvent_of_pots (s := { base with time := 99999 }) base_pot]
  decide +kernel

theorem test_ResetLineBypassesAndReleases :
    ({ base with resetLow := true } : State).resetLow = true ∧ rowBytes (.framePassing (fr 2 1 0x31 [])) ≠ none
      ∧ rowBytes .lineTrip = none ∧ base.resetLow = false := by decide +kernel

/-! ### Witnesses: the laws -/

/-- A profile plays, and pot 0 is QUENCHING with a record and an order. -/
def quenching : State :=
  withPot (fun q =>
      { q with
        ae := .quenching, logIndex := some 4, attempts := 1
        order := some { kind := .quench, seq := 8, sent := 99000, dest := 0x10, slot := 0, unsent := false } })
    (withLine 12000 fun l =>
      { l with
        ae.holdLimit := 1, aeHold := true, hd := 3600000, heatRecovery := true
        player := { l.player with state := .playing, profile := some 2, stepEnd := some 100001, op := -500 } })

/-- A part in the middle of its work: beside that, group 0 is PENDING at the whole group command, energy has flowed, a fetch is in flight and a LINE-SAMPLE waits. -/
def worked : State :=
  let s := withGroup (fun q =>
    { q with
      authority := .pendingWatched, watcher := some 0x700, confirmed := 9000, wanted := 9500
      order := some { setpoint := 9500, seq := 3, sent := 99900, withdraw := false, unsent := false } }) quenching
  { s with
    pending := [.lineSample (past 0x0300) 0 12000 17000 []]
    clu.ic := 13000
    line.ig := 9500
    aeu := { s.aeu with
      count := 1
      log := [{ place := 4, pot := 0, onsetDay := 0, onsetMs := 0, vnorm := 4300, runCount := 1, samples := 3 }]
      trace := [{ place := 4, level := 36, count := 3 }] }
    egu := { s.egu with
      total := 10, released := 1, lost := 2, slot.es := 3
      queue := [{ slotRecord {} with energy := 4 }] }
    tru := { s.tru with
      cache := s.tru.cache.set 0 { valid := true, tag := 7 }
      table := #v[some ⟨5, 9, 1, 99000, false⟩, none]
      lookup := { slot := some 5, index := some 9, source := .default, awaiting := true } }
    meu := { s.meu with
      errors := { s.meu.errors with err := true, code := some .mapRange }
      events := s.meu.events.set 0 { pending := true, count := 1 }, alarm := true } }

theorem test_worked_steps : ∃ t, step worked = .next t := next_of_goesOn (by decide +kernel)

theorem test_EnergyIsConserved : energyLaw worked ∧ ∃ t, step worked = .next t :=
  ⟨by unfold energyLaw; decide +kernel, test_worked_steps⟩

theorem test_AlarmLineAndErrorLogKeepTheirLaws : alarmLaw worked ∧ worked.meu.errors.err = true
    ∧ (∃ t, step worked = .next t) ∧ after (step worked) (fun t => t.meu.errors.err) = true :=
  ⟨by unfold alarmLaw; decide +kernel, by decide +kernel, test_worked_steps, by decide +kernel⟩

theorem test_LineLawsAreKept :
    targetLaw worked ∧ holdLaw worked ∧ heatLaw worked ∧ playerLaw worked ∧ allocationLaw worked ∧ ∃ t, step worked = .next t :=
  ⟨by unfold targetLaw; decide +kernel, by unfold holdLaw; decide +kernel, by unfold heatLaw; decide +kernel,
    by unfold playerLaw; dsimp only; decide +kernel, by unfold allocationLaw; decide +kernel, test_worked_steps⟩

theorem worked_pot (p : Fin 384) (h : p ≠ 0) : worked.pot p = {} := by
  show quenching.pot p = {}
  rw [quenching, withPot_pot _ _ p h]
  exact base_pot p

theorem test_AeCountIsTheNumberOfPots : countLaw worked ∧ potLaw worked ∧ ∃ t, step worked = .next t := by
  refine ⟨?_, fun p => ?_, test_worked_steps⟩
  · have h : ∀ p, (worked.pot p).ae.counted = decide (p = 0) := fun p => by
      by_cases hp : p = 0
      · subst hp; decide +kernel
      · simp [worked_pot p hp, hp, AeState.counted]
    simp only [countLaw, h]
    decide +kernel
  · by_cases hp : p = 0
    · subst hp; decide +kernel
    · simp [worked_pot p hp]

theorem test_LogAndTraceAgree : logLaw worked ∧ ∃ t, step worked = .next t := by
  have hl : worked.aeu.log = [{ place := 4, pot := 0, onsetDay := 0, onsetMs := 0, vnorm := 4300, runCount := 1, samples := 3 }] := by
    decide +kernel
  have hi : (worked.pot 0).logIndex = some 4 ∧ (worked.pot 0).ae = .quenching := by decide +kernel
  refine ⟨⟨by decide +kernel, by decide +kernel, by decide +kernel, by decide +kernel, fun p => ?_, fun p pl => ?_⟩, test_worked_steps⟩
  · by_cases hp : p = 0
    · subst hp; simp [hi]
    · simp [worked_pot p hp]
  · by_cases hp : p = 0
    · subst hp; simp [hl, hi]
    · simp [worked_pot p hp, hl, Ne.symm hp]

theorem test_ReleasedGroupsHaveNoOrder : groupLaw worked ∧ ∃ t, step worked = .next t :=
  ⟨by unfold groupLaw; decide +kernel, test_worked_steps⟩

theorem test_CacheTagsAndFetchesAreDistinct : cacheLaw worked ∧ ∃ t, step worked = .next t := by
  refine ⟨⟨by decide +kernel, by decide +kernel, fun e he => ?_⟩, test_worked_steps⟩
  rw [show worked.tru.waitList = [] by decide +kernel] at he
  cases he

theorem test_QueuesStayWithinTheirPlaces : boundsLaw worked ∧ addressLaw worked ∧ ∃ t, step worked = .next t :=
  ⟨by unfold boundsLaw; decide +kernel, by unfold addressLaw; decide +kernel, test_worked_steps⟩

theorem test_StepsLeaveNothingToAdmitOrDecide : worked.Settled ∧ worked.Regulated ∧ ∃ t, step worked = .next t :=
  ⟨by decide +kernel, by unfold State.Regulated; decide +kernel, test_worked_steps⟩

/-! ### Witnesses: frames and the ring port -/

theorem test_FramesAreReadBackFromTheirBytes : (fr 2 1 0x99 (List.replicate 60 7)).payload.length ≤ 60
    ∧ (fr 2 1 0x99 []).payload.length ≤ 60 := by decide +kernel

theorem test_RowsDoWhatTheirBytesDo :
    rowFrame (.potAnswer (hd 1) 1 2 (List.replicate 58 0)) = some ⟨0x7E00, 1, 0x31, 0, 1 :: 2 :: List.replicate 58 0⟩
      ∧ (1 :: 2 :: List.replicate 58 (0 : Byte)).length ≤ 60
      ∧ rowFrame (.start (hd 1) 0 []) = some ⟨0x7E00, 1, 0x70, 0, [3, 1, 0, 0]⟩ := by decide +kernel

theorem test_ArrivingBytesAreTestedInOrder :
    let good := frameBytes (fr 2 1 0x99 [5])
    let mine := frameBytes (fr 2 0x7E00 0x99 [])
    base.resetLow = false ∧ (List.replicate 8 (0 : Byte)).length < 9 ∧ 69 < (List.replicate 70 (0 : Byte)).length
      ∧ 60 < ((List.replicate 69 (61 : Byte)).getD 6 0).toNat ∧ (List.replicate 10 (0 : Byte)).length ≠ 0 + 9
      ∧ ¬(List.replicate 9 (0 : Byte)).length < 9 ∧ (0 : Half) ≠ crc16 (List.replicate 7 0)
      ∧ good.length = 10 ∧ good.getD 8 0 ++ good.getD 9 0 = crc16 (good.take 8) ∧ good.getD 2 0 ++ good.getD 3 0 ≠ base.address
      ∧ mine.getD 7 0 ++ mine.getD 8 0 = crc16 (mine.take 7) ∧ mine.getD 2 0 ++ mine.getD 3 0 = base.address := by decide +kernel

theorem test_UnreadFramesAreForwardedOrCounted : base.resetLow = false ∧ (1 : Addr) ≠ base.address ∧ (2 : Addr) ≠ base.address
    ∧ (∀ k : TakenKind, (0x31 : Byte) = k.code → k.passing = false) ∧ (∀ k : TakenKind, (0x32 : Byte) ≠ k.code)
    ∧ (0x11 : Byte) = TakenKind.lineSample.code ∧ (List.replicate 7 (0 : Byte)).length < TakenKind.lineSample.length
    ∧ TakenKind.lineSample.passing = true := by
  refine ⟨rfl, by decide, by decide, fun k => ?_, fun k => ?_, rfl, by decide, rfl⟩ <;> cases k <;> decide

theorem test_RingOutSendsByWaitCount :
    let f := fr 2 1 0x99 []
    let both (n : Nat) : State := { base with port := { base.port with forward := [f], insert := [f], waitCount := n } }
    base.resetLow = false ∧ base.port.forward = [] ∧ base.port.insert = []
      ∧ ({ base with port.forward := [f, f] } : State).port.forward = f :: [f] ∧ (both 1).port.waitCount < 2
      ∧ ({ base with port.insert := [f] } : State).port.insert = f :: [] ∧ 2 ≤ (both 2).port.waitCount := by decide +kernel

theorem test_ArbiterAdmitsInRotation : ({ base with meu.sendList := [fr 2 1 0x71 []] } : State).nextSource = some .meu := by
  decide +kernel

theorem test_EventRecordsEnterTheBuffer :
    let info : EventRecord := ⟨.demandCap, 0, 0, 0, 0, 0⟩
    let minor : EventRecord := ⟨.mapError, 0, 0, 0, 0, 0⟩
    (List.replicate 47 minor).length < 48 ∧ 48 ≤ (List.replicate 48 minor).length ∧ info.kind.level = .info
      ∧ minor.kind.level ≠ .info ∧ (minor :: info :: List.replicate 46 minor) = [minor] ++ info :: List.replicate 46 minor
      ∧ (∀ y ∈ [minor], y.kind.level ≠ .info) ∧ (∀ y ∈ List.replicate 48 minor, y.kind.level ≠ .info) := by decide +kernel

theorem test_RaisedEventsMarkTheirKind : base.Settled ∧ base.port.buffer = [] ∧ base.port.deferralFlag = false
    ∧ EventKind.lineTrip.level = .urgent ∧ EventKind.groupSilent.level ≠ .urgent ∧ (1 : Fin 26) ≠ EventKind.aeOnset.index := by
  decide +kernel

theorem test_DeferralTimerSendsTheReport :
    let r : EventRecord := ⟨.mapError, 0, 0, 0, 0, 0⟩
    let s : State := { base with port := { base.port with buffer := [r, r, r], deferral := some 100000 } }
    s.resetLow = false ∧ s.Settled ∧ s.port.deferral = some 100000 ∧ s.port.buffer ≠ [] ∧ s.port.insert.length < 32
      ∧ s.port.reports < 24 ∧ ({ base with port.deferral := some 100000 } : State).Settled := by decide +kernel

/-! ### Witnesses: section map and pots -/

theorem withPot_rest (f : Pot → Pot) (p : Fin 384) (h : p ≠ 0) : (withPot f).pot p = {} := (withPot_pot f base p h).trans (base_pot p)

theorem answers_zero {s : State} {src : Addr} {slot seq : Byte}
    (h0 : (s.pot 0).answeredBy src slot.toNat seq = true) : s.answers 0 src slot seq = true := by
  simp [State.answers, h0]

theorem test_PotSamplesAreTranslatedSlotBySlot :
    let w : SectionWindow := { enable := true, base := 0x0010, mask := 0x0003, mode := .direct, indexBase := 352 }
    let hit (s : State) (src : Addr) := s.smap.windows.toList.filter fun w => w.enable && ((src ^^^ w.base) &&& ~~~w.mask) == 0
    let s : State := { base with smap.windows := base.smap.windows.set 2 w }
    let both : State := { s with smap.windows := s.smap.windows.set 5 w }
    base.takes (past 0x0010) .potSample = true ∧ (List.replicate 32 (0 : Byte)).length ≤ 32 ∧ (inMode .forwardOnly).meu.mode = .forwardOnly
      ∧ base.meu.mode ≠ .forwardOnly ∧ hit base 0x0010 = [] ∧ hit s 0x0013 = w :: [] ∧ hit both 0x0010 = w :: [w] ∧ hit s 0x0014 = []
      -- the last index that is a pot's, and the first that is none
      ∧ w.indexBase + ((0x0013 : Addr) &&& w.mask).toNat * 8 + 7 = 383
      ∧ { w with indexBase := 353 }.indexBase + ((0x0013 : Addr) &&& w.mask).toNat * 8 + 7 = 384
      ∧ { w with mode := MapMode.mapped, indexBase := 480 }.indexBase + ((0x0013 : Addr) &&& w.mask).toNat * 8 + 7 = 511
      ∧ { w with mode := MapMode.mapped, indexBase := 481 }.indexBase + ((0x0013 : Addr) &&& w.mask).toNat * 8 + 7 = 512 := by
  decide +kernel

/-- A RUNNING, QUIET pot 0 with a computable reading at its window. -/
def readable (f : Pot → Pot := id) : State :=
  withWindow (withPot (fun q => f { q with cfg.advice := false, rf := 6000, nf := 30 }) (withLine 40000 id))

theorem test_QuietReadingsStepTheFilters :
    readable.takes (past 0x0010) .potSample = true ∧ readable.readsOne (past 0x0010) (oneReading 7999) 0 0 = true
      ∧ readable.computable = true ∧ (readable.pot 0).sup = .running ∧ (readable.pot 0).ae = .quiet
      ∧ (readable.pot 0).cfg.advice = false ∧ (oneReading 7999)[(0 : Fin 8)].voltage.toNat < readable.onsetThreshold (readable.pot 0)
      ∧ ¬(8000 < readable.onsetThreshold (readable.pot 0)) ∧ (oneReading 7999)[(0 : Fin 8)].voltage.toNat ≤ readable.line.ae.vmax := by
  decide +kernel

theorem test_ReadingsOfPotsCutOut :
    let by_ := readable fun q => { q with sup := .bypassing }
    let bd := readable fun q => { q with sup := .bypassed, parked := some 180 }
    let un := readable fun q => { q with sup := .unconfigured }
    by_.takes (past 0x0010) .potSample = true ∧ by_.readsOne (past 0x0010) (oneReading 999) 0 0 = true ∧ (by_.pot 0).sup = .bypassing
      ∧ (oneReading 999)[(0 : Fin 8)].voltage.toNat < 1000 ∧ 1000 ≤ (oneReading 1000)[(0 : Fin 8)].voltage.toNat
      ∧ by_.readsOne (past 0x0010) (oneReading 1000) 0 0 = true
      ∧ (bd.pot 0).sup = .bypassed ∧ (bd.pot 0).parked = some 180 ∧ bd.readsOne (past 0x0010) (oneReading 680) 0 0 = true
      ∧ (((oneReading 680)[(0 : Fin 8)].voltage.toNat : Int) - 180).natAbs ≤ 500
      ∧ 500 < (((oneReading 681)[(0 : Fin 8)].voltage.toNat : Int) - 180).natAbs
      ∧ (un.pot 0).sup = .unconfigured ∧ un.readsOne (past 0x0010) (oneReading 1000) 0 0 = true := by decide +kernel

/-- An order of pot 0 to slot 0 of node 0x0010. -/
def potOrder (k : OrderKind) (sent : Nat := 99000) : PotOrder :=
  { kind := k, seq := 8, sent := sent, dest := 0x0010, slot := 0, unsent := false }

theorem test_AnswersClearPotOrders (k : OrderKind) :
    let s := withPot fun q => { q with order := some (potOrder k) }
    s.takes (hd 0x0010 8) .potAnswer = true ∧ (List.replicate 58 (0 : Byte)).length ≤ 58 ∧ (s.pot 0).order = some (potOrder k)
      ∧ s.answers 0 0x0010 0 8 = true ∧ OrderKind.raise ≠ .quench ∧ (3 : Byte) ≠ 1 ∧ (0 : Byte) ≠ 2 := by
  cases k <;> exact ⟨by decide +kernel, by decide, by decide +kernel, answers_zero (by decide +kernel),
    by decide, by decide, by decide⟩

theorem test_LatePotAnswersAreOnlyCounted :
    let s := withPot fun q => { q with order := some (potOrder .raise) }
    s.takes (hd 0x0010 7) .potAnswer = true ∧ (∀ p, (s.pot p).answeredBy 0x0010 0 7 = false)
      ∧ (s.pot 0).orderAddress = some (0x0010, 0) ∧ (∀ p', p' < 0 → (s.pot p').orderAddress ≠ some (0x0010, 0))
      ∧ (∀ p, (base.pot p).answeredBy 0x0010 0 7 = false) ∧ ∀ p, (base.pot p).orderAddress ≠ some (0x0010, 0) := by
  refine ⟨by decide +kernel, fun p => ?_, by decide +kernel, fun p' h => absurd h (Fin.not_lt_zero p'), fun p => ?_, fun p => ?_⟩
  · by_cases hp : p = 0
    · subst hp; decide +kernel
    · rw [withPot_rest _ p hp]; rfl
  · rw [base_pot]; rfl
  · rw [base_pot]; decide

theorem test_DeclinedQuenchRestartsOrPersists (attempts : Fin 3) :
    let s := withPot fun q => { q with ae := .quenching, attempts := attempts, order := some (potOrder .quench) }
    s.takes (hd 0x0010 8) .potAnswer = true ∧ (s.pot 0).order = some (potOrder .quench) ∧ (potOrder .quench).kind = .quench
      ∧ s.answers 0 0x0010 0 8 = true ∧ s.Settled ∧ (s.pot 0).ae = .quenching ∧ (s.pot 0).attempts = attempts
      ∧ 0 < (s.pot 0).cfg.tqd := by
  refine ⟨?_, ?_, rfl, answers_zero ?_, ?_, ?_, ?_, ?_⟩ <;> revert attempts <;> decide +kernel

theorem test_DeclinedQuenchInClearing :
    let s := withPot fun q => { q with ae := .clearing, attempts := 1, order := some (potOrder .quench) }
    s.takes (hd 0x0010 8) .potAnswer = true ∧ (s.pot 0).order = some (potOrder .quench) ∧ s.answers 0 0x0010 0 8 = true ∧ s.Settled
      ∧ (s.pot 0).ae = .clearing :=
  ⟨by decide +kernel, by decide +kernel, answers_zero (by decide +kernel), by decide +kernel, by decide +kernel⟩

theorem test_PotTimersEndOrdersInhibitsAndOnsets :
    let s := withPot fun q =>
      { q with
        ae := .suspect, inhibitUntil := some 100000, order := some (potOrder .check 80000)
        fx := { q.fx with qualificationEnd := some 100000 } }
    s.resetLow = false ∧ (s.pot 0).order = some (potOrder .check 80000) ∧ (potOrder .check 80000).kind ≠ .quench
      ∧ (potOrder .check 80000).sent + 20000 ≤ s.time ∧ (s.pot 0).inhibitUntil = some 100000 ∧ 100000 ≤ s.time
      ∧ s.meu.mode ≠ .forwardOnly ∧ (s.pot 0).ae = .suspect ∧ (s.pot 0).fx.qualificationEnd = some 100000 := by decide +kernel

theorem test_SilentPotsAreLost :
    let s (a : AeState) := withPot fun q => { q with ae := a, lastTime := 90000, logIndex := some 3 }
    (s .quiet).resetLow = false ∧ (s .quiet).meu.mode ≠ .forwardOnly ∧ ((s .quiet).pot 0).sup = .running
      ∧ ((s .quiet).pot 0).lastTime + 10000 ≤ (s .quiet).time ∧ ((s .quiet).pot 0).ae = .quiet ∧ (s .active).Settled
      ∧ ((s .active).pot 0).ae.counted = true ∧ ((s .active).pot 0).logIndex = some 3 ∧ ((s .clearing).pot 0).ae = .clearing := by
  decide +kernel

theorem test_QuenchDueDecidesAnOrder :
    let s := withPot fun q => { q with ae := .active, fx := { q.fx with quenchDue := some 100000 } }
    s.resetLow = false ∧ s.Settled ∧ (s.pot 0).ae = .active ∧ (s.pot 0).fx.quenchDue = some 100000 ∧ 100000 ≤ s.time
      ∧ (s.pot 0).cfg.autoQuench = true ∧ (s.pot 0).fx.persistent = false ∧ s.meu.mode = .supervising
      ∧ (s.pot 0).orderAddress = some (0x0010, 0) := by decide +kernel

theorem test_QuenchTimeoutReordersOrPersists :
    let s (n : Nat) (auto : Bool) := withPot fun q =>
      { q with
        ae := .quenching, attempts := n, cfg.autoQuench := auto, order := some (potOrder .quench)
        fx := { q.fx with quenchTimeout := some 100000 } }
    (s 1 true).resetLow = false ∧ (s 1 true).Settled ∧ (s 1 true).meu.mode = .supervising ∧ ((s 1 true).pot 0).ae = .quenching
      ∧ ((s 1 true).pot 0).fx.quenchTimeout = some 100000 ∧ ((s 1 true).pot 0).attempts < 2
      ∧ ((s 1 true).pot 0).cfg.autoQuench = true ∧ ((s 1 true).pot 0).orderAddress = some (0x0010, 0)
      ∧ ((s 1 false).pot 0).attempts < 2 ∧ ((s 1 false).pot 0).cfg.autoQuench = false ∧ (s 1 false).Settled
      ∧ 2 ≤ ((s 2 true).pot 0).attempts ∧ (s 2 true).Settled ∧ ((s 2 true).pot 0).order = some (potOrder .quench) := by decide +kernel

theorem test_ClearEndEndsTheEffect :
    let s := withPot fun q => { q with ae := .clearing, logIndex := some 3, fx := { q.fx with clearEnd := some 100000 } }
    s.resetLow = false ∧ s.Settled ∧ s.meu.mode ≠ .forwardOnly ∧ (s.pot 0).ae = .clearing ∧ (s.pot 0).fx.clearEnd = some 100000
      ∧ 100000 ≤ s.time := by decide +kernel

/-! ### Witnesses: line -/

theorem test_LineSampleComposesTheTarget :
    let s := withGroup (fun q => { q with stale := .fresh }) (withLine 40000 id)
    let low := withLine 40000 fun l => { l with it := 39999 }
    let tripped := withLine 40000 fun l => { l with state := .tripped }
    s.takes (past 0x0300) .lineSample = true ∧ (List.replicate 52 (0 : Byte)).length ≤ 52 ∧ s.Settled ∧ s.meu.mode ≠ .forwardOnly
      ∧ (inMode .forwardOnly s).meu.mode = .forwardOnly ∧ (inMode .forwardOnly s).Settled ∧ s.line.state ≠ .tripped
      ∧ s.line.cfg.inom ≤ s.line.it ∧ low.line.it < low.line.cfg.inom ∧ low.Settled
      ∧ tripped.line.state = .tripped ∧ tripped.Settled
      ∧ s.line.cfg.imin ≤ (40000 : Half).toNat ∧ s.meu.mode = .supervising ∧ s.aeu.count = 0 ∧ (s.group 0).available = true := by
  decide +kernel

theorem test_LineSampleAddsEnergyAndWorksTheCap :
    let s (ms : Nat) : State := { withLine 40000 id with
      egu.clock := some ⟨1, ms⟩, egu.slot := { number := some 0, entry := { limit := 1, valid := true } } }
    let left (ms : Nat) : Nat := 1800000 - ms % 1800000
    (s 0).takes (past 0x0300) .lineSample = true ∧ (s 0).meu.mode ≠ .forwardOnly ∧ (s 0).Settled ∧ (s 1740000).Settled
      ∧ base.egu.slot.number = none ∧ (s 0).egu.clock = some ⟨1, 0⟩ ∧ (0 : Nat) < 86400000
      ∧ (s 0).egu.slot.number = some ((1 - 1) * 48 + 1740000 / 1800000) ∧ (s 0).egu.slot.entry.limit ≠ 0
      ∧ left 1740000 ≤ 60000 ∧ 60000 < left 1739999 ∧ (17000 : Half) ≠ 0 ∧ (s 0).line.state ≠ .tripped := by decide +kernel

theorem test_AllocationSharesTheCommand : (inMode .forwardOnly).meu.mode = .forwardOnly ∧ base.meu.mode ≠ .forwardOnly
    ∧ ((withGroup id).group 0).available = true ∧ ((withGroup id).group 1).available = false := by decide +kernel

theorem test_LineTripZeroesAndLineRestartRestores :
    let s := withGroup id (withLine 1000 fun l => { l with it := 40000, tripWatch := some 99000 })
    let tripped := withLine 1000 fun l => { l with state := .tripped }
    s.resetLow = false ∧ s.meu.mode ≠ .forwardOnly ∧ s.line.tripWatch = some 99000 ∧ 99000 + 1000 ≤ s.time ∧ s.Settled
      ∧ (s.group 0).available = true ∧ s.line.state ≠ .tripped ∧ tripped.line.state = .tripped ∧ tripped.Settled
      ∧ s.admits (hd 1) (commandPayload .lineRestart 0 [0]) = true ∧ tripped.admits (hd 1) (commandPayload .lineRestart 0 [0]) = true := by
  decide +kernel

/-- A request from node 1 with any payload that fits is admitted by `base`. -/
theorem base_admits {p : List Byte} (h : 5 ≤ p.length) (h' : p.length ≤ 60) : base.admits (hd 1) p = true := by
  simp [State.admits, base, State.reset, State.powerOn, hd, Config.addressBase, Config.payloadMax, Config.replyPlaces, h, h', Meu.admits]

theorem test_ProfilePlayerTakesItsCommands :
    let s (x : PlayerState) : State := withLine 40000 fun l =>
      { l with player := { l.player with
          state := x, profile := some 2, step := 254, last := false, stepEnd := some 100000, remaining := some 5 } }
    let last : State := withLine 40000 fun l =>
      { l with player := { l.player with state := .playing, profile := some 2, step := 255, last := false, stepEnd := some 100000 } }
    (∀ c ∈ [Command.profilePlay, .profileHold, .profileResume, .profileStop], (s .playing).admits (hd 1) (commandPayload c 7 [0]) = true)
      ∧ (s .playing).Settled ∧ base.Settled ∧ 8 ≤ (8 : Half).toNat ∧ (7 : Half).toNat < 8 ∧ (s .playing).line.player.state ≠ .idle
      ∧ base.line.player.state = .idle ∧ base.line.state ≠ .tripped ∧ base.meu.mode ≠ .forwardOnly
      ∧ base.admits (hd 1) (commandPayload .profilePlay 7 [0]) = true ∧ base.line.player.state ≠ .playing
      ∧ (s .playing).line.player.stepEnd = some 100000 ∧ base.line.player.state ≠ .held ∧ (s .held).line.player.state = .held
      ∧ (s .held).line.player.remaining = some 5 ∧ (s .held).Settled
      ∧ (s .held).admits (hd 1) (commandPayload .profileResume 0 [0]) = true
      ∧ (s .playing).resetLow = false ∧ (s .playing).meu.mode ≠ .forwardOnly ∧ (s .playing).line.player.profile = some 2
      ∧ 100000 ≤ (s .playing).time ∧ (s .playing).line.player.last = false ∧ (255 : Fin 256).val = (s .playing).line.player.step.val + 1
      ∧ last.line.player.step = 255 ∧ last.line.player.state = .playing := by decide +kernel

/-! ### Witnesses: groups -/

/-- The conditions that group 0 is the one meant by a frame from node 0x0200. -/
def isGroup (s : State) : Bool :=
  (s.group 0).cfg.present && (s.group 0).cfg.node == 0x0200
    && decide (∀ g' : Fin 8, g' < 0 → (s.group g').cfg.present = true → (s.group g').cfg.node ≠ 0x0200)

theorem test_FullStatusIsRecordedAndRated :
    let s (f : Group → Group) := withGroup f
    (s id).takes (past 0x0200) .statusFull = true ∧ (List.replicate 48 (0 : Byte)).length ≤ 48 ∧ (s id).meu.mode ≠ .forwardOnly
      ∧ (s id).Settled ∧ (∀ g, ((s id).group g).cfg.present = true → ((s id).group g).cfg.node ≠ 0x0201) ∧ isGroup (s id) = true
      ∧ ((0 : Byte) ≠ 1 ∧ (0 : Byte) ≠ 2) ∧ (3 : Byte) ≠ 2 ∧ (0 : Byte).toNat < 1 ∧ 35 < (36 : Byte).toNat ∧ 1 ≤ (1 : Byte).toNat
      ∧ (35 : Byte).toNat ≤ 35 ∧ ((s id).group 0).form = .full ∧ ((s fun q => { q with form := .basic }).group 0).form = .basic
      ∧ (399 : Half).toNat < ((s id).group 0).cfg.minFlow ∧ ((s id).group 0).cfg.minFlow ≤ (400 : Half).toNat
      ∧ ((s id).group 0).withdrawal = .none ∧ ((s id).group 0).order = none ∧ ((s id).group 0).authority = .held
      ∧ 0 < ((s fun q => { q with confirmed := 1 }).group 0).confirmed ∧ (s fun q => { q with confirmed := 1 }).Settled
      ∧ ((s id).group 0).cfg.ack = .external ∧ (inMode .observing (s id)).Settled := by decide +kernel

theorem test_ShortStatusFallsBackOrIsCounted :
    let s := withGroup fun q =>
      { q with
        authority := .pending, statusSince := true
        order := some { setpoint := 9500, seq := 3, sent := 99900, withdraw := false, unsent := false } }
    let locked := withGroup fun q => { q with cfg.lock := true, stale := .holding }
    s.takes (past 0x0200) .statusShort = true ∧ (List.replicate 56 (0 : Byte)).length ≤ 56 ∧ s.meu.mode ≠ .forwardOnly ∧ s.Settled
      ∧ isGroup s = true ∧ (s.group 0).cfg.lock = false ∧ (s.group 0).form = .full ∧ (s.group 0).order.isSome = true
      ∧ (s.group 0).authority = .pending ∧ (s.group 0).stepOpen = false ∧ (s.group 0).withdrawal = .none
      ∧ isGroup locked = true ∧ (locked.group 0).cfg.lock = true ∧ locked.Settled := by decide +kernel

/-- Group 0 with order 3 outstanding. -/
def ordered (f : Group → Group := id) : State := withGroup fun q =>
  f { q with
    authority := .pendingWatched, watcher := some 0x0700
    order := some { setpoint := 9500, seq := 3, sent := 98000, withdraw := false, unsent := false } }

theorem test_GroupAnswersEndTheirOrders :
    let refusing := ordered fun q => { q with streak := 2 }
    ordered.takes (hd 0x0200 3) .groupAnswer = true ∧ (List.replicate 57 (0 : Byte)).length ≤ 57
      ∧ (∀ g, (ordered.group g).cfg.present = true → (ordered.group g).cfg.node ≠ 0x0201) ∧ isGroup ordered = true
      ∧ (∀ o, ((withGroup id).group 0).order = some o → o.unsent = true ∨ o.seq ≠ 3)
      ∧ (ordered.group 0).order = some { setpoint := 9500, seq := 3, sent := 98000, withdraw := false, unsent := false }
      ∧ (0 : Byte) ≠ 1 ∧ (3 : Byte) ≠ 2 ∧ (ordered.group 0).stepOpen = false ∧ (ordered.group 0).withdrawal = .none ∧ ordered.Settled
      ∧ (ordered.group 0).watcher = some 0x0700 ∧ (0x0700 : Addr) ≠ 0xFFFF ∧ ordered.meu.mode ≠ .forwardOnly ∧ ordered.port.insert.length < 32
      ∧ ((ordered fun q => { q with streak := 1 }).group 0).streak < 2 ∧ 2 ≤ (refusing.group 0).streak
      ∧ (refusing.group 0).authority = .pendingWatched ∧ refusing.Settled ∧ isGroup refusing = true := by
  refine ⟨?_, ?_, ?_, ?_, ?_, ?_⟩
  case refine_5 =>
    intro o h
    rw [show ((withGroup id).group 0).order = none by decide +kernel] at h
    cases h
  all_goals decide +kernel

theorem test_ProbesAreAnsweredByNextState :
    let auto := withGroup fun q => { q with authority := .released, cfg.autoclaim := true }
    let full : State := { withGroup id with gau.sendList := List.replicate 16 ⟨.answer, fr 2 1 0x25 []⟩ }
    let ready (s : State) : Bool := s.takes (hd 0x0700) .groupProbe && decide (s.meu.mode ≠ .forwardOnly) && decide (s.gau.answers < 16)
      && decide s.Settled && decide (∀ g, s.orderDue (s.group g) = false ∧ s.zeroOrderDue (s.group g) = false
        ∧ ((s.group g).cfg.latch = 0 → (s.group g).stepOpen = false))
    16 ≤ full.gau.answers ∧ full.takes (hd 0x0700) .groupProbe = true ∧ (List.replicate 57 (0 : Byte)).length ≤ 57
      ∧ ready base = true ∧ ready (withGroup id) = true ∧ ready ordered = true ∧ ready auto = true
      ∧ 8 ≤ (8 : Byte).toNat ∧ (base.group 7).cfg.present = false ∧ ((withGroup id).group 0).cfg.present = true
      ∧ 3 < (4 : Byte).toNat ∧ 4 < (5 : Byte).toNat ∧ ((withGroup id).group 0).probeValue 2 = some (0, true)
      ∧ (ordered.group 0).probeValue 2 = some (9500, false)
      ∧ (auto.group 0).authority = .released ∧ (auto.group 0).cfg.present = true ∧ (ordered.group 0).authority ≠ .released
      ∧ ((withGroup id).group 0).authority ≠ .released ∧ ((withGroup id).group 0).watcher = none
      ∧ (ordered.group 0).watcher = some 0x0700 ∧ (ordered.group 0).watcher ≠ some 0x0701
      ∧ ((withGroup id).group 0).cfg.autoclaim = false ∧ (auto.group 0).cfg.autoclaim = true ∧ auto.claimable (auto.group 0) = true
      ∧ (auto.group 0).withdrawal = .none
      ∧ (inMode .observing auto).claimable ((inMode .observing auto).group 0) = false := by decide +kernel

theorem test_StepTimerOpensTheStepAndDecidesOrders :
    let s (w : Nat) (ack : AckMode) := withGroup fun q => { q with stepCounter := 0, confirmed := 9000, wanted := w, cfg.ack := ack }
    let regulated (s : State) : Bool := decide (∀ g, s.orderDue (s.group g) = false ∧ s.zeroOrderDue (s.group g) = false
        ∧ ((s.group g).cfg.latch = 0 → (s.group g).stepOpen = false))
    (s 9005 .external).resetLow = false ∧ (s 9005 .external).Settled ∧ regulated (s 9005 .external) = true
      ∧ ((s 9005 .external).group 0).cfg.latch ≠ 0 ∧ ((s 9005 .external).group 0).stepCounter = 0
      ∧ ((s 9005 .external).group 0).order.isSome = false ∧ ((s 9005 .external).group 0).authority = .held
      ∧ ((s 9005 .external).group 0).cfg.deadband ≤ (((9005 : Nat) : Int) - 9000).natAbs
      ∧ ¬((s 9004 .external).group 0).cfg.deadband ≤ (((9004 : Nat) : Int) - 9000).natAbs
      ∧ ((s 9005 .external).group 0).stale = .fresh ∧ ((s 9005 .external).group 0).withdrawal = .none
      ∧ ((s 9005 .external).group 0).form = .full ∧ (s 9005 .external).meu.mode = .supervising
      ∧ ((s 9005 .external).group 0).cfg.ack = .external ∧ ((s 9005 .internal).group 0).cfg.ack ≠ .external
      ∧ (s 9005 .internal).Settled ∧ regulated (s 9005 .internal) = true ∧ regulated (s 9004 .external) = true := by decide +kernel

theorem test_GroupTimersEndOrdersAndGroups :
    let silent := withGroup fun q => { q with stale := .holding, lastStatus := some 70000 }
    ordered.resetLow = false ∧ ordered.Settled
      ∧ (ordered.group 0).order = some { setpoint := 9500, seq := 3, sent := 98000, withdraw := false, unsent := false }
      ∧ 98000 + 2000 ≤ ordered.time ∧ (ordered.group 0).stepOpen = false ∧ (ordered.group 0).withdrawal = .none
      ∧ (∀ g, ordered.orderDue (ordered.group g) = false ∧ ordered.zeroOrderDue (ordered.group g) = false
        ∧ ((ordered.group g).cfg.latch = 0 → (ordered.group g).stepOpen = false))
      ∧ ordered.meu.mode ≠ .forwardOnly ∧ (ordered.group 0).cfg.present = true ∧ (ordered.group 0).stale = .fresh
      ∧ (ordered.group 0).lastStatus = some 97000 ∧ 97000 + 3000 ≤ ordered.time
      ∧ silent.Settled ∧ (silent.group 0).stale = .holding ∧ (silent.group 0).lastStatus = some 70000 ∧ 70000 + 30000 ≤ silent.time
      ∧ (silent.group 0).authority ≠ .released := by decide +kernel

/-! ### Witnesses: cooling -/

theorem test_CurveIsReadBetweenItsPoints :
    let curve := (hot.group 0).curve
    curveOrdered curve.toList = true ∧ (-1 : Int) < curve[0].t ∧ curve[7].t ≤ (600 : Int) ∧ curve[3].t ≤ (450 : Int) ∧ (450 : Int) < curve[4].t
      ∧ (499 : Int) < curve[4].t ∧ readCurve curve 462 = 85 := by decide +kernel

theorem test_StageTimersMoveTheWantedStage :
    let s : State := { base with time := 400000, clu.wanted := 1, clu.upSince := some 370000, clu.downSince := some 100000 }
    s.resetLow = false ∧ s.meu.mode ≠ .forwardOnly ∧ s.Settled ∧ s.clu.upSince = some 370000 ∧ 370000 + 30000 ≤ s.time
      ∧ s.clu.downSince = some 100000 ∧ 100000 + 300000 ≤ s.time := by decide +kernel

theorem test_CoolerStatusConfirmsTheStage :
    let s (c : Confirmation) : State := { base with
      meu.cooler := 0x0500, clu.wanted := 4, clu.confirmation := c, clu.confirmEnd := some 100000 }
    (s .awaiting).takes (past 0x0500) .coolerStatus = true ∧ (List.replicate 58 (0 : Byte)).length ≤ 58 ∧ (s .awaiting).Settled
      ∧ (inMode .forwardOnly (s .awaiting)).meu.mode = .forwardOnly ∧ (s .awaiting).meu.mode ≠ .forwardOnly
      ∧ (0x0501 : Addr) ≠ (s .awaiting).meu.cooler ∧ (0x0500 : Addr) = (s .awaiting).meu.cooler ∧ 4 < (5 : Byte).toNat
      ∧ (4 : Byte).toNat ≤ 4 ∧ (4 : Byte).toNat = (s .awaiting).clu.wanted ∧ (3 : Byte).toNat ≠ (s .confirmed).clu.wanted
      ∧ (s .confirmed).clu.confirmation = .confirmed ∧ (s .confirmed).Settled ∧ (s .failed).clu.confirmation ≠ .confirmed
      ∧ (s .awaiting).resetLow = false ∧ (s .awaiting).clu.confirmation = .awaiting
      ∧ (s .awaiting).clu.confirmEnd = some 100000 ∧ 100000 ≤ (s .awaiting).time := by decide +kernel

/-! ### Witnesses: energy and tariffs -/

theorem test_TimeMarksMoveTheClockAndTheSlot :
    let s : State := { base with egu.clock := some ⟨1, 0⟩, egu.slot.number := some 0 }
    let off (m : Nat) : Nat := (((((366 - 1) * 86400000 + 86399999 : Nat) : Int) - (((366 - 1) * 86400000 + m : Nat) : Int))).natAbs
    base.takes (past 0x0001) .timeMark = true ∧ (List.replicate 54 (0 : Byte)).length ≤ 54 ∧ base.Settled ∧ s.Settled
      ∧ (inMode .forwardOnly).meu.mode = .forwardOnly ∧ base.meu.mode ≠ .forwardOnly
      ∧ (1 ≤ (366 : Half).toNat ∧ (366 : Half).toNat ≤ 366 ∧ (86399999 : Long).toNat ≤ 86399999) ∧ ¬1 ≤ (0 : Half).toNat
      ∧ ¬(367 : Half).toNat ≤ 366 ∧ ¬(86400000 : Long).toNat ≤ 86399999 ∧ base.egu.clock = none ∧ s.egu.clock = some ⟨1, 0⟩
      ∧ (0 : Nat) < 86400000 ∧ ¬2000 < off 86397999 ∧ 2000 < off 86397998
      ∧ s.egu.slot.number = some ((1 - 1) * 48 + 1799999 / 1800000) ∧ s.egu.slot.number ≠ some ((1 - 1) * 48 + 1800000 / 1800000) := by
  decide +kernel

theorem test_SlotEndsCloseOpenAndChooseTheEntry :
    let w : TariffWindow := { enable := true, base := 0, mask := 0x7FFF, mode := .mapped, calendarBase := 9 }
    let s (cls : Nat) : State := { base with
      egu.clock := some ⟨366, 86400000⟩, egu.slot := { number := some 17567, es := 5 }
      tru := { base.tru with
        written.windows := base.tru.written.windows.set 1 w
        cache := base.tru.cache.set 4 { valid := true, tag := 0, index := 9, entry := { cls := cls, valid := true } } }
      line.profiles := base.line.profiles.set 3 { startStep := 7, trigger := some 2 } }
    let hits (s : State) (n : Nat) := s.tru.written.windows.toList.filter fun w =>
      w.enable && ((BitVec.ofNat 15 n ^^^ w.base) &&& ~~~w.mask) == 0
    (s 2).resetLow = false ∧ (s 2).meu.mode ≠ .forwardOnly ∧ (s 2).clockNow = some ⟨1, 0⟩ ∧ (s 2).egu.slot.number = some 17567
      ∧ (⟨1, 0⟩ : Clock).slot ≠ 17567 ∧ (s 2).Settled ∧ hits base 0 = [] ∧ hits (s 2) 0 = w :: []
      ∧ w.mode = .mapped ∧ { w with mode := MapMode.direct }.mode = .direct ∧ (s 2).tru.invalidation = false
      ∧ (s 2).tru.lookupCache 0 9 = some { cls := 2, valid := true } ∧ base.tru.lookupCache 0 9 = none
      ∧ (s 2).line.player.state = .idle ∧ (s 2).line.state ≠ .tripped ∧ (s 2).line.profiles[(3 : Fin 8)].trigger = some 2
      ∧ (∀ p' : Fin 8, p' < 3 → (s 2).line.profiles[p'].trigger = none)
      ∧ (inMode .forwardOnly (s 2)).meu.mode = .forwardOnly ∧ (s 2).egu.clock = some ⟨366, 86400000⟩ := by decide +kernel

theorem test_CalendarEntriesAreTakenAgainstTheirFetch :
    let s : State := { base with tru := { base.tru with
      table := #v[some ⟨17567, 9, 4, 99000, true⟩, some ⟨17567, 9, 5, 99000, false⟩]
      cache := base.tru.cache.set 6 { valid := true, tag := 17567 }
      lookup := { slot := some 17567, index := some 9, source := .default, awaiting := true } } }
    let fits (k : Fin 2) (seq : Byte) : Bool := match s.tru.table[k] with
      | none => false
      | some f => f.seq == seq && f.index == 9 && f.slot == 17567 && !f.unsent
    s.takes (hd 0x0600 5) .calendarEntry = true ∧ (List.replicate 46 (0 : Byte)).length ≤ 46
      ∧ (inMode .forwardOnly s).meu.mode = .forwardOnly ∧ s.meu.mode ≠ .forwardOnly ∧ (∀ k, fits k 4 = false) ∧ fits 1 5 = true
      ∧ (∀ k' : Fin 2, k' < 1 → fits k' 5 = false) ∧ s.tru.waitList = []
      ∧ ((1 : Byte) ≠ 0 ∧ (7 : Byte).toNat ≤ 7 ∧ (4000000000 : Long).toNat ≤ 4000000000)
      ∧ ¬(8 : Byte).toNat ≤ 7 ∧ ¬(4000000001 : Long).toNat ≤ 4000000000
      ∧ s.tru.cache[(6 : Fin 8)].valid = true ∧ s.tru.cache[(6 : Fin 8)].tag = 17567
      ∧ (∀ j : Fin 8, ¬(base.tru.cache[j].valid = true ∧ base.tru.cache[j].tag = 17567)) := by decide +kernel

theorem test_PrefetchesAreMadeAndFetchesTimeOut :
    let w : TariffWindow := { enable := true, base := 0, mask := 0x7FFF, mode := .mapped, calendarBase := 9 }
    let plain : State := { base with
      egu.clock := some ⟨1, 1740000⟩, egu.slot.number := some 0, tru.lookup := { slot := some 0 } }
    let s : State := { plain with tru.written.windows := plain.tru.written.windows.set 0 w }
    let declined : State := { s with tru.declined := some (1, 10) }
    let flying : State := { base with tru.table := base.tru.table.set 1 (some ⟨3, 9, 5, 95000, true⟩) }
    s.resetLow = false ∧ s.meu.mode ≠ .forwardOnly ∧ s.tru.lookup.slot = some 0 ∧ s.timeLeft = some 60000 ∧ 60000 ≤ 60000
      ∧ s.tru.lookup.prefetchMade = false ∧ s.tru.invalidation = false ∧ s.Settled ∧ plain.Settled ∧ plain.timeLeft = some 60000
      ∧ plain.tru.written.resolve 1 = .entry plain.tru.written.fallback .default
      ∧ s.tru.written.resolve 1 = .lookup 10 s.tru.written.fallback .default ∧ declined.tru.declined = some (1, 10)
      ∧ s.tru.lookupCache 1 10 = none ∧ s.tru.declined ≠ some (1, 10) ∧ (∀ j : Fin 2, s.tru.table[j] = none) ∧ s.tru.waitList = []
      ∧ flying.tru.table[(1 : Fin 2)] = some ⟨3, 9, 5, 95000, true⟩ ∧ 95000 + 5000 ≤ flying.time ∧ flying.tru.waitList = [] := by
  decide +kernel

/-! ### Witnesses: start-up, restart, takeover and management -/

theorem test_StartAndRestartPrepareEveryBlock :
    let s := inMode .forwardOnly worked
    base.admits (hd 1) (commandPayload .start 0 [0]) = true ∧ base.meu.mode ≠ .forwardOnly ∧ base.Settled
      ∧ s.admits (hd 1) (commandPayload .start 0 [0]) = true ∧ s.meu.mode = .forwardOnly ∧ s.Settled
      ∧ (∀ now, s.clockNow = some now → s.egu.slot.number = some now.slot)
      ∧ worked.admits (hd 1) (commandPayload .restart 0 [0]) = true ∧ worked.Settled := by
  refine ⟨by decide +kernel, by decide +kernel, by decide +kernel, by decide +kernel, by decide +kernel, by decide +kernel, ?_,
    by decide +kernel, by decide +kernel⟩
  intro now h
  rw [show (inMode .forwardOnly worked).clockNow = none by decide +kernel] at h
  cases h

theorem test_StopReleasesAndTakeoverClaims :
    let s : State := { inMode .observing (withGroup fun q => { q with authority := .released, cfg.autoclaim := true }) with
      meu.observationEnd := some 100000 }
    let p : State := { withPot (fun q => { q with ae := .active, fx := { q.fx with quenchDue := some 100000 } }) (inMode .observing) with
      meu.observationEnd := some 100000 }
    (inMode .forwardOnly).admits (hd 1) (commandPayload .stop 0 [0]) = true ∧ (inMode .forwardOnly).meu.mode = .forwardOnly
      ∧ (inMode .forwardOnly).Settled ∧ ordered.admits (hd 1) (commandPayload .stop 0 [0]) = true ∧ ordered.meu.mode ≠ .forwardOnly
      ∧ ordered.Settled ∧ ordered.gau.notices ≤ 8 ∧ s.resetLow = false ∧ s.meu.mode = .observing
      ∧ s.meu.observationEnd = some 100000 ∧ 100000 ≤ s.time ∧ s.Settled
      ∧ (s.group 0).cfg.autoclaim = true ∧ (s.group 0).cfg.present = true ∧ (s.group 0).authority = .released
      ∧ (s.group 0).mode = .remote ∧ (s.group 0).stale = .fresh ∧ (s.group 0).withdrawal = .none ∧ (s.group 1).authority = .released
      ∧ p.Settled ∧ (p.pot 0).ae = .active ∧ (p.pot 0).fx.quenchDue = some 100000 ∧ (p.pot 0).cfg.autoQuench = true
      ∧ (p.pot 0).fx.persistent = false ∧ (p.pot 0).orderAddress.isSome = true := by decide +kernel

theorem test_GroupCommandsAreAnsweredByTheRecord :
    let free := withGroup fun q => { q with authority := .released }
    let basic (l : StatusForm) := withGroup fun q => { q with form := .basic, latestForm := l }
    (∀ c ∈ [Command.claim, .release, .setFull], base.admits (hd 1) (commandPayload c 8 [0]) = true
        ∧ free.admits (hd 1) (commandPayload c 0 [0]) = true ∧ ordered.admits (hd 1) (commandPayload c 0 [0]) = true)
      ∧ base.Settled ∧ free.Settled ∧ ordered.Settled ∧ 8 ≤ (8 : Half).toNat ∧ (7 : Fin 8).val = (7 : Half).toNat
      ∧ ((free.group 0).cfg.present = true ∧ (free.group 0).authority = .released ∧ (free.group 0).mode = .remote
        ∧ (free.group 0).stale = .fresh ∧ free.meu.mode = .supervising) ∧ (free.group 0).withdrawal = .none
      ∧ (base.group 7).cfg.present = false
      ∧ (∀ g, ordered.orderDue (ordered.group g) = false ∧ ordered.zeroOrderDue (ordered.group g) = false
        ∧ ((ordered.group g).cfg.latch = 0 → (ordered.group g).stepOpen = false))
      ∧ (∀ g, free.orderDue (free.group g) = false ∧ free.zeroOrderDue (free.group g) = false
        ∧ ((free.group g).cfg.latch = 0 → (free.group g).stepOpen = false))
      ∧ (ordered.group 0).authority ≠ .released ∧ (ordered.group 0).cfg.present = true ∧ (free.group 0).form = .full
      ∧ ((basic .short).group 0).form = .basic ∧ ((basic .short).group 0).latestForm = .short
      ∧ ((basic .full).group 0).form = .basic ∧ ((basic .full).group 0).latestForm = .full ∧ (basic .full).Settled := by decide +kernel

theorem test_ErrorEventAndEnergyCommands :
    (∀ c ∈ [Command.cacheInvalidate, .energyRelease, .clearError, .ackEvents], base.admits (hd 1) (commandPayload c 3 [0]) = true)
      ∧ base.Settled ∧ 4 ≤ (4 : Half).toNat ∧ (3 : Half).toNat ≤ 3
      ∧ base.admits (hd 1) (writePayload .events 26 0 (be32 1 ++ List.replicate 51 0)) = true
      ∧ 26 < (27 : Half).toNat ∧ (1 : Half).toNat = EventKind.aeOnset.code ∧ EventKind.aeOnset.level = .urgent
      ∧ (26 : Half).toNat = EventKind.energyQueueHigh.code ∧ EventKind.energyQueueHigh.level = .minor ∧ 1 < (2 : Long).toNat
      ∧ (1 : Long).toNat ≤ 1 := by decide +kernel

theorem test_PotWritesFollowTheirFields :
    let s (f : Pot → Pot) := withPot f
    (∀ f : Fin 12, base.admits (hd 1) (writePayload .pot 383 (BitVec.ofNat 8 f.val) (be32 255 ++ List.replicate 51 0)) = true) ∧ base.Settled
      ∧ base.admits (hd 1) (writePayload .pot 0 0 [0, 0, 0]) = true ∧ [(0 : Byte), 0, 0].length < 4
      ∧ (383 : Half).toNat < 384 ∧ 11 ≤ (11 : Byte).toNat ∧ 384 ≤ (384 : Half).toNat ∧ (383 : Fin 384).val = (383 : Half).toNat
      ∧ ((s id).pot 0).sup ≠ .unconfigured ∧ ((s id).pot 0).ae = .quiet ∧ (base.pot 383).sup = .unconfigured
      ∧ (s id).admits (hd 1) (writePayload .pot 0 0 (be32 1)) = true ∧ (s id).admits (hd 1) (writePayload .pot 0 0 (be32 0)) = true
      ∧ (s id).Settled ∧ (1 : Long).toNat ≤ 1 ∧ 1 < (2 : Long).toNat
      ∧ (let q := s fun q => { q with ae := .active, fx := { q.fx with quenchDue := some 100000 }, cfg.autoQuench := false }
        let written := q.modPot 0 fun q => { q with cfg.autoQuench := decide ((1 : Long) = 1) }
        q.admits (hd 1) (writePayload .pot 0 9 (be32 1 ++ [])) = true ∧ q.Settled ∧ written.quenchReady (written.pot 0) = true
          ∧ q.quenchReady (q.pot 0) = false) := by decide +kernel

theorem test_LineAndGroupWritesFollowTheirFields :
    let warm : State := { base with line.hd := 5, line.cfg.hl := 6 }
    let s := withGroup fun q => { q with authority := .released }
    let other := s.modGroup 7 fun q => { q with cfg.node := 0x0200 }
    base.admits (hd 1) (writePayload .line 0 8 (be32 1 ++ List.replicate 51 0)) = true ∧ base.Settled
      ∧ base.admits (hd 1) (writePayload .line 0 16 (be32 17 ++ [])) = true ∧ 5 ≤ warm.line.hd ∧ warm.line.heatRecovery = false
      ∧ base.line.hd < 2 / 2 ∧ (7 : Fin 8).val = (7 : Half).toNat
      ∧ other.admits (hd 1) (writePayload .group 7 0 (be32 1 ++ [])) = true ∧ other.Settled ∧ s.Settled
      ∧ 3 < (4 : Long).toNat ∧ StepClock.s60.code = (3 : Long).toNat ∧ ((withGroup id).group 0).authority ≠ .released
      ∧ (other.group 7).authority = .released ∧ (s.group 0).authority = .released
      ∧ (BitVec.ofNat 16 0x7E00 : Addr) = s.address ∧ (other.group 7).cfg.present = false
      ∧ ((0 : Fin 8) ≠ 7 ∧ (other.group 0).cfg.present = true ∧ (other.group 0).cfg.node = (other.group 7).cfg.node)
      ∧ (base.group 7).cfg.present = false ∧ (∀ k, (base.group k).cfg.present = false) ∧ (s.group 0).cfg.present = true := by
  decide +kernel

theorem test_RequestsPassTheirChecks :
    let busy : State := { base with meu.sendList := List.replicate 8 (fr 1 0x7E00 0x71 []), port.insert := List.replicate 32 (fr 1 2 3 []) }
    let held : State := { base with meu.management := some 1 }
    let ordered (a : Vector StageEntry 4) : Bool :=
      decide (∀ i : Fin 4, a[i].down < a[i].up) && decide (a[0].up ≤ a[1].up) && decide (a[1].up ≤ a[2].up) && decide (a[2].up ≤ a[3].up)
    base.takes (hd 1) .request = true ∧ (List.replicate 55 (0 : Byte)).length ≤ 55 ∧ base.Settled ∧ busy.takes (hd 1) .request = true
      ∧ busy.Settled ∧ 8 ≤ busy.meu.sendList.length ∧ base.meu.sendList.length < 8
      ∧ held.meu.management = some 1 ∧ (1 : Addr) ≠ (hd 2).src ∧ held.Settled ∧ base.meu.management = none
      ∧ 3 < (4 : Byte).toNat ∧ 15 < (16 : Byte).toNat ∧ 22 < (23 : Byte).toNat ∧ 13 ≤ (13 : Byte).toNat ∧ (17 : Byte).toNat ≤ 17
      ∧ (19 : Byte) = Object.supervisorAddress.code
      ∧ (base.objectFields .supervisorAddress 0).map List.length = some 1
      ∧ (65534 : Long).toNat < 65535 ∧ (65534 : Long).toNat ≠ base.address.toNat ∧ (0x7E00 : Long).toNat = base.address.toNat
      ∧ base.admits (hd 1) (writePayload .mgmtAddress 0 0 (be32 65534 ++ [])) = true
      ∧ base.admits (hd 1) (writePayload .stage 4 0 (be32 550 ++ [])) = true ∧ 4 < (5 : Half).toNat
      ∧ (3 : Fin 4).val + 1 = (4 : Half).toNat
      ∧ ordered (base.clu.stages.set 3 { base.clu.stages[3] with up := 521 }) = true
      ∧ ordered (base.clu.stages.set 3 { base.clu.stages[3] with up := 520 }) = false ∧ 100 < (101 : Long).toNat := by decide +kernel

/-! ### Witnesses: the forms of the readings, writes and reads -/

theorem test_EmptyQueue_rows :
    base.rowDue .lineTrip = false ∧ ({ base with line.tripWatch := some 99000 } : State).rowDue .lineTrip = true := by decide +kernel

theorem test_Arbiter_sources :
    let f := fr 2 1 0x71 []
    let r : EventRecord := ⟨.mapError, 0, 0, 0, 0, 0⟩
    let s : State := { base with psu.sendList := [(0, f)], port.buffer := [r, r, r, r] }
    s.mayEnter .psu = true ∧ (inMode .forwardOnly s).mayEnter .psu = false ∧ s.mayEnter .report = true ∧ s.mayEnter .clu = false
      ∧ ({ s with port.insert := List.replicate 24 (fr 2 1 0x60 []) } : State).mayEnter .report = false
      ∧ ({ s with port.insert := List.replicate 32 f } : State).mayEnter .psu = false := by decide +kernel

theorem test_PotSamples_section_and_map_writes :
    base.admits (hd 1) (writePayload .sectionWindow 7 4 (be32 384 ++ List.replicate 51 0)) = true ∧ base.Settled
      ∧ 8 ≤ (8 : Half).toNat ∧ (7 : Fin 8).val = (7 : Half).toNat ∧ base.smap.windows[(7 : Fin 8)].mode = .direct
      ∧ (255 : Long).toNat + 1 = 2 ^ 8 ∧ (∀ n, n ≤ 8 → (511 : Long).toNat + 1 ≠ 2 ^ n) ∧ (0 : Long).toNat + 1 = 2 ^ 0
      ∧ (65535 : Long).toNat ≤ 65535 ∧ 65535 < (65536 : Long).toNat ∧ (1 : Long).toNat ≤ 1 ∧ 1 < (2 : Long).toNat
      ∧ 5 ≤ (5 : Byte).toNat
      ∧ base.admits (hd 1) (writePayload .map 511 0 (be32 383 ++ [])) = true ∧ 512 ≤ (512 : Half).toNat
      ∧ (511 : Fin 512).val = (511 : Half).toNat ∧ (383 : Long).toNat = (383 : Fin 384).val ∧ 384 ≤ (384 : Long).toNat
      ∧ (65534 : Long) ≠ 65535 := by decide +kernel

/-- Readings of pot 0 that are not computable, that prime, that make RUNNING, that find an effect open, and that decide an advice. -/
theorem test_QuietReadings_forms :
    let reads (s : State) : Bool := s.takes (past 0x0010) .potSample && s.readsOne (past 0x0010) (oneReading 7999) 0 0
    let dark : State := { readable with line.sampleTime := none }
    let starting (n : Nat) := readable fun q => { q with sup := .starting, startingCount := n }
    let open_ := readable fun q => { q with ae := .clearing }
    let s (cond : Pot → Pot) := readable fun q => cond { q with cfg.advice := true, dwell := 29 }
    let vp := (oneReading 7999)[(0 : Fin 8)].voltage.toNat
    let advised (s : State) (c : Band) : Bool := reads s && s.computable && decide ((s.pot 0).sup = .running ∧ (s.pot 0).ae = .quiet
      ∧ (s.pot 0).cfg.advice = true ∧ (s.pot 0).order = none ∧ s.meu.mode = .supervising ∧ s.Settled ∧ (s.pot 0).inhibitUntil = none
      ∧ vp < s.onsetThreshold (s.pot 0) ∧ vp ≤ s.line.ae.vmax)
      && (let x := s.computedPot 0 0x0010 0 vp
        decide ((s.pot 0).cfg.nd ≤ x.dwell) && adviceCondition x.band x.noisy != .within && x.band == c)
    reads dark = true ∧ dark.computable = false ∧ reads (starting 0) = true ∧ (starting 0).computable = true
      ∧ ((starting 0).pot 0).sup = .starting ∧ ((starting 0).pot 0).startingCount = 0 ∧ reads (starting 9) = true
      ∧ (((starting 9).computedPot 0 0x0010 0 vp).sup = .running ∧ ((starting 8).computedPot 0 0x0010 0 vp).sup = .starting)
      ∧ reads open_ = true ∧ (open_.pot 0).ae ≠ .quiet
      ∧ advised (s fun q => { q with noisy := true }) .within = true
      ∧ advised (s fun q => { q with band := .high, cfg.nlim := 65535, cfg.rt := 0 }) .high = true
      ∧ advised (s fun q => { q with band := .low, cfg.nlim := 65535, cfg.rt := 250000 }) .low = true
      ∧ advised (s fun q => { q with noisy := true, cfg.nd := 31 }) .within = false := by decide +kernel

/-- The markers at pot 0, in the states that take them. -/
theorem test_ReadingsOfPotsCutOut_markers :
    let reads (s : State) (m : Byte) : Bool := s.takes (past 0x0010) .potSample && s.readsOne (past 0x0010) (oneReading 4000 m) 0 0 m
    let st (v : Supervision) := readable fun q => { q with sup := v }
    let ef (a : AeState) := readable fun q => { q with ae := a }
    let or (k : OrderKind) := readable fun q => { q with order := some (potOrder k) }
    reads (st .unconfigured) 1 = true ∧ ((st .unconfigured).pot 0).sup = .unconfigured
      ∧ reads (st .lost) 0 = true ∧ ((st .lost).pot 0).sup = .lost
      ∧ reads (ef .suspect) 1 = true ∧ ((ef .suspect).pot 0).ae ≠ .active ∧ ((ef .suspect).pot 0).ae ≠ .quenching
      ∧ reads (ef .active) 1 = true ∧ ((ef .active).pot 0).ae = .active ∧ reads (ef .quenching) 1 = true
      ∧ ((ef .quenching).pot 0).ae = .quenching ∧ reads (st .starting) 2 = true ∧ reads (st .running) 3 = true
      ∧ base.line.inhibitTime ≠ 0 ∧ ({ base with line.inhibitTime := 0 } : State).line.inhibitTime = 0
      ∧ reads (or .quench) 4 = true ∧ ((or .quench).pot 0).order = some (potOrder .quench) ∧ ((st .running).pot 0).order = none
      ∧ reads (or .raise) 4 = true ∧ ((or .raise).pot 0).order = some (potOrder .raise) ∧ (potOrder .raise).kind ≠ .quench
      ∧ reads (st .running) 5 = true ∧ ((st .running).pot 0).ae = .quiet ∧ reads (ef .suspect) 5 = true
      ∧ reads (ef .clearing) 5 = true ∧ ((ef .clearing).pot 0).ae ≠ .quiet ∧ ((ef .clearing).pot 0).ae ≠ .suspect
      ∧ (ef .clearing).Settled ∧ reads (ef .active) 5 = true ∧ (ef .active).Settled
      ∧ reads (st .running) 6 = true ∧ reads (st .running) 8 = true ∧ 7 < (8 : Byte).toNat ∧ (8 : Byte) ≠ 7
      ∧ reads (st .bypassing) 6 = true ∧ ((st .bypassing).pot 0).sup = .bypassing ∧ reads (st .bypassed) 5 = true
      ∧ ((st .bypassed).pot 0).sup = .bypassed ∧ reads (st .starting) 4 = true ∧ ((st .starting).pot 0).sup = .starting
      ∧ (st .running).computable = true := by decide +kernel

/-- A log of 32 records, of which the fourth is closed or none is. -/
def fullLog (closed : Bool) : List AeRecord :=
  (List.range 32).map fun k => { place := k, pot := 1, onsetDay := 0, onsetMs := 0, vnorm := 0, closed := closed && k == 3 }

/-- Readings of pot 0 at its thresholds: above Vmax, at the onset threshold, below it. -/
theorem test_PotTimers_readings :
    let reads (s : State) (vp : Half) : Bool := s.takes (past 0x0010) .potSample && s.readsOne (past 0x0010) (oneReading vp) 0 0
      && s.computable && decide s.Settled && decide ((s.pot 0).sup = .running)
    let ef (a : AeState) := readable fun q => { q with ae := a }
    let now := readable fun q => { q with ae := .suspect, cfg.tqd := 0 }
    let log (l : List AeRecord) : State := { ef .suspect with aeu.log := l }
    let two : List AeRecord := (fullLog false).take 2
    reads (ef .active) 60001 = true ∧ (ef .active).line.ae.vmax < (60001 : Half).toNat ∧ ((ef .active).pot 0).ae ≠ .suspect
      ∧ (60000 : Half).toNat ≤ (ef .active).line.ae.vmax ∧ reads (ef .suspect) 60001 = true ∧ ((ef .suspect).pot 0).ae = .suspect
      ∧ ((ef .quiet).pot 0).cfg.advice = false ∧ reads (ef .quiet) 8000 = true ∧ reads (ef .suspect) 8000 = true
      ∧ (ef .quiet).onsetThreshold ((ef .quiet).pot 0) = 8000 ∧ reads (ef .suspect) 7999 = true
      ∧ ((ef .suspect).pot 0).cfg.tqd ≠ 0
      ∧ reads now 8000 = true ∧ (now.pot 0).cfg.tqd = 0 ∧ (now.pot 0).cfg.autoQuench = true ∧ now.meu.mode = .supervising
      ∧ reads (log two) 8000 = true ∧ (2 < Config.logPlaces ∧ two.length < Config.logPlaces) ∧ (∀ r ∈ two, r.place ≠ 2)
      ∧ (∀ j, j < 2 → ∃ r ∈ two, r.place = j)
      ∧ reads (log (fullLog true)) 8000 = true ∧ Config.logPlaces ≤ (fullLog true).length
      ∧ (fullLog true).take 3 ++ (fullLog true).drop 3 = fullLog true ∧ (∀ r ∈ (fullLog true).take 3, r.closed = false)
      ∧ ((fullLog true).drop 3).head?.map AeRecord.closed = some true
      ∧ reads (log (fullLog false)) 8000 = true ∧ (∀ r ∈ fullLog false, r.closed = false) := by decide +kernel

/-- Readings of pot 0 in an open effect, and the runs of the trace store at its two bounds. -/
theorem test_ClearEnd_readings :
    let reads (s : State) (vp : Half) : Bool := s.takes (past 0x0010) .potSample && s.readsOne (past 0x0010) (oneReading vp) 0 0
      && s.computable && decide s.Settled && decide ((s.pot 0).sup = .running) && decide (vp.toNat ≤ s.line.ae.vmax)
    let ef (a : AeState) (f : Pot → Pot) := readable fun q => f { q with ae := a }
    let fires := ef .clearing fun q => { q with cfg.tqd := 0 }
    reads (ef .active id) 6000 = true ∧ (ef .active id).line.ae.vclr ≤ (6000 : Half).toNat ∧ reads (ef .quenching id) 5999 = true
      ∧ (5999 : Half).toNat < (ef .quenching id).line.ae.vclr ∧ reads (ef .clearing id) 5999 = true
      ∧ reads (ef .clearing id) 7999 = true ∧ reads (ef .clearing id) 8000 = true
      ∧ (ef .clearing id).onsetThreshold ((ef .clearing id).pot 0) = 8000
      ∧ (1 ≤ ((ef .clearing fun q => { q with attempts := 1 }).pot 0).attempts)
      ∧ reads (ef .clearing fun q => { q with localQuench := true }) 8000 = true
      ∧ ((ef .clearing id).pot 0).attempts = 0 ∧ ((ef .clearing id).pot 0).localQuench = false ∧ ((ef .clearing id).pot 0).cfg.tqd ≠ 0
      ∧ reads fires 8000 = true ∧ (fires.pot 0).cfg.tqd = 0 ∧ (fires.pot 0).cfg.autoQuench = true ∧ (fires.pot 0).fx.persistent = false
      ∧ fires.meu.mode = .supervising := by decide +kernel

theorem test_ClearEnd_trace :
    let record (n : Nat) : AeRecord := { place := 4, pot := 0, onsetDay := 0, onsetMs := 0, vnorm := 4300, runCount := n }
    let run (n : Nat) : Run := { place := 4, level := 32, count := n }
    let other : Run := { place := 5, level := 32, count := 1 }
    [other, run 254, other] = [other] ++ run 254 :: [other] ∧ ((run 254).place = 4 ∧ (run 254).level = min (8249 / 250) 255
        ∧ (run 254).count < 255) ∧ (∀ x ∈ [other], x.place ≠ 4) ∧ ¬(run 255).count < 255 ∧ min (63999 / 250) 255 = 255
      ∧ (∃ r ∈ [record 256], r.place = 4 ∧ Config.recordRuns ≤ r.runCount)
      ∧ ¬(∃ r ∈ [record 255], r.place = 4 ∧ Config.recordRuns ≤ r.runCount)
      ∧ (List.replicate 2047 other).length < Config.storeRuns ∧ Config.storeRuns ≤ (other :: List.replicate 2047 other).length := by
  decide +kernel

theorem test_LineTrip_outside_the_set :
    let s := (withGroup (fun q => { q with stale := .holding, wanted := 9000 })
      (withLine 1000 fun l => { l with it := 40000, tripWatch := some 99000 }))
    (s.group 0).authority ≠ .released ∧ (s.group 0).available = false ∧ (s.group 1).authority = .released ∧ s.Settled := by
  decide +kernel

theorem test_ProfilePlayer_writes :
    base.admits (hd 1) (writePayload .profileStep 255 0 (be32 32768 ++ List.replicate 51 0)) = true
      ∧ base.admits (hd 1) (writePayload .profile 7 1 (be32 255 ++ [])) = true ∧ base.Settled
      ∧ 256 ≤ (256 : Half).toNat ∧ (255 : Fin 256).val = (255 : Half).toNat ∧ (15 : Long).toNat ≤ 15 ∧ 15 < (16 : Long).toNat
      ∧ (1 : Long).toNat ≤ 1 ∧ 1 < (2 : Long).toNat ∧ 4 ≤ (4 : Byte).toNat ∧ 8 ≤ (8 : Half).toNat ∧ (7 : Fin 8).val = (7 : Half).toNat
      ∧ (255 : Fin 256).val = nearest 0 255 (256 : Long).toNat ∧ (7 : Long).toNat ≤ 7 ∧ 7 < (8 : Long).toNat ∧ (8 : Long).toNat ≠ 255
      ∧ (255 : Long).toNat = 255 ∧ 2 ≤ (2 : Byte).toNat := by decide +kernel

theorem test_ShortStatus_unmatched_or_bad :
    let s := withGroup id
    s.takes (past 0x0200) .statusShort = true ∧ (List.replicate 56 (0 : Byte)).length ≤ 56 ∧ s.meu.mode ≠ .forwardOnly
      ∧ (∀ g, (s.group g).cfg.present = true → (s.group g).cfg.node ≠ 0x0201) ∧ isGroup s = true
      ∧ ((0 : Byte) ≠ 1 ∧ (0 : Byte) ≠ 2) ∧ (0 : Byte).toNat < 1 ∧ 35 < (36 : Byte).toNat := by decide +kernel

theorem test_Curve_writes_and_reads :
    let good (curve : Vector CurvePoint 8) : Bool := decide (∀ i : Fin 8, curve[i].p ≤ 100)
      && decide (∀ i : Fin 7, curve[i.val].t ≤ curve[i.val + 1].t ∧ curve[i.val + 1].p ≤ curve[i.val].p)
    let curve := (hot.group 0).curve
    let points : Vector (Half × Half) 8 := Vector.ofFn fun i => (BitVec.ofNat 16 (i.val * 100), 90)
    let bytes := points.toList.flatMap fun e => be16 e.1 ++ be16 e.2
    hot.admits (hd 1) (writePayload .curve 7 8 bytes) = true ∧ hot.Settled ∧ 8 ≤ (8 : Half).toNat ∧ 8 < (9 : Byte).toNat
      ∧ (be32 0 ++ [0, 0, 0]).length < 8 ∧ (bytes.take 31).length < 32 ∧ bytes.length = 32
      ∧ good (curve.set 2 ⟨350, 100⟩) = true ∧ good (curve.set 2 ⟨349, 100⟩) = false ∧ good (curve.set 0 ⟨0, 101⟩) = false
      ∧ good (points.map fun e => ⟨e.1.toInt, e.2.toNat⟩) = true
      ∧ -32768 ≤ (0xFFFF8000 : Long).toInt ∧ (0xFFFF7FFF : Long).toInt < -32768 ∧ (32767 : Long).toInt ≤ 32767
      ∧ 32767 < (32768 : Long).toInt
      ∧ hot.admits (hd 1) (Request.bytes { op := 1, object := 5, index := 0, field := 8, values := [] }) = true
      ∧ (∀ k : Fin 8, (hot.group 0).curve[k].p ≤ 100) := by decide +kernel

theorem test_SlotEnds_tariff_writes :
    base.admits (hd 1) (writePayload .tariffWindow 3 2 (be32 32767 ++ List.replicate 51 0)) = true ∧ base.Settled
      ∧ base.admits (hd 1) (writePayload .tariffDefault 0 2 (be32 7 ++ [])) = true
      ∧ 4 ≤ (4 : Half).toNat ∧ (3 : Fin 4).val = (3 : Half).toNat ∧ (32767 : Long).toNat + 1 = 2 ^ 15
      ∧ (∀ b, b ≤ 15 → (65535 : Long).toNat + 1 ≠ 2 ^ b) ∧ 32767 < (32768 : Long).toNat ∧ (65535 : Long).toNat ≤ 65535
      ∧ 65535 < (65536 : Long).toNat ∧ (7 : Long).toNat ≤ 7 ∧ 7 < (8 : Long).toNat ∧ 9 ≤ (9 : Byte).toNat ∧ (1 : Half) ≠ 0
      ∧ 3 ≤ (3 : Byte).toNat ∧ (1 : Long).toNat ≤ 1 ∧ 1 < (2 : Long).toNat := by decide +kernel

/-- The fetch of slot 5 is in flight in place 0 and that of slot 6 in place 1; slots wait behind them. -/
def fetching (table : Vector (Option Fetch) 2) (waits : List (Nat × Half)) : State :=
  { base with
    egu.clock := some ⟨1, 10740000⟩, egu.slot.number := some 5
    tru := { base.tru with
      written.windows := base.tru.written.windows.set 0 { enable := true, base := 0, mask := 0x7FFF, mode := .mapped }
      table := table, waitList := waits
      lookup := { slot := some 5, index := some 5, source := .default, awaiting := true } } }

/-- What a waiting fetch must be to be issued. -/
def wanted (s : State) (e : Nat × Half) : Bool :=
  (s.tru.lookup.slot.any fun o => e.1 == o || e.1 == nextSlot o) && decide (s.tru.lookupCache e.1 e.2 = none)
    && decide (s.tru.declined ≠ some e)

theorem test_CalendarEntries_wait_list :
    let s := fetching #v[some ⟨5, 5, 4, 99000, false⟩, some ⟨5, 4, 5, 99000, false⟩] [(9, 9), (6, 6)]
    s.takes (hd 0x0600 4) .calendarEntry = true ∧ s.Settled ∧ s.tru.waitList = [(9, 9)] ++ (6, 6) :: [] ∧ wanted s (9, 9) = false
      ∧ wanted s (6, 6) = true ∧ (∀ e ∈ (fetching s.tru.table [(9, 9)]).tru.waitList, wanted s e = false) := by decide +kernel

theorem test_Prefetches_full_table_and_abandoned :
    let full := fetching #v[some ⟨5, 5, 4, 99000, false⟩, some ⟨5, 4, 5, 95000, false⟩] [(6, 9)]
    let other := fetching #v[some ⟨5, 5, 4, 99000, false⟩, some ⟨6, 9, 5, 95000, false⟩] [(5, 8)]
    let ready (s : State) : Bool := decide (s.resetLow = false ∧ s.meu.mode ≠ .forwardOnly ∧ s.tru.lookup.slot = some 5
      ∧ s.timeLeft = some 60000 ∧ s.tru.lookup.prefetchMade = false ∧ s.tru.invalidation = false ∧ s.Settled
      ∧ s.tru.lookupCache 6 6 = none ∧ s.tru.declined ≠ some (6, 6) ∧ (6, 6) ∉ s.tru.waitList)
      && decide (s.tru.written.resolve 6 = .lookup 6 s.tru.written.fallback .default)
      && [0, 1].all fun (j : Fin 2) => (s.tru.table[j]).all fun f => f.slot != 6 || f.index != 6
    let free := fetching #v[some ⟨5, 5, 4, 99000, false⟩, none] []
    ready full = true ∧ (∀ k : Fin 2, full.tru.table[k] ≠ none) ∧ ready other = true ∧ ready free = true
      ∧ other.tru.table[(1 : Fin 2)] = some ⟨6, 9, 5, 95000, false⟩ ∧ free.tru.table[(1 : Fin 2)] = none
      ∧ (∀ k' : Fin 2, k' < 1 → free.tru.table[k'] ≠ none)
      ∧ full.tru.table[(1 : Fin 2)] = some ⟨5, 4, 5, 95000, false⟩ ∧ 95000 + 5000 ≤ full.time
      ∧ (∀ k' : Fin 2, k' < 1 → (other.tru.table[k']).map Fetch.slot ≠ some 6) ∧ wanted other (5, 8) = true := by decide +kernel

/-- At START or RESTART the clock has left the open slot, and the slot's entry starts a profile. -/
theorem test_StartAndRestart_other_slot :
    let w : TariffWindow := { enable := true, base := 0, mask := 0x7FFF, mode := .mapped }
    let s : State := { base with
      egu.clock := some ⟨1, 1800000⟩, egu.slot.number := some 0, line.profiles := base.line.profiles.set 3 { trigger := some 0 } }
    let mapped : State := { s with tru.written.windows := s.tru.written.windows.set 0 w }
    s.admits (hd 1) (commandPayload .restart 0 [0]) = true ∧ s.Settled ∧ s.clockNow = some ⟨1, 1800000⟩
      ∧ (⟨1, 1800000⟩ : Clock).slot = 1 ∧ s.egu.slot.number ≠ some 1
      ∧ s.tru.written.resolve 1 = .entry s.tru.written.fallback .default
      ∧ mapped.tru.written.resolve 1 = .lookup 1 mapped.tru.written.fallback .default ∧ mapped.Settled
      ∧ mapped.admits (hd 1) (commandPayload .restart 0 [0]) = true
      ∧ s.line.profiles[(3 : Fin 8)].trigger = some 0 ∧ 0 ≤ s.tru.written.fallback.cls
      ∧ (∀ n : Fin 8, n < 3 → s.line.profiles[n].trigger = none) ∧ (∀ n : Fin 8, base.line.profiles[n].trigger = none)
      ∧ (inMode .forwardOnly s).admits (hd 1) (commandPayload .start 0 [0]) = true ∧ (inMode .forwardOnly s).Settled := by
  decide +kernel

theorem test_GroupCommands_setFull_in_forwardOnly :
    let s := inMode .forwardOnly (withGroup fun q => { q with form := .basic, latestForm := .full })
    s.admits (hd 1) (commandPayload .setFull 0 [0]) = true ∧ s.Settled ∧ s.meu.mode = .forwardOnly ∧ (s.group 0).cfg.present = true
      ∧ (s.group 0).form = .basic ∧ (s.group 0).latestForm = .full := by decide +kernel

theorem test_LineAndGroupWrites_fields :
    let a := base.line.ae
    let s := withGroup fun q => { q with confirmed := 9000, wanted := 9004, stepOpen := true }
    let u (w : Nat) := s.modGroup 0 fun q => { q with cfg.deadband := w }
    let quiet (s : State) : Bool := decide (∀ g, s.orderDue (s.group g) = false ∧ s.zeroOrderDue (s.group g) = false)
    base.admits (hd 1) (writePayload .line 9 17 (be32 3601 ++ List.replicate 51 0)) = true ∧ base.Settled
      ∧ base.admits (hd 1) (writePayload .group 7 13 (be32 1 ++ [])) = true
      ∧ (a.vclr < 6001 ∧ 6001 ≤ a.vmax) ∧ ¬a.vclr < 6000 ∧ (7999 < a.vae ∧ a.vae ≤ a.vmax) ∧ ¬8000 < a.vae ∧ a.vae ≤ 8000
      ∧ ¬a.vae ≤ 7999 ∧ 1 < (2 : Long).toNat ∧ 19 ≤ (19 : Byte).toNat ∧ 8 ≤ (8 : Half).toNat ∧ (7 : Fin 8).val = (7 : Half).toNat
      ∧ 13 ≤ (13 : Byte).toNat ∧ s.admits (hd 1) (writePayload .group 0 7 (be32 5 ++ [])) = true ∧ s.Settled ∧ quiet (u 5) = true
      ∧ quiet (u 4) = false := by decide +kernel

theorem test_Requests_reads_and_short_writes :
    let r : AeRecord := { place := 4, pot := 0, onsetDay := 0, onsetMs := 0, vnorm := 4300, runCount := 1, samples := 3 }
    let taken : State := { worked with meu.requestsTaken := bump32 worked.meu.requestsTaken }
    worked.takes (hd 1) .request = true ∧ worked.Settled ∧ worked.meu.sendList.length < 8 ∧ worked.meu.management = none
      ∧ (6 : Byte) = Object.stage.code ∧ Object.stage ≠ .curve ∧ (6 : Byte).toNat < 13 ∧ [(0 : Byte), 0, 0].length < 4
      ∧ worked.hasIndex .stage 5 = false ∧ worked.hasIndex .stage 4 = true
      ∧ worked.aeu.log = [] ++ r :: [] ∧ r.place = (4 : Half).toNat ∧ r.runCount ≤ 256 ∧ r.runCount ≤ (1 : Byte).toNat
      ∧ (0 : Byte).toNat < r.runCount ∧ (∀ x ∈ worked.aeu.log, x.place ≠ (5 : Half).toNat)
      ∧ (taken.objectFields .counters 8).isSome = true ∧ (taken.objectFields .errorLog 0).map List.length = some 13
      ∧ 13 ≤ (13 : Byte).toNat ∧ (12 : Byte).toNat < 13 := by decide +kernel

/-! ### Witnesses: the heads of the send lists, effects that a command closes, claims and slot starts -/

/-- The frame that each source may place is the head of its own send list. -/
theorem test_Arbiter_heads :
    let f := fr 2 1 0x30 []
    let r : EventRecord := ⟨.mapError, 0, 0, 0, 0, 0⟩
    let gau (tag : GauTag) : State := { base with gau.sendList := [⟨tag, f⟩] }
    ({ base with port.buffer := List.replicate 5 r } : State).nextSource = some .report
      ∧ (∀ tag ∈ [GauTag.answer, .notice, .order 7], (gau tag).nextSource = some .gau ∧ (gau tag).gau.sendList = ⟨tag, f⟩ :: [])
      ∧ ({ base with psu.sendList := [(383, f)] } : State).nextSource = some .psu
      ∧ ({ base with tru.sendList := [f] } : State).nextSource = some .tru
      ∧ ({ base with clu.orderFrame := some f } : State).nextSource = some .clu := by decide +kernel

/-- A declined first attempt with the quench delay 0 and with another delay, and a second attempt. -/
theorem test_DeclinedQuench_forms :
    let s (tqd attempts : Nat) := withPot fun q =>
      { q with ae := .quenching, attempts := attempts, logIndex := some 4, order := some (potOrder .quench), cfg.tqd := tqd }
    let fires (s : State) : Bool := decide ((s.pot 0).cfg.tqd = 0 ∧ (s.pot 0).cfg.autoQuench = true ∧ (s.pot 0).fx.persistent = false
      ∧ s.meu.mode = .supervising)
    let ready (s : State) : Bool := s.takes (hd 0x0010 8) .potAnswer && decide ((s.pot 0).order = some (potOrder .quench)) && decide s.Settled
    ready (s 0 1) = true ∧ fires (s 0 1) = true ∧ ((s 0 1).pot 0).orderAddress = some (0x0010, 0) ∧ ready (s 1 1) = true
      ∧ fires (s 1 1) = false ∧ ready (s 0 2) = true ∧ 2 ≤ ((s 0 2).pot 0).attempts ∧ (s 0 1).answers 0 0x0010 0 8 = true :=
  ⟨by decide +kernel, by decide +kernel, by decide +kernel, by decide +kernel, by decide +kernel, by decide +kernel, by decide +kernel,
    answers_zero (by decide +kernel)⟩

/-- A quench timeout while a frame of the order before still waits. -/
theorem test_QuenchTimeout_waiting_frame :
    let s := withPot fun q => { q with
      ae := .quenching, attempts := 1, cfg.autoQuench := true, order := some { potOrder .quench with unsent := true }
      fx := { q.fx with quenchTimeout := some 100000 } }
    let full : State := { s with
      psu.sendList := [(0, fr 0x0010 0x7E00 0x30 [0, 4])], port.insert := List.replicate 32 (fr 1 2 3 []) }
    full.Settled ∧ full.meu.mode = .supervising ∧ (full.pot 0).ae = .quenching ∧ (full.pot 0).orderAddress = some (0x0010, 0) := by
  decide +kernel

/-- RESTART and START find an effect open in a part whose log and watched group are at work. -/
theorem test_StartAndRestart_open_effect :
    let s := inMode .forwardOnly worked
    let ends := worked.meu.events[EventKind.aeEnd.index].count
    worked.admits (hd 1) (commandPayload .restart 0 [0]) = true ∧ worked.Settled ∧ logLaw worked ∧ (worked.pot 0).ae.inEffect = true
      ∧ (worked.pot 0).ae.counted = true ∧ ends + 384 ≤ 4294967295 ∧ worked.gau.answers ≤ 8 ∧ (worked.group 0).authority ≠ .released
      ∧ (worked.group 0).watcher = some 0x700 ∧ s.admits (hd 0xFFFF) (commandPayload .start 0 [0]) = true ∧ s.Settled :=
  ⟨by decide +kernel, by decide +kernel, test_LogAndTraceAgree.1, by decide +kernel, by decide +kernel, by decide +kernel,
    by decide +kernel, by decide +kernel, by decide +kernel, by decide +kernel, by decide +kernel⟩

/-- At the beginning of START the answers and notices that FORWARD-ONLY held back are offered, and enter the queue (R161). -/
theorem test_start_admits_waiting_answers :
    let s : State := { inMode .forwardOnly with gau.sendList := [⟨.answer, fr 2 1 0x25 []⟩, ⟨.notice, fr 3 1 0x26 []⟩] }
    s.Settled ∧ s.beginRestart.Settled ∧ s.beginRestart.gau.sendList = []
      ∧ s.beginRestart.port.insert.map Frame.kind = [0x25, 0x26] := by decide +kernel

/-- A pot is disabled in each state of an open effect; a watched group is released by STOP and by RELEASE. -/
theorem test_PotWrites_and_releases_forms :
    let s (a : AeState) := withPot fun q => { q with ae := a, logIndex := some 4 }
    (∀ a ∈ [AeState.suspect, .active, .quenching, .clearing],
        (s a).admits (hd 1) (writePayload .pot 0 0 (be32 0 ++ [])) = true ∧ (s a).Settled ∧ ((s a).pot 0).sup ≠ .unconfigured
          ∧ ((s a).pot 0).ae ≠ .quiet)
      ∧ ordered.admits (hd 1) (commandPayload .stop 0 [0]) = true ∧ ordered.admits (hd 1) (commandPayload .release 0 [0]) = true
      ∧ ordered.Settled ∧ ordered.gau.answers ≤ 8 ∧ (ordered.group 0).watcher = some 0x0700 ∧ (ordered.group 0).authority ≠ .released := by
  decide +kernel

/-- A status that changes LOCAL to REMOTE claims group 0: full, in withdrawal, and short with the lock off and on. -/
theorem test_Status_claims :
    let s (f : Group → Group) := withGroup fun q => f { q with authority := .released, mode := .localMode, cfg.autoclaim := true }
    let ready (s : State) : Bool := s.takes (past 0x0200) .statusFull && s.takes (past 0x0200) .statusShort && isGroup s && decide s.Settled
      && decide ((s.group 0).authority = .released ∧ (s.group 0).cfg.autoclaim = true ∧ (s.group 0).mode = .localMode
        ∧ s.meu.mode = .supervising)
    ready (s id) = true ∧ ready (s fun q => { q with withdrawal := .withdrawn }) = true ∧ ready (s fun q => { q with cfg.lock := true }) = true
      ∧ ready (s fun q => { q with cfg.lock := true, stale := .holding }) = true ∧ ready (inMode .observing (s id)) = false
      ∧ ((s id).group 0).form = .full ∧ ((s id).group 0).stale = .fresh ∧ (inMode .observing (s id)).Settled := by decide +kernel

/-- Slot ends with two windows that match, with a pending invalidation, with the cache not enabled, and with a miss that is declined or
that finds the fetch table in use. -/
theorem test_SlotEnds_misses :
    let w : TariffWindow := { enable := true, base := 0, mask := 0x7FFF, mode := .mapped, calendarBase := 9 }
    let s (f : Tru → Tru) : State := { base with
      egu.clock := some ⟨1, 1800000⟩, egu.slot := { number := some 0, es := 5 }
      tru := f { base.tru with written.windows := (base.tru.written.windows.set 1 w).set 3 w } }
    let hits (s : State) := s.tru.written.windows.toList.filter fun w => w.enable && ((BitVec.ofNat 15 1 ^^^ w.base) &&& ~~~w.mask) == 0
    let ready (s : State) : Bool := decide (s.resetLow = false ∧ s.meu.mode ≠ .forwardOnly ∧ s.clockNow = some ⟨1, 1800000⟩
      ∧ s.egu.slot.number = some 0 ∧ (⟨1, 1800000⟩ : Clock).slot ≠ 0 ∧ s.Settled ∧ hits s = [w, w])
    let cached (u : Tru) : Tru := { u with cache := u.cache.set 4 { valid := true, tag := 1, index := 10, entry := { valid := true } } }
    let used (u : Tru) : Tru := { u with table := #v[some ⟨1, 3, 4, 99000, false⟩, some ⟨7, 7, 5, 99000, false⟩] }
    ready (s id) = true ∧ (s id).tru.lookupCache 1 10 = none ∧ (s id).tru.declined ≠ some (1, 10) ∧ (s id).tru.table[(0 : Fin 2)] = none
      ∧ ready (s fun u => { cached u with invalidation := true }) = true ∧ (s cached).tru.lookupCache 1 10 = some { valid := true }
      ∧ ready ({ s cached with line.cacheEnable := false } : State) = true
      ∧ ready (s fun u => { u with declined := some (1, 10) }) = true
      ∧ ready (s used) = true ∧ (s used).tru.table[(0 : Fin 2)] = some ⟨1, 3, 4, 99000, false⟩
      ∧ (s used).tru.holdsFetch 1 10 = false := by decide +kernel

/-- The cache is not enabled: only the place of the new slot stays valid (R148, step 7). -/
theorem test_slot_start_empties_the_cache :
    let s : State := { base with
      egu.clock := some ⟨1, 1800000⟩, egu.slot.number := some 0, line.cacheEnable := false
      tru.cache := (base.tru.cache.set 2 { valid := true, tag := 1 }).set 4 { valid := true, tag := 2 } }
    after (exec .slotEnd s) (fun t => t.tru.cache.toList.map CachePlace.valid
      == [false, false, true, false, false, false, false, false]) = true := by decide +kernel

/-- The refused values and the refused index of the other three node addresses. -/
theorem test_Requests_addresses :
    base.takes (hd 1) .request = true ∧ base.Settled ∧ base.meu.sendList.length < 8 ∧ base.meu.management = none
      ∧ [Object.supervisorAddress, .serverAddress, .coolerAddress].map Object.code = [19, 20, 21]
      ∧ (be32 65535 ++ []).length ≤ 55 ∧ (1 : Half) ≠ 0 ∧ 65535 ≤ (65535 : Long).toNat
      ∧ (0x7E00 : Long).toNat = base.address.toNat := by decide +kernel

/-- A pending order that ends while the withdrawal stands, or while a step is open, with an answer, a refusal or no answer. -/
theorem test_GroupOrders_decided_at_once :
    let s (f : Group → Group) := ordered fun q => f { q with confirmed := 9000, authority := .pendingWatched }
    let withdraws := s fun q => { q with withdrawal := .withdrawing, stepOpen := true }
    let steps := s fun q => { q with wanted := 9600, stepOpen := true }
    let regulated (s : State) : Bool := decide (∀ g, s.orderDue (s.group g) = false ∧ s.zeroOrderDue (s.group g) = false
        ∧ ((s.group g).cfg.latch = 0 → (s.group g).stepOpen = false))
    (∀ s ∈ [withdraws, steps], s.takes (hd 0x0200 3) .groupAnswer = true ∧ isGroup s = true ∧ s.Settled ∧ regulated s = true
        ∧ (s.group 0).streak < 2 ∧ (s.group 0).authority = .pendingWatched
        ∧ (s.group 0).order = some { setpoint := 9500, seq := 3, sent := 98000, withdraw := false, unsent := false }
        ∧ s.resetLow = false ∧ 98000 + 2000 ≤ s.time ∧ (s.group 0).stepOpen = true)
      ∧ (withdraws.group 0).withdrawal ≠ .none ∧ (steps.group 0).withdrawal = .none := by decide +kernel

/-- A refused zero order is decided again at once while the withdrawal stands, and one that timed out too (R97, R98, R110). -/
theorem test_zero_order_again :
    let s := ordered fun q => { q with
      confirmed := 9000, withdrawal := .withdrawing
      order := some { setpoint := 0, seq := 3, sent := 98000, withdraw := true, unsent := false } }
    let again (t : State) : Bool := (t.group 0).order.any fun o => o.setpoint == 0 && o.withdraw && o.sent == 100000 && o.seq == s.gau.seq
    after (exec (.groupAnswer (hd 0x0200 3) 2 0 []) s) (fun t => again t && (t.group 0).streak == 1) = true
      ∧ after (exec (.groupOrderTimeout 0) s) (fun t => again t && (t.group 0).counters.noAnswer == 1) = true := by decide +kernel

/-- A group in withdrawal that CLAIM and RETURN-REMOTE claim. -/
theorem test_Claims_in_withdrawal :
    let s := withGroup fun q => { q with authority := .released, cfg.autoclaim := true, withdrawal := .withdrawn, reported := 9000 }
    s.admits (hd 1) (commandPayload .claim 0 [0]) = true ∧ s.Settled ∧ s.claimable (s.group 0) = true ∧ (s.group 0).withdrawal ≠ .none
      ∧ s.takes (hd 0x0700) .groupProbe = true ∧ s.gau.answers < 16 ∧ (s.group 0).cfg.autoclaim = true
      ∧ (s.group 0).probeValue 3 = some (9000, false)
      ∧ (∀ g, s.orderDue (s.group g) = false ∧ s.zeroOrderDue (s.group g) = false
        ∧ ((s.group g).cfg.latch = 0 → (s.group g).stepOpen = false)) := by decide +kernel

/-- Two attempts have failed, or the clear end has come, while a QUENCH frame waits: R53 and R54 take it off the send list. -/
theorem test_waiting_quench_frame_is_cancelled :
    let s (a : AeState) : State := { withPot (fun q => { q with
        ae := a, attempts := 2, logIndex := some 4, order := some { potOrder .quench with unsent := true }
        fx := { q.fx with quenchTimeout := some 100000, clearEnd := some 100000 } }) with
      psu.sendList := [(0, fr 0x0010 0x7E00 0x30 [0, 4])], port.insert := List.replicate 32 (fr 1 2 3 []) }
    let cancelled (t : State) : Bool := t.psu.sendList.isEmpty && (t.pot 0).order.isNone
    (s .quenching).Settled ∧ (s .clearing).Settled ∧ after (exec (.quenchTimeout 0) (s .quenching)) cancelled = true
      ∧ after (exec (.clearEnd 0) (s .clearing)) cancelled = true := by decide +kernel

/-- Records, places and counters that a READ finds: an energy record, an AE record, a cache place, a window and a map entry. -/
theorem test_Requests_fields :
    let r : EnergyRecord := { number := some 7, energy := 5, cost := 4294967296, aeEnergy := 0, overrun := 0, curtailed := 0, minIl := 1
                              maxIl := 2, cls := 3, source := .cache, timeStep := false, gap := false, part := true
                              lostBefore := false }
    let s : State := { worked with egu := { worked.egu with queue := [r, r] } }
    s.egu.queue[1]? = some r ∧ (1 : Nat) ≠ 65535 ∧ s.aeu.log[0]?.isSome = true ∧ s.smap.potMap[511]?.isSome = true
      ∧ s.smap.windows[7]?.isSome = true ∧ s.line.steps[255]?.isSome = true ∧ s.line.profiles[7]?.isSome = true
      ∧ s.tru.written.windows[3]?.isSome = true ∧ s.tru.inForce.windows[3]?.isSome = true
      ∧ (s.objectFields .energyRecord 1).map (fun l => (l.length, l.take 4))
        = some (15, [some 7, some 5, some 1, some 0]) := by decide +kernel

end Sys2Proof.Tests
end

section
/-! The statements on pot answers: the row hands its answer to PSU, PSU finds the pot whose order it matches, and the answer is worked by
kind and result. -/

namespace Sys2Proof.Machine

/-! ### The row -/

/-- A frame of a kind that is not read in passing is taken by its addressee alone, and so is consumed (R159). -/
theorem State.carried_of_not_passing {s : State} {h : Header} {k : TakenKind} (p : List Byte) (ht : s.takes h k = true)
    (hk : k.passing = false) : s.carried h k p = s := by
  have hd : h.dest = s.address := by simp_all [State.takes]
  simp [State.carried, State.passOn, frameOf, hd]

/-- A POT-ANSWER that the part takes is worked by PSU alone, whatever its trailing bytes (R33, R159). -/
theorem exec_potAnswer_of_takes {s : State} {h : Header} {extra : List Byte} (slot result : Byte)
    (ht : s.takes h .potAnswer = true) (hx : extra.length ≤ 58) :
    exec (.potAnswer h slot result extra) s = .next (s.takePotAnswer h.src h.seq slot result) := by
  have hmin : TakenKind.potAnswer.length ≤ (potAnswerPayload slot result extra).length := by
    simp [TakenKind.length, potAnswerPayload]
  have hmax : (potAnswerPayload slot result extra).length ≤ Config.payloadMax := by
    simp only [potAnswerPayload, Config.payloadMax, List.length_append, List.length_cons, List.length_nil]
    omega
  have hexec : exec (.potAnswer h slot result extra) s = execPotAnswer h slot result extra s := rfl
  rw [hexec, execPotAnswer, State.frameRow_of_takes _ ht hmin hmax, State.carried_of_not_passing _ ht rfl]

/-! ### Which pot an answer is for (R33, R38) -/

/-- `State.answers` names the first pot that the search of an answer finds. -/
theorem State.find_answeredBy_of_answers {s : State} {p : Fin 384} {src : Addr} {slot seq : Byte}
    (ha : s.answers p src slot seq = true) :
    (List.finRange 384).find? (fun p => (s.pot p).answeredBy src slot.toNat seq) = some p := by
  simp only [State.answers, Bool.and_eq_true, List.all_eq_true, List.mem_finRange, forall_const, Bool.or_eq_true,
    Bool.not_eq_true', decide_eq_true_eq] at ha
  obtain ⟨hp, hmin⟩ := ha
  rw [← Fin.find?_eq_find?_finRange, Fin.find?_eq_some_iff]
  exact ⟨hp, fun q hq => (hmin q).resolve_right (not_le.mpr hq)⟩

/-- A matched answer is an answer to the order that its pot has outstanding. -/
theorem State.takePotAnswer_of_answers {s : State} {p : Fin 384} {o : PotOrder} {src : Addr} {slot seq : Byte} (result : Byte)
    (ho : (s.pot p).order = some o) (ha : s.answers p src slot seq = true) :
    s.takePotAnswer src seq slot result = s.answerOrder p o result := by
  simp [State.takePotAnswer, State.find_answeredBy_of_answers ha, ho]

/-- An answer that fits no order is a late one, whatever its result. -/
theorem State.takePotAnswer_of_unmatched {s : State} {src : Addr} {slot seq : Byte} (result : Byte)
    (hno : ∀ p, (s.pot p).answeredBy src slot.toNat seq = false) :
    s.takePotAnswer src seq slot result = s.lateAnswer src slot.toNat := by
  have hnone : (List.finRange 384).find? (fun p => (s.pot p).answeredBy src slot.toNat seq) = none := by
    simp [List.find?_eq_none, hno]
  simp [State.takePotAnswer, hnone]

/-- A late answer counts in the lowest pot with its order address. -/
theorem State.lateAnswer_of_lowest {s : State} {p : Fin 384} {src : Addr} {slot : Nat}
    (hp : (s.pot p).orderAddress = some (src, slot)) (hmin : ∀ p' < p, (s.pot p').orderAddress ≠ some (src, slot)) :
    s.lateAnswer src slot = s.modPot p fun q => { q with lateAnswers := bump16 q.lateAnswers } := by
  have hfind : (List.finRange 384).find? (fun p => (s.pot p).orderAddress == some (src, slot)) = some p := by
    rw [← Fin.find?_eq_find?_finRange, Fin.find?_eq_some_iff]
    exact ⟨beq_iff_eq.mpr hp, fun q hq => beq_eq_false_iff_ne.mpr (hmin q hq)⟩
  simp [State.lateAnswer, hfind]

/-- A late answer from an address of no pot counts as unplaced. -/
theorem State.lateAnswer_of_unplaced {s : State} {src : Addr} {slot : Nat}
    (hno : ∀ p, (s.pot p).orderAddress ≠ some (src, slot)) :
    s.lateAnswer src slot = { s with psu.counters.unplaced := bump32 s.psu.counters.unplaced } := by
  have hnone : (List.finRange 384).find? (fun p => (s.pot p).orderAddress == some (src, slot)) = none := by
    simp [List.find?_eq_none, hno]
  simp [State.lateAnswer, hnone]

/-! ### What an answer does (R34, R35, R50) -/

/-- Every order but a QUENCH is an advice. -/
theorem OrderKind.advice_iff_ne_quench (k : OrderKind) : k.advice = true ↔ k ≠ .quench := by
  cases k <;> simp [OrderKind.advice]

/-- A dropped order leaves the record and the send list (R31). -/
theorem State.dropPotOrder_eq (s : State) (p : Fin 384) :
    s.dropPotOrder p = { s with psu := { s.psu with
      pots := s.psu.pots.set p { s.pot p with order := none }, sendList := s.psu.sendList.filter fun e => e.1 != p } } := rfl

/-- A cleared advice is a dropped order with the dwell count at 0 (R34 to R36). -/
theorem State.clearAdvice_eq (s : State) (p : Fin 384) :
    s.clearAdvice p = { s with psu := { s.psu with
      pots := s.psu.pots.set p { s.pot p with order := none, dwell := 0 }
      sendList := s.psu.sendList.filter fun e => e.1 != p } } := by
  simp [State.clearAdvice, State.dropPotOrder, State.modPot, State.pot]

/-- A change of an effect's record is the amended log of the statements (R58). -/
theorem State.modOpenRecord_eq_amended (s : State) (p : Fin 384) (f : AeRecord → AeRecord) :
    s.modOpenRecord p f = { s with aeu.log := s.aeu.amended (s.pot p).logIndex f } := by
  rw [State.modOpenRecord_eq]
  cases (s.pot p).logIndex <;> rfl

/-- TAKEN for a QUENCH order, whatever the AE state (R50). -/
theorem State.quenchTaken_eq (s : State) (p : Fin 384) :
    s.quenchTaken p = { s with
      psu := { s.psu with
        pots := s.psu.pots.set p { s.pot p with order := none }, sendList := s.psu.sendList.filter fun e => e.1 != p }
      aeu := { s.aeu with
        log := s.aeu.amended (s.pot p).logIndex fun r => { r with quenchTaken := r.quenchTaken + 1 }
        counters.quenchTaken := bump32 s.aeu.counters.quenchTaken } } := by
  rw [State.quenchTaken, State.modOpenRecord_eq_amended, State.pot_dropPotOrder, State.dropPotOrder_eq]

/-- TAKEN is worked by the kind of the order (R34, R50). -/
theorem State.answerOrder_taken (s : State) (p : Fin 384) (o : PotOrder) :
    s.answerOrder p o 1 = if o.kind.advice then s.adviceTaken p else s.quenchTaken p := rfl

/-- DECLINED is worked by the kind of the order (R35, R51). -/
theorem State.answerOrder_declined (s : State) (p : Fin 384) (o : PotOrder) :
    s.answerOrder p o 2 = if o.kind.advice then s.adviceDeclined p o else s.quenchDeclined p o.seq := rfl

/-- A result that is neither TAKEN nor DECLINED is counted, and the order stands (R33). -/
theorem State.answerOrder_bad (s : State) (p : Fin 384) (o : PotOrder) {result : Byte} (h1 : result ≠ 1) (h2 : result ≠ 2) :
    s.answerOrder p o result = { s with psu.counters.badAnswer := bump32 s.psu.counters.badAnswer } := by
  rw [State.answerOrder, if_neg h1, if_neg h2]

/-! ### The statements -/

/-- Settles O28: the row is `State.answerOrder` for the matched pot, and each result has its equation above. -/
theorem answersClearPotOrders : Obligations.AnswersClearPotOrders := by
  intro h slot result extra p o s ht hx ho ha
  rw [exec_potAnswer_of_takes slot result ht hx, State.takePotAnswer_of_answers result ho ha]
  refine ⟨?advice_taken, ?advice_declined, ?quench_taken, ?bad_result⟩
  case advice_taken =>
    rintro hk rfl
    rw [State.answerOrder_taken, if_pos ((OrderKind.advice_iff_ne_quench _).mpr hk), State.adviceTaken,
      State.clearAdvice_eq]
  case advice_declined =>
    rintro hk rfl
    rw [State.answerOrder_declined, if_pos ((OrderKind.advice_iff_ne_quench _).mpr hk), State.adviceDeclined,
      State.clearAdvice_eq]
  case quench_taken =>
    rintro hk rfl
    rw [State.answerOrder_taken, if_neg (by simp [OrderKind.advice_iff_ne_quench, hk]), State.quenchTaken_eq]
  case bad_result =>
    intro h1 h2
    rw [State.answerOrder_bad s p o h1 h2]

/-- Settles O29: an answer that fits no order is late, and is counted where its address leads. -/
theorem latePotAnswersAreOnlyCounted : Obligations.LatePotAnswersAreOnlyCounted := by
  intro h slot result extra s ht hx hno
  rw [exec_potAnswer_of_takes slot result ht hx, State.takePotAnswer_of_unmatched result hno]
  refine ⟨fun p hp hmin => ?placed, fun hnone => ?unplaced⟩
  case placed =>
    rw [State.lateAnswer_of_lowest hp hmin]
    rfl
  case unplaced =>
    rw [State.lateAnswer_of_unplaced hnone]

end Sys2Proof.Machine
end

section
/-! SUPPORT. What leaves the pots alone: every operation of the ring port, the line regulator, the group authority unit, the cooling unit,
the energy unit and the tariff unit, each said once, in the order of the model. -/

namespace Sys2Proof.Machine

/-! ### The pots but for unsent flags -/

/-- The pot records, but for the unsent flags of their orders. -/
def Psu.sentForms (u : Psu) : Vector Pot 384 := u.pots.map Pot.sentForm

@[simp] theorem Psu.sentForms_update (u : Psu) (seq : Byte) (l : List (Fin 384 × Frame)) (c : PsuCounters) :
    Psu.sentForms { pots := u.pots, seq := seq, sendList := l, counters := c } = u.sentForms := rfl

/-- From `s` to `t` no pot record changes but for the unsent flag of its order, and nothing of the anode effect unit. -/
@[simp, reducible] def PotsKept (s t : State) : Prop := t.psu.sentForms = s.psu.sentForms ∧ t.aeu = s.aeu

theorem PotsKept.refl (s : State) : PotsKept s s := ⟨rfl, rfl⟩

theorem PotsKept.trans {s t u : State} (h : PotsKept s t) (h' : PotsKept t u) : PotsKept s u :=
  ⟨h'.1.trans h.1, h'.2.trans h.2⟩

/-- Each pot is then as before but for that flag. -/
theorem PotsKept.sentForm {s t : State} (h : PotsKept s t) (p : Fin 384) : (t.pot p).sentForm = (s.pot p).sentForm := by
  have hp := congrArg (fun v : Vector Pot 384 => v[p]) h.1
  simpa [Psu.sentForms, State.pot] using hp

/-- A fold of operations that leave the pots alone does. -/
theorem potsKept_foldl {α : Type} {f : State → α → State} (hf : ∀ s a, PotsKept s (f s a)) (l : List α) :
    ∀ s : State, PotsKept s (l.foldl f s) := by
  induction l with
  | nil => exact .refl
  | cons a l ih => exact fun s => (hf s a).trans (ih _)

/-! ### Admission, events and send lists -/

/-- An admission clears unsent flags alone. -/
theorem Admitted.potsKept {s t : State} (h : Admitted s t) : PotsKept s t := by
  refine ⟨Vector.ext fun i hi => ?_, by rw [h.rest]⟩
  simpa [Psu.sentForms, State.pot] using h.pots ⟨i, hi⟩

@[simp] theorem potsKept_settle (s : State) : PotsKept s s.settle := s.settle_admitted.potsKept

@[simp] theorem potsKept_raise (s : State) (k : EventKind) (j a b : Nat) : PotsKept s (s.raise k j a b) := by
  simp [State.raise]

@[simp] theorem potsKept_sendReply (s : State) (f : Frame) : PotsKept s (s.sendReply f) := by
  unfold State.sendReply
  split <;> simp

@[simp] theorem potsKept_sendGroupOrder (s : State) (g : Fin 8) (f : Frame) : PotsKept s (s.sendGroupOrder g f) := by
  unfold State.sendGroupOrder
  dsimp only
  split <;> simp

@[simp] theorem potsKept_sendAnswer (s : State) (f : Frame) : PotsKept s (s.sendAnswer f) := by
  unfold State.sendAnswer
  dsimp only
  split <;> simp

@[simp] theorem potsKept_sendNotice (s : State) (f : Frame) : PotsKept s (s.sendNotice f) := by
  unfold State.sendNotice
  split
  · simp
  · split <;> simp

@[simp] theorem potsKept_sendAsk (s : State) (f : Frame) : PotsKept s (s.sendAsk f) := by
  simp [State.sendAsk]

@[simp] theorem potsKept_sendCoolerOrder (s : State) (f : Frame) : PotsKept s (s.sendCoolerOrder f) := by
  simp [State.sendCoolerOrder]

/-! ### The line regulator -/

@[simp] theorem potsKept_allocate (s : State) : PotsKept s s.allocate := by
  rw [s.allocate_rest]
  exact ⟨rfl, rfl⟩

@[simp] theorem potsKept_reallocate (s before : State) : PotsKept s (s.reallocate before) := by
  unfold State.reallocate
  split <;> simp

@[simp] theorem potsKept_workBelowFloor (s : State) : PotsKept s s.workBelowFloor := by
  unfold State.workBelowFloor
  split
  · split <;> simp
  · simp

@[simp] theorem potsKept_takeCapacity (s : State) : PotsKept s s.takeCapacity := by
  unfold State.takeCapacity
  split <;> simp

@[simp] theorem potsKept_workAeHold (s : State) : PotsKept s s.workAeHold := ⟨rfl, rfl⟩

@[simp] theorem potsKept_workHeatRecovery (s : State) : PotsKept s s.workHeatRecovery := by
  unfold State.workHeatRecovery
  dsimp only
  split
  · simp
  · split <;> simp

@[simp] theorem potsKept_workCapBinding (s : State) (bound : Bool) (iw : Nat) : PotsKept s (s.workCapBinding bound iw) := by
  unfold State.workCapBinding
  split
  · split <;> simp
  · simp

@[simp] theorem potsKept_compose (s : State) (dt : Nat) : PotsKept s (s.compose dt) := by
  simp [State.compose]

@[simp] theorem potsKept_workTrim (s : State) : PotsKept s s.workTrim := ⟨rfl, rfl⟩

@[simp] theorem potsKept_enterStep (s : State) (n : Fin 8) (k : Fin 256) : PotsKept s (s.enterStep n k) := by
  unfold State.enterStep
  dsimp only
  split <;> simp

@[simp] theorem potsKept_startProfile (s : State) (n : Fin 8) : PotsKept s (s.startProfile n) := potsKept_enterStep s n _

@[simp] theorem potsKept_runOut (s : State) : PotsKept s s.runOut := by
  unfold State.runOut
  dsimp only
  split
  · simp
  · split <;> simp

@[simp] theorem potsKept_trigger (s : State) (cls : Nat) : PotsKept s (s.trigger cls) := by
  unfold State.trigger
  split
  · split <;> simp
  · simp

@[simp] theorem potsKept_zeroWanted (s : State) : PotsKept s s.zeroWanted := ⟨rfl, rfl⟩

@[simp] theorem potsKept_trip (s : State) : PotsKept s s.trip := by
  simp [State.trip]

/-! ### The group authority unit -/

@[simp] theorem potsKept_notify (s : State) (g : Fin 8) : PotsKept s (s.notify g) := by
  unfold State.notify
  dsimp only
  split <;> simp

@[simp] theorem potsKept_decideOrder (s : State) (g : Fin 8) (setpoint : Nat) (withdraw : Bool) :
    PotsKept s (s.decideOrder g setpoint withdraw) := by
  unfold State.decideOrder
  dsimp only
  split <;> simp

@[simp] theorem potsKept_decideFor (s : State) (g : Fin 8) : PotsKept s (s.decideFor g) := by
  unfold State.decideFor
  dsimp only
  split
  · simp
  · split <;> simp

@[simp] theorem potsKept_decideAll (s : State) : PotsKept s s.decideAll := potsKept_foldl potsKept_decideFor _ s

@[simp] theorem potsKept_regulate (s : State) : PotsKept s s.regulate := by
  unfold State.regulate
  dsimp only
  split <;> simp

@[simp] theorem potsKept_releaseCore (s : State) (g : Fin 8) : PotsKept s (s.releaseCore g) := by
  unfold State.releaseCore
  dsimp only
  split <;> simp

@[simp] theorem potsKept_releaseGroup (s : State) (g : Fin 8) : PotsKept s (s.releaseGroup g) := by
  unfold State.releaseGroup
  split <;> simp

@[simp] theorem potsKept_releaseAll (s : State) : PotsKept s s.releaseAll := potsKept_foldl potsKept_releaseCore _ s

@[simp] theorem potsKept_claimGroup (s : State) (g : Fin 8) : PotsKept s (s.claimGroup g) := by
  simp [State.claimGroup]

@[simp] theorem potsKept_autoclaim (s : State) (g : Fin 8) : PotsKept s (s.autoclaim g) := by
  unfold State.autoclaim
  dsimp only
  split <;> simp

@[simp] theorem potsKept_endOrder (s : State) (g : Fin 8) : PotsKept s (s.endOrder g) := ⟨rfl, rfl⟩

@[simp] theorem potsKept_orderTaken (s : State) (g : Fin 8) (o : GroupOrder) : PotsKept s (s.orderTaken g o) := by
  simp [State.orderTaken]

@[simp] theorem potsKept_orderRefused (s : State) (g : Fin 8) (o : GroupOrder) : PotsKept s (s.orderRefused g o) := by
  unfold State.orderRefused
  dsimp only
  split <;> simp

@[simp] theorem potsKept_takeGroupAnswer (s : State) (src : Addr) (seq result : Byte) (setpoint : Nat) :
    PotsKept s (s.takeGroupAnswer src seq result setpoint) := by
  have hmismatch : ∀ (o : GroupOrder) (g : Fin 8) (f : Group → Group),
      PotsKept s (if setpoint = o.setpoint then s else s.modGroup g f) := fun o g f => by split <;> simp
  unfold State.takeGroupAnswer
  dsimp only
  split
  · simp
  · split
    · simp
    · split
      · simp
      · split
        · simp [hmismatch]
        · split <;> simp [hmismatch]

@[simp] theorem potsKept_orderTimeout (s : State) (g : Fin 8) : PotsKept s (s.orderTimeout g) := by
  simp [State.orderTimeout]

/-- Every next-state of a probe leaves the pots alone (R102, R103). -/
theorem potsKept_probeNext {s : State} {g : Fin 8} {next : Byte} {src : Addr} {w : State × ProbeResult}
    (h : s.probeNext g next src = some w) : PotsKept s w.1 := by
  have hwatch : PotsKept s (s.probeWatch g src).1 := by
    unfold State.probeWatch
    dsimp only
    split
    · simp
    · split <;> simp
  have hunwatch : PotsKept s (s.probeUnwatch g src).1 := by
    unfold State.probeUnwatch
    split <;> simp
  have hremote : PotsKept s (s.probeReturnRemote g).1 := by
    unfold State.probeReturnRemote
    split <;> simp
  unfold State.probeNext at h
  split_ifs at h <;> cases h
  · simp
  · exact hwatch
  · exact hunwatch
  · exact potsKept_releaseGroup s g
  · exact hremote

@[simp] theorem potsKept_takeProbe (s : State) (src : Addr) (seq group data next : Byte) :
    PotsKept s (s.takeProbe src seq group data next) := by
  unfold State.takeProbe
  dsimp only
  split
  · simp
  · split
    · split
      · split
        · next hnext => exact (potsKept_probeNext hnext).trans (by simp)
        · simp
      · simp
    · simp

@[simp] theorem potsKept_workStatusMode (s : State) (g : Fin 8) (m : StatusMode) : PotsKept s (s.workStatusMode g m) := by
  unfold State.workStatusMode
  dsimp only
  split <;> simp

@[simp] theorem potsKept_startWithdrawal (s : State) (g : Fin 8) : PotsKept s (s.startWithdrawal g) := by
  unfold State.startWithdrawal
  dsimp only
  split <;> simp

@[simp] theorem potsKept_endWithdrawal (s : State) (g : Fin 8) : PotsKept s (s.endWithdrawal g) := ⟨rfl, rfl⟩

/-! ### The cooling unit -/

@[simp] theorem potsKept_evaluateCap (s : State) (g : Fin 8) : PotsKept s (s.evaluateCap g) := by
  unfold State.evaluateCap
  split <;> simp

@[simp] theorem potsKept_evaluateAll (s : State) : PotsKept s s.evaluateAll := potsKept_foldl potsKept_evaluateCap _ s

@[simp] theorem potsKept_evaluateStage (s : State) : PotsKept s s.evaluateStage := ⟨rfl, rfl⟩

@[simp] theorem potsKept_handCapacity (s before : State) : PotsKept s (s.handCapacity before) := by
  unfold State.handCapacity
  dsimp only
  split <;> simp

@[simp] theorem potsKept_handOn (s before : State) : PotsKept s (s.handOn before) := by
  simp [State.handOn]

@[simp] theorem potsKept_curveComputation (s : State) (g : Fin 8) : PotsKept s (s.curveComputation g) := by
  unfold State.curveComputation
  dsimp only
  split
  · simp
  · split <;> simp

@[simp] theorem potsKept_basicComputation (s : State) (g : Fin 8) : PotsKept s (s.basicComputation g) := by
  simp [State.basicComputation]

@[simp] theorem potsKept_workShortfall (s : State) : PotsKept s s.workShortfall := by
  unfold State.workShortfall
  split
  · split <;> simp
  · simp

@[simp] theorem potsKept_workPercentage (s : State) : PotsKept s s.workPercentage := by
  unfold State.workPercentage
  dsimp only
  split <;> simp

@[simp] theorem potsKept_orderStage (s : State) : PotsKept s s.orderStage := by
  simp [State.orderStage]

@[simp] theorem potsKept_changeStage (s : State) (wanted : Nat) : PotsKept s (s.changeStage wanted) := by
  simp [State.changeStage]

@[simp] theorem potsKept_takeCoolerStatus (s : State) (src : Addr) (running available : Byte) :
    PotsKept s (s.takeCoolerStatus src running available) := by
  unfold State.takeCoolerStatus
  dsimp only
  split
  · split
    · simp
    · split <;> simp
  · simp

@[simp] theorem potsKept_coolerFails (s : State) : PotsKept s s.coolerFails := by
  simp [State.coolerFails]

@[simp] theorem potsKept_confirmPending (s : State) (g : Fin 8) : PotsKept s (s.confirmPending g) := by
  unfold State.confirmPending
  split <;> simp

@[simp] theorem potsKept_recordShort (s : State) (g : Fin 8) (current tap : Nat) : PotsKept s (s.recordShort g current tap) := by
  unfold State.recordShort
  dsimp only
  split <;> simp

@[simp] theorem potsKept_recordStatus (s : State) (g : Fin 8) (current tap : Nat) (full : Option FullStatus) :
    PotsKept s (s.recordStatus g current tap full) := by
  unfold State.recordStatus
  dsimp only
  split
  · simp
  · split <;> simp

@[simp] theorem potsKept_coolStatus (s : State) (g : Fin 8) (wasFresh : Bool) (full : Option FullStatus) :
    PotsKept s (s.coolStatus g wasFresh full) := by
  unfold State.coolStatus
  split
  · simp
  · simp
  · split <;> simp

@[simp] theorem potsKept_workStatus (s : State) (g : Fin 8) (m : StatusMode) (current tap : Nat) (full : Option FullStatus) :
    PotsKept s (s.workStatus g m current tap full) := by
  unfold State.workStatus
  dsimp only
  split <;> simp

@[simp] theorem potsKept_takeStatus (s : State) (src : Addr) (mode : Byte) (current : Half) (tap : Byte) (full : Option FullStatus) :
    PotsKept s (s.takeStatus src mode current tap full) := by
  unfold State.takeStatus
  split
  · split
    · simp
    · split
      · split <;> simp
      · simp
  · simp

@[simp] theorem potsKept_holdGroup (s : State) (g : Fin 8) : PotsKept s (s.holdGroup g) := by
  simp [State.holdGroup]

@[simp] theorem potsKept_silenceGroup (s : State) (g : Fin 8) : PotsKept s (s.silenceGroup g) := by
  unfold State.silenceGroup
  dsimp only
  split <;> simp

@[simp] theorem potsKept_setFull (s : State) (g : Fin 8) : PotsKept s (s.setFull g) := by
  simp [State.setFull]

@[simp] theorem potsKept_changePresence (s : State) (g : Fin 8) (present : Bool) : PotsKept s (s.changePresence g present) := by
  simp [State.changePresence]

/-! ### The energy unit -/

@[simp] theorem potsKept_takeEnergy (s : State) (il vl dt : Nat) (clamped : Bool) : PotsKept s (s.takeEnergy il vl dt clamped) :=
  ⟨rfl, rfl⟩

@[simp] theorem potsKept_addCurtailed (s : State) (dt : Nat) : PotsKept s (s.addCurtailed dt) := by
  unfold State.addCurtailed
  split <;> simp

@[simp] theorem potsKept_appendRecord (s : State) (r : EnergyRecord) : PotsKept s (s.appendRecord r) := by
  unfold State.appendRecord
  dsimp only
  split <;> simp

@[simp] theorem potsKept_closeSlot (s : State) : PotsKept s s.closeSlot := by
  unfold State.closeSlot
  dsimp only
  split <;> simp

/-! ### The tariff unit -/

@[simp] theorem potsKept_issueFetch (s : State) (k : Fin 2) (n : Nat) (i : Half) : PotsKept s (s.issueFetch k n i) := by
  simp [State.issueFetch]

@[simp] theorem potsKept_refillFrom (k : Fin 2) (l : List (Nat × Half)) : ∀ s : State, PotsKept s (s.refillFrom k l) := by
  induction l with
  | nil => exact fun s => ⟨rfl, rfl⟩
  | cons e rest ih =>
    intro s
    unfold State.refillFrom
    split
    · simp
    · exact ih s

@[simp] theorem potsKept_refill (s : State) (k : Fin 2) : PotsKept s (s.refill k) := potsKept_refillFrom k _ s

@[simp] theorem potsKept_abandonOther (s : State) (n : Nat) : PotsKept s (s.abandonOther n) := by
  unfold State.abandonOther
  dsimp only
  split <;> simp

@[simp] theorem potsKept_requestFetch (s : State) (n : Nat) (i : Half) : PotsKept s (s.requestFetch n i) := by
  unfold State.requestFetch
  dsimp only
  split
  · simp
  · split <;> simp

@[simp] theorem potsKept_makePrefetch (s : State) : PotsKept s s.makePrefetch := by
  unfold State.makePrefetch
  dsimp only
  split
  · simp
  · split
    · simp
    · split <;> simp

@[simp] theorem potsKept_testPrefetch (s : State) : PotsKept s s.testPrefetch := by
  unfold State.testPrefetch
  split <;> simp

@[simp] theorem potsKept_chooseEntry (s : State) (n : Nat) : PotsKept s (s.chooseEntry n).1 := by
  unfold State.chooseEntry
  dsimp only
  split
  · simp
  · split
    · simp
    · split
      · simp
      · split <;> simp

@[simp] theorem potsKept_startSlot (s : State) (n : Nat) : PotsKept s (s.startSlot n) := by
  simp [State.startSlot]

@[simp] theorem potsKept_tariffError (s : State) (k : ErrorKind) (n : Nat) (i : Half) (code : Nat) :
    PotsKept s (s.tariffError k n i code) := by
  simp [State.tariffError]

@[simp] theorem potsKept_validAnswer (s : State) (k : Fin 2) (a : CalendarAnswer) : PotsKept s (s.validAnswer k a) := by
  unfold State.validAnswer
  dsimp only
  split <;> simp

@[simp] theorem potsKept_invalidAnswer (s : State) (k : Fin 2) (a : CalendarAnswer) : PotsKept s (s.invalidAnswer k a) := by
  simp [State.invalidAnswer]

@[simp] theorem potsKept_takeCalendarEntry (s : State) (seq : Byte) (a : CalendarAnswer) :
    PotsKept s (s.takeCalendarEntry seq a) := by
  unfold State.takeCalendarEntry
  split
  · split
    · simp
    · split <;> simp
  · simp

@[simp] theorem potsKept_fetchExpires (s : State) (k : Fin 2) : PotsKept s (s.fetchExpires k) := by
  unfold State.fetchExpires
  split <;> simp

/-! ### Slots, time marks and line samples -/

@[simp] theorem potsKept_openSlot (s : State) (n : Nat) (timeStep part : Bool) : PotsKept s (s.openSlot n timeStep part) := by
  simp [State.openSlot]

@[simp] theorem potsKept_endSlot (s : State) : PotsKept s s.endSlot := by
  unfold State.endSlot
  split <;> simp

@[simp] theorem potsKept_endDay (s : State) : PotsKept s s.endDay := ⟨rfl, rfl⟩

@[simp] theorem potsKept_firstMark (s : State) (c : Clock) : PotsKept s (s.firstMark c) := by
  simp [State.firstMark]

@[simp] theorem potsKept_reportStep (s : State) (old new : Clock) : PotsKept s (s.reportStep old new) := by
  simp [State.reportStep]

@[simp] theorem potsKept_laterMark (s : State) (old c : Clock) : PotsKept s (s.laterMark old c) := by
  unfold State.laterMark
  dsimp only
  by_cases hstep : 2000 < distance c.linear old.linear
  · simp only [hstep, decide_true, if_true]
    split <;> simp
  · simp only [hstep, decide_false, Bool.false_eq_true, if_false]
    split <;> simp

@[simp] theorem potsKept_takeMark (s : State) (day ms : Nat) : PotsKept s (s.takeMark day ms) := by
  unfold State.takeMark
  dsimp only
  split
  · split
    · split <;> simp
    · simp
  · simp

@[simp] theorem potsKept_restartSlot (s : State) : PotsKept s s.restartSlot := by
  unfold State.restartSlot
  dsimp only
  split
  · simp
  · split <;> simp

@[simp] theorem potsKept_composeStage (s : State) (dt : Nat) : PotsKept s (s.composeStage dt) := by
  unfold State.composeStage
  split <;> simp

@[simp] theorem potsKept_sampleStages (s : State) (il vl : Nat) : PotsKept s (s.sampleStages il vl) := by
  simp [State.sampleStages]

@[simp] theorem potsKept_takeLineSample (s : State) (il vl : Nat) : PotsKept s (s.takeLineSample il vl) := by
  unfold State.takeLineSample
  split
  · simp [State.workLineSample]
  · simp

/-! ### Restart, STOP, claims and the ring port -/

@[simp] theorem potsKept_restartGroups (s : State) : PotsKept s s.restartGroups := by
  simp [State.restartGroups]

@[simp] theorem potsKept_restartCooling (s : State) : PotsKept s s.restartCooling := by
  simp [State.restartCooling]

@[simp] theorem potsKept_restartLine (s : State) : PotsKept s s.restartLine := ⟨rfl, rfl⟩

@[simp] theorem potsKept_beginRestart (s : State) : PotsKept s s.beginRestart := by
  simp [State.beginRestart]

@[simp] theorem potsKept_stop (s : State) : PotsKept s s.stop := by
  simp [State.stop]

@[simp] theorem potsKept_claimAll (s : State) : PotsKept s s.claimAll := potsKept_foldl potsKept_autoclaim _ s

@[simp] theorem potsKept_sendNext (s : State) : PotsKept s s.sendNext := by
  unfold State.sendNext
  split
  · simp
  · simp
  · simp
  · split <;> simp

@[simp] theorem potsKept_deferralExpires (s : State) : PotsKept s s.deferralExpires := by
  simp [State.deferralExpires]

@[simp] theorem potsKept_passOn (s : State) (f : Frame) : PotsKept s (s.passOn f) := by
  unfold State.passOn State.forward
  split <;> simp

end Sys2Proof.Machine
end

section
/-! SUPPORT. Requests and the pots: what a checked write gives is what it writes or the state as it stands, and every WRITE but one of POT,
every READ and every command but START and RESTART leaves the pots alone. -/

namespace Sys2Proof.Machine

/-! ### Checked writes (R167) -/

@[simp] theorem State.refuse_fst (s : State) (c : ReplyCode) : (s.refuse c).1 = s := rfl
@[simp] theorem State.done_fst (s : State) : s.done.1 = s := rfl
@[simp] theorem State.wrote_fst (s : State) (value : Long) (clamped : Bool) : (s.wrote value clamped).1 = s := rfl
@[simp] theorem writeClamped_fst (lo hi v : Nat) (f : Nat → State) : (writeClamped lo hi v f).1 = f (clampNat lo hi v) := rfl

section
variable (P : State → Prop) {s : State} (hs : P s)
include hs

theorem State.writeUpTo_keeps {hi v : Nat} {f : Nat → State} (hf : ∀ n, P (f n)) : P (s.writeUpTo hi v f).1 := by
  unfold State.writeUpTo
  split
  · exact hf v
  · exact hs

theorem State.writeFlag_keeps {v : Nat} {f : Bool → State} (hf : ∀ b, P (f b)) : P (s.writeFlag v f).1 :=
  State.writeUpTo_keeps P hs fun _ => hf _

theorem State.writeChoice_keeps {α : Type} {choice : Nat → Option α} {v : Nat} {f : α → State} (hf : ∀ a, P (f a)) :
    P (s.writeChoice choice v f).1 := by
  unfold State.writeChoice
  split
  · exact hs
  · exact hf _

theorem State.needing_keeps {bytes : Nat} {values : List Byte} {w : Worked} (hw : P w.1) : P (s.needing bytes values w).1 := by
  unfold State.needing
  split
  · exact hs
  · exact hw

/-- A write to an object by its index. -/
theorem State.indexed_keeps {bytes n index : Nat} {values : List Byte} (w : Fin n → Worked) (hw : ∀ k, P (w k).1) :
    P (s.needing bytes values (if h : index < n then w ⟨index, h⟩ else s.refuse .badIndex)).1 := by
  refine State.needing_keeps P hs ?_
  split
  · exact hw _
  · exact hs

theorem State.onGroup_keeps {arg : Nat} {f : Fin 8 → Worked} (hf : ∀ g, P (f g).1) : P (s.onGroup arg f).1 := by
  unfold State.onGroup
  split
  · exact hf _
  · exact hs

theorem State.writeAddress_keeps {index : Nat} {values : List Byte} {f : Addr → State} (hf : ∀ a, P (f a)) :
    P (s.writeAddress index values f).1 := by
  unfold State.writeAddress
  refine State.needing_keeps P hs ?_
  dsimp only
  split
  · split
    · exact hs
    · exact hf _
  · exact hs

end

/-! ### Writes that leave the pots alone -/

@[simp] theorem potsKept_writeUpTo {s : State} {hi v : Nat} {f : Nat → State} (hf : ∀ n, PotsKept s (f n)) :
    PotsKept s (s.writeUpTo hi v f).1 := State.writeUpTo_keeps (PotsKept s) (.refl s) hf

@[simp] theorem potsKept_writeFlag {s : State} {v : Nat} {f : Bool → State} (hf : ∀ b, PotsKept s (f b)) :
    PotsKept s (s.writeFlag v f).1 := State.writeFlag_keeps (PotsKept s) (.refl s) hf

@[simp] theorem potsKept_writeChoice {s : State} {α : Type} {choice : Nat → Option α} {v : Nat} {f : α → State}
    (hf : ∀ a, PotsKept s (f a)) : PotsKept s (s.writeChoice choice v f).1 := State.writeChoice_keeps (PotsKept s) (.refl s) hf

theorem potsKept_writeSection (s : State) (index field : Nat) (values : List Byte) :
    PotsKept s (s.writeSection index field values).1 := by
  refine State.indexed_keeps (PotsKept s) (.refl s) (fun w => s.writeSectionField w field _) fun w => ?_
  unfold State.writeSectionField
  split
  case h_3 => split <;> simp [State.setSection]
  all_goals simp [State.setSection]

theorem potsKept_writeMap (s : State) (index : Nat) (values : List Byte) : PotsKept s (s.writeMap index values).1 := by
  refine State.indexed_keeps (PotsKept s) (.refl s) (fun i => s.writeMapEntry i _) fun i => ?_
  unfold State.writeMapEntry
  dsimp only
  split
  · simp
  · split <;> simp

theorem potsKept_writePresent (s : State) (g : Fin 8) (v : Nat) : PotsKept s (s.writePresent g v).1 := by
  unfold State.writePresent
  dsimp only
  split_ifs <;> simp

theorem potsKept_writeNode (s : State) (g : Fin 8) (v : Nat) : PotsKept s (s.writeNode g v).1 := by
  unfold State.writeNode
  dsimp only
  split_ifs <;> simp [State.setGroupCfg]

theorem potsKept_writeGroup (s : State) (index field : Nat) (values : List Byte) :
    PotsKept s (s.writeGroup index field values).1 := by
  refine State.indexed_keeps (PotsKept s) (.refl s) (fun g => s.writeGroupField g field _) fun g => ?_
  unfold State.writeGroupField
  split
  case h_1 => exact potsKept_writePresent s g _
  case h_2 => exact potsKept_writeNode s g _
  all_goals simp [State.setGroupCfg, State.writeClock, State.writeLatch]

theorem potsKept_writeCurve (s : State) (index field : Nat) (values : List Byte) :
    PotsKept s (s.writeCurve index field values).1 := by
  have hput : ∀ g curve, PotsKept s (s.putCurve g field values curve).1 := fun g curve => by
    unfold State.putCurve
    split <;> simp
  refine State.indexed_keeps (PotsKept s) (.refl s)
    (fun g => if field ≤ 8 then s.writeCurveAt g field values else s.refuse .badIndex) fun g => ?_
  unfold State.writeCurveAt
  dsimp only
  split_ifs
  · exact hput _ _
  · simp
  · exact hput _ _
  · simp

theorem potsKept_writeStage (s : State) (index field : Nat) (values : List Byte) :
    PotsKept s (s.writeStage index field values).1 := by
  have hthreshold : ∀ k v f, PotsKept s (s.writeThreshold k v f).1 := fun k v f => by
    unfold State.writeThreshold
    dsimp only
    split <;> simp
  refine State.needing_keeps (PotsKept s) (.refl s) ?_
  split
  · unfold State.writeStageField
    split
    · exact hthreshold _ _ _
    · exact hthreshold _ _ _
    · simp
    · simp
  · simp

theorem potsKept_writeProfileStep (s : State) (index field : Nat) (values : List Byte) :
    PotsKept s (s.writeProfileStep index field values).1 := by
  refine State.indexed_keeps (PotsKept s) (.refl s) (fun k => s.writeStepField k field _) fun k => ?_
  unfold State.writeStepField
  split <;> simp [State.setStep]

theorem potsKept_writeProfile (s : State) (index field : Nat) (values : List Byte) :
    PotsKept s (s.writeProfile index field values).1 := by
  refine State.indexed_keeps (PotsKept s) (.refl s) (fun n => s.writeProfileField n field _) fun n => ?_
  unfold State.writeProfileField
  split <;> simp [State.setProfile]

theorem potsKept_writeTariffWindow (s : State) (index field : Nat) (values : List Byte) :
    PotsKept s (s.writeTariffWindow index field values).1 := by
  refine State.indexed_keeps (PotsKept s) (.refl s) (fun w => s.writeWindowField w field _) fun w => ?_
  unfold State.writeWindowField
  split
  case h_3 => split <;> simp [State.setWindow]
  all_goals simp [State.setWindow]

theorem potsKept_writeTariffDefault (s : State) (index field : Nat) (values : List Byte) :
    PotsKept s (s.writeTariffDefault index field values).1 := by
  refine State.needing_keeps (PotsKept s) (.refl s) ?_
  split
  · unfold State.writeDefaultField
    split <;> simp
  · simp

theorem potsKept_writeLine (s : State) (field : Nat) (values : List Byte) : PotsKept s (s.writeLine field values).1 := by
  have hvoltage : ∀ lo hi v f, PotsKept s (s.writeVoltage lo hi v f).1 := fun lo hi v f => by
    unfold State.writeVoltage
    split <;> simp
  refine State.needing_keeps (PotsKept s) (.refl s) ?_
  unfold State.writeLineField
  split
  case h_11 | h_12 | h_13 => exact hvoltage _ _ _ _
  all_goals simp [State.setLineCfg, State.writeHl, State.writeHoldLimit]

theorem potsKept_writeEvents (s : State) (index : Nat) (values : List Byte) : PotsKept s (s.writeEvents index values).1 := by
  refine State.needing_keeps (PotsKept s) (.refl s) ?_
  split
  · split
    · simp [State.writeEnable]
    · simp
  · simp

/-- A WRITE of any object but POT leaves the pots alone. -/
theorem potsKept_writeObject (s : State) {o : Object} (ho : o ≠ .pot) (index field : Nat) (values : List Byte) :
    PotsKept s (s.writeObject o index field values).1 := by
  have haddress : ∀ f : Addr → State, (∀ a, PotsKept s (f a)) → PotsKept s (s.writeAddress index values f).1 :=
    fun f hf => State.writeAddress_keeps (PotsKept s) (.refl s) hf
  cases o with
  | pot => exact absurd rfl ho
  | map => exact potsKept_writeMap s index values
  | sectionWindow => exact potsKept_writeSection s index field values
  | group => exact potsKept_writeGroup s index field values
  | curve => exact potsKept_writeCurve s index field values
  | stage => exact potsKept_writeStage s index field values
  | profileStep => exact potsKept_writeProfileStep s index field values
  | profile => exact potsKept_writeProfile s index field values
  | tariffWindow => exact potsKept_writeTariffWindow s index field values
  | tariffDefault => exact potsKept_writeTariffDefault s index field values
  | line => exact potsKept_writeLine s field values
  | mgmtAddress => exact haddress _ fun a => ⟨rfl, rfl⟩
  | supervisorAddress => exact haddress _ fun a => ⟨rfl, rfl⟩
  | serverAddress => exact haddress _ fun a => ⟨rfl, rfl⟩
  | coolerAddress => exact haddress _ fun a => ⟨rfl, rfl⟩
  | events => exact potsKept_writeEvents s index values
  | energyRecord => exact .refl s
  | aeLog => exact .refl s
  | trace => exact .refl s
  | errorLog => exact .refl s
  | counters => exact .refl s

/-! ### Reads and commands -/

/-- A READ leaves the state as it is. -/
@[simp] theorem State.readObject_fst (s : State) (o : Object) (index field : Nat) : (s.readObject o index field).1 = s := by
  unfold State.readObject State.readTrace State.readCurve
  split
  · split
    · rfl
    · split <;> rfl
  · split
    · split
      · rfl
      · split
        · rfl
        · split <;> rfl
    · split
      · rfl
      · split <;> rfl

theorem potsKept_commandSetFull (s : State) (arg : Nat) : PotsKept s (s.commandSetFull arg).1 := by
  refine State.onGroup_keeps (PotsKept s) (.refl s) fun g => ?_
  dsimp only
  split_ifs <;> simp

theorem potsKept_commandPlay (s : State) (arg : Nat) : PotsKept s (s.commandPlay arg).1 := by
  refine State.onGroup_keeps (PotsKept s) (.refl s) fun n => ?_
  split <;> simp

/-- Every command but START and RESTART leaves the pots alone. -/
theorem potsKept_command (s : State) {c : Command} (hstart : c ≠ .start) (hrestart : c ≠ .restart) (arg : Nat) :
    PotsKept s (s.command c arg).1 := by
  cases c with
  | start => exact absurd rfl hstart
  | restart => exact absurd rfl hrestart
  | stop =>
    show PotsKept s s.commandStop.1
    unfold State.commandStop
    split <;> simp
  | claim =>
    refine State.onGroup_keeps (PotsKept s) (.refl s) fun g => ?_
    split <;> simp
  | release =>
    refine State.onGroup_keeps (PotsKept s) (.refl s) fun g => ?_
    dsimp only
    split <;> simp
  | setFull => exact potsKept_commandSetFull s arg
  | profilePlay => exact potsKept_commandPlay s arg
  | profileHold =>
    show PotsKept s s.commandHold.1
    unfold State.commandHold
    split <;> simp
  | profileResume =>
    show PotsKept s s.commandResume.1
    unfold State.commandResume
    split <;> simp
  | profileStop =>
    show PotsKept s s.commandStopProfile.1
    unfold State.commandStopProfile
    split <;> simp
  | lineRestart =>
    show PotsKept s s.commandLineRestart.1
    unfold State.commandLineRestart
    split <;> simp
  | cacheInvalidate => exact ⟨rfl, rfl⟩
  | energyRelease => exact ⟨rfl, rfl⟩
  | clearError => exact ⟨rfl, rfl⟩
  | ackEvents =>
    show PotsKept s (s.commandAck arg).1
    unfold State.commandAck
    split <;> simp

end Sys2Proof.Machine
end

section
/-! SUPPORT. What the laws of the AE count and of the pots (R56, R9) read of a state, and what each operation of the pot supervision unit
and of the anode effect unit does to it. The operations at a pot `p` are of four sorts, each a case of the next: those that keep the census of
every pot (`CensusKept`), those that beside this work the order of `p` (`OrderWorked p`), those that move its AE state and the AE count
together (`EffectWorked p`), and those that only leave every other pot alone (`ElsewhereKept p`). -/

namespace Sys2Proof.Machine

/-! ### The census of the pots -/

/-- What the laws read of a pot: its supervision state, its AE state, and whether an order is outstanding. -/
def Pot.census (q : Pot) : Supervision × AeState × Bool := (q.sup, q.ae, q.order.isSome)

theorem Pot.census_of_sentForm {q r : Pot} (h : q.sentForm = r.sentForm) : q.census = r.census := by
  have hform : ∀ x : Pot, x.sentForm.census = x.census := fun x => by simp [Pot.census, Pot.sentForm]
  rw [← hform q, ← hform r, h]

/-- From `s` to `t` every pot keeps its census, and the AE count stands. -/
structure CensusKept (s t : State) : Prop where
  count : t.aeu.count = s.aeu.count
  pots : ∀ p, (t.pot p).census = (s.pot p).census

/-- Every pot but `p` keeps its census, and `p` its supervision state. -/
structure ElsewhereKept (p : Fin 384) (s t : State) : Prop where
  others : ∀ k, k ≠ p → (t.pot k).census = (s.pot k).census
  sup : (t.pot p).sup = (s.pot p).sup

/-- Beside `ElsewhereKept`, the AE state of `p` and the AE count stand. -/
structure OrderWorked (p : Fin 384) (s t : State) : Prop extends ElsewhereKept p s t where
  ae : (t.pot p).ae = (s.pot p).ae
  count : t.aeu.count = s.aeu.count

/-- Beside `ElsewhereKept`, the AE count moves as `p` comes into the count or leaves it. -/
structure EffectWorked (p : Fin 384) (s t : State) : Prop extends ElsewhereKept p s t where
  tally : t.aeu.count + (s.pot p).ae.counted.toNat = s.aeu.count + (t.pot p).ae.counted.toNat

section
variable {p : Fin 384} {s t u : State}

theorem CensusKept.sup (h : CensusKept s t) (p : Fin 384) : (t.pot p).sup = (s.pot p).sup := congrArg Prod.fst (h.pots p)

theorem CensusKept.ae (h : CensusKept s t) (p : Fin 384) : (t.pot p).ae = (s.pot p).ae :=
  congrArg (fun c : Supervision × AeState × Bool => c.2.1) (h.pots p)

theorem CensusKept.refl (s : State) : CensusKept s s := ⟨rfl, fun _ => rfl⟩

theorem CensusKept.trans (h : CensusKept s t) (h' : CensusKept t u) : CensusKept s u :=
  ⟨h'.count.trans h.count, fun p => (h'.pots p).trans (h.pots p)⟩

theorem PotsKept.census (h : PotsKept s t) : CensusKept s t :=
  ⟨congrArg Aeu.count h.2, fun p => Pot.census_of_sentForm (h.sentForm p)⟩

theorem CensusKept.order (h : CensusKept s t) (p : Fin 384) : OrderWorked p s t :=
  ⟨⟨fun k _ => h.pots k, h.sup p⟩, h.ae p, h.count⟩

theorem OrderWorked.effect (h : OrderWorked p s t) : EffectWorked p s t := ⟨h.toElsewhereKept, by rw [h.ae, h.count]⟩

theorem CensusKept.effect (h : CensusKept s t) (p : Fin 384) : EffectWorked p s t := (h.order p).effect

theorem ElsewhereKept.trans (h : ElsewhereKept p s t) (h' : ElsewhereKept p t u) : ElsewhereKept p s u :=
  ⟨fun k hk => (h'.others k hk).trans (h.others k hk), h'.sup.trans h.sup⟩

theorem OrderWorked.trans (h : OrderWorked p s t) (h' : OrderWorked p t u) : OrderWorked p s u :=
  ⟨h.toElsewhereKept.trans h'.toElsewhereKept, h'.ae.trans h.ae, h'.count.trans h.count⟩

theorem EffectWorked.trans (h : EffectWorked p s t) (h' : EffectWorked p t u) : EffectWorked p s u :=
  ⟨h.toElsewhereKept.trans h'.toElsewhereKept, by have := h.tally; have := h'.tally; omega⟩

/-- A pot that comes into the AE count, and then the count rises. -/
theorem ElsewhereKept.enters (h : ElsewhereKept p s t) (hs : (s.pot p).ae.counted = false) (ht : (t.pot p).ae.counted = true)
    (hcount : t.aeu.count = s.aeu.count) : EffectWorked p s (t.setAeCount (t.aeu.count + 1)) := by
  have htally : t.aeu.count + 1 + (s.pot p).ae.counted.toNat = s.aeu.count + (t.pot p).ae.counted.toNat := by
    simp [hs, ht, hcount]
  exact ⟨⟨h.others, h.sup⟩, htally⟩

/-- A pot that leaves the AE count as the count, which is not 0, falls. -/
theorem ElsewhereKept.leaves (h : ElsewhereKept p s t) (hs : (s.pot p).ae.counted = true) (ht : (t.pot p).ae.counted = false)
    (hpos : 0 < s.aeu.count) (hcount : t.aeu.count = s.aeu.count - 1) : EffectWorked p s t :=
  ⟨h, by simp only [hs, ht, hcount, Bool.toNat_true, Bool.toNat_false]; omega⟩

end

/-! ### One pot changed -/

theorem censusKept_modPot (s : State) (p : Fin 384) {f : Pot → Pot}
    (hf : ∀ q, (f q).census = q.census := by intro q; rfl) :
    CensusKept s (s.modPot p f) := by
  refine ⟨rfl, fun k => ?_⟩
  by_cases hk : k = p
  · subst hk
    rw [State.pot_modPot, hf]
  · rw [State.pot_modPot_of_ne _ _ hk]

theorem censusKept_counters (s : State) (c : AeuCounters) : CensusKept s { s with aeu.counters := c } := ⟨rfl, fun _ => rfl⟩

/-- Of the anode effect unit the census reads the count alone. -/
theorem censusKept_aeu (s : State) {u : Aeu} (hu : u.count = s.aeu.count) : CensusKept s { s with aeu := u } := ⟨hu, fun _ => rfl⟩

theorem elsewhereKept_modPot {s : State} {p : Fin 384} {f : Pot → Pot}
    (hsup : (f (s.pot p)).sup = (s.pot p).sup := by rfl) :
    ElsewhereKept p s (s.modPot p f) :=
  ⟨fun k hk => by rw [State.pot_modPot_of_ne _ _ hk], by rw [State.pot_modPot, hsup]⟩

theorem effectWorked_modPot {s : State} {p : Fin 384} {f : Pot → Pot} (hae : (f (s.pot p)).ae.counted = (s.pot p).ae.counted)
    (hsup : (f (s.pot p)).sup = (s.pot p).sup := by rfl) : EffectWorked p s (s.modPot p f) :=
  ⟨elsewhereKept_modPot hsup, by rw [State.pot_modPot, hae, State.modPot_aeu]⟩

/-! ### Pot orders (R31, R37, R53) -/

@[simp] theorem potsKept_sendPotOrder (s : State) (p : Fin 384) (f : Frame) : PotsKept s (s.sendPotOrder p f) := by
  unfold State.sendPotOrder
  dsimp only
  split <;> simp

theorem orderWorked_dropPotOrder (s : State) (p : Fin 384) : OrderWorked p s (s.dropPotOrder p) :=
  ⟨⟨fun k hk => by rw [State.pot_dropPotOrder_of_ne _ hk], by simp⟩, by simp, rfl⟩

theorem orderWorked_cancelAdvice (s : State) (p : Fin 384) : OrderWorked p s (s.cancelAdvice p) := by
  unfold State.cancelAdvice
  split
  · split
    · exact (orderWorked_dropPotOrder s p).trans ((censusKept_modPot _ p).order p)
    · exact (CensusKept.refl s).order p
  · exact (CensusKept.refl s).order p

theorem orderWorked_cancelQuench (s : State) (p : Fin 384) : OrderWorked p s (s.cancelQuench p) := by
  unfold State.cancelQuench
  split
  · split
    · exact (CensusKept.refl s).order p
    · exact orderWorked_dropPotOrder s p
  · exact (CensusKept.refl s).order p

theorem orderWorked_decidePotOrder (s : State) (p : Fin 384) (k : OrderKind) : OrderWorked p s (s.decidePotOrder p k) := by
  unfold State.decidePotOrder
  dsimp only
  split
  · exact (CensusKept.refl s).order p
  · next node slot _ =>
    have hsend : ∀ (t : State) seq f, PotsKept t (State.sendPotOrder { t with psu.seq := seq } p f) := fun t seq f => by simp
    have hset : ∀ o, OrderWorked p s (s.modPot p fun q => { q with order := some o }) := fun o =>
      ⟨elsewhereKept_modPot, by simp, rfl⟩
    exact (hset _).trans ((hsend _ _ _).census.order p)

theorem orderWorked_decideAdvice (s : State) (p : Fin 384) : OrderWorked p s (s.decideAdvice p) := by
  unfold State.decideAdvice
  split
  · exact (CensusKept.refl s).order p
  · next k _ =>
    split
    · refine OrderWorked.trans (t := { s with psu.counters := s.psu.counters.sent k }) ?_ (orderWorked_decidePotOrder _ p k)
      exact ⟨⟨fun _ _ => rfl, rfl⟩, rfl, rfl⟩
    · exact (CensusKept.refl s).order p

/-! ### The AE log, the trace store and AE energy (R58 to R63) -/

@[simp] theorem State.modOpenRecord_aeu_count (s : State) (p : Fin 384) (f : AeRecord → AeRecord) :
    (s.modOpenRecord p f).aeu.count = s.aeu.count := by
  rw [State.modOpenRecord_eq]

theorem censusKept_modOpenRecord (s : State) (p : Fin 384) (f : AeRecord → AeRecord) : CensusKept s (s.modOpenRecord p f) :=
  ⟨by simp, fun k => by simp⟩

theorem censusKept_closeRecord (s : State) (p : Fin 384) (cause : EndCause) : CensusKept s (s.closeRecord p cause) := by
  unfold State.closeRecord
  exact (censusKept_modOpenRecord s p _).trans (censusKept_modPot _ p)

@[simp] theorem Aeu.place_count (u : Aeu) (p : Fin 384) (q : Pot) : (u.place p q).1.count = u.count := by
  unfold Aeu.place
  split <;> split <;> rfl

@[simp] theorem Aeu.discardFirst_count (u : Aeu) : u.discardFirst.count = u.count := by
  unfold Aeu.discardFirst
  split
  · rfl
  · split <;> rfl

@[simp] theorem Aeu.enterTrace_count (u : Aeu) (pl vp : Nat) : (u.enterTrace pl vp).count = u.count := by
  unfold Aeu.enterTrace
  dsimp only
  split
  · rfl
  · split
    · rfl
    · simp

theorem censusKept_traceReading (s : State) (p : Fin 384) (vp : Nat) : CensusKept s (s.traceReading p vp) := by
  unfold State.traceReading
  split
  · exact .refl s
  · exact censusKept_aeu s (Aeu.enterTrace_count _ _ _)

theorem censusKept_addAeEnergy (s : State) (p : Fin 384) (vp : Nat) : CensusKept s (s.addAeEnergy p vp) := by
  unfold State.addAeEnergy
  dsimp only
  split
  · exact ((censusKept_modPot s p).trans (censusKept_modOpenRecord _ p _)).trans ⟨rfl, fun _ => rfl⟩
  · exact .refl s

/-! ### Quench orders and persistence (R47, R53) -/

/-- A QUENCH order is decided for a pot that is in the count already. -/
theorem effectWorked_decideQuench {s : State} {p : Fin 384} (h : (s.pot p).ae.counted = true) :
    EffectWorked p s (s.decideQuench p) := by
  have horder := orderWorked_decidePotOrder s p .quench
  unfold State.decideQuench
  dsimp only
  refine EffectWorked.trans ?_ ((censusKept_counters _ _).effect p)
  refine EffectWorked.trans ?_ ((censusKept_modOpenRecord _ p _).effect p)
  refine horder.effect.trans (effectWorked_modPot ?_)
  rw [horder.ae, h]
  rfl

/-- A QUENCH order is decided of an ACTIVE pot alone (R47). -/
theorem State.active_of_quenchReady {s : State} {q : Pot} (h : s.quenchReady q = true) : q.ae = .active := by
  simp only [State.quenchReady, Bool.and_eq_true, beq_iff_eq] at h
  obtain ⟨⟨⟨⟨⟨hae, -⟩, -⟩, -⟩, -⟩, -⟩ := h
  exact hae

theorem effectWorked_tryQuench (s : State) (p : Fin 384) : EffectWorked p s (s.tryQuench p) := by
  unfold State.tryQuench
  split
  · next hready =>
    exact effectWorked_decideQuench (by rw [State.active_of_quenchReady hready]; rfl)
  · exact (CensusKept.refl s).effect p

theorem censusKept_setPersistent (s : State) (p : Fin 384) : CensusKept s (s.setPersistent p) := by
  unfold State.setPersistent
  dsimp only
  refine CensusKept.trans ?_ (potsKept_raise _ _ _ _ _).census
  refine CensusKept.trans ?_ (censusKept_counters _ _)
  exact (censusKept_modPot s p).trans (censusKept_modOpenRecord _ p _)

theorem effectWorked_quenchExpires {s : State} {p : Fin 384} (h : (s.pot p).ae = .quenching) :
    EffectWorked p s (s.quenchExpires p) := by
  have hcancel := orderWorked_cancelQuench s p
  unfold State.quenchExpires
  dsimp only
  split
  · exact hcancel.effect.trans ((censusKept_setPersistent _ p).effect p)
  · split
    · exact hcancel.effect.trans (effectWorked_decideQuench (by rw [hcancel.ae, h]; rfl))
    · exact (censusKept_modPot s p).effect p

/-! ### Ends of an effect (R54, R57) -/

theorem effectWorked_effectEnds {s : State} {p : Fin 384} (h : (s.pot p).ae = .clearing) : EffectWorked p s (s.effectEnds p) := by
  exact (((effectWorked_modPot (by rw [h]; rfl)).trans ((censusKept_closeRecord _ p _).effect p)).trans
    (orderWorked_cancelQuench _ p).effect).trans ((potsKept_raise _ _ _ _ _).census.effect p)

/-- As a span ends the count falls, ahead of the AE state. -/
theorem elsewhereKept_endSpan (s : State) (p : Fin 384) : ElsewhereKept p s (s.endSpan p) := by
  have h := elsewhereKept_modPot (s := s) (p := p)
    (f := fun q => { q with fx.duration := q.fx.duration + (s.time - q.fx.spanStart) })
  exact ⟨h.others, h.sup⟩

@[simp] theorem State.endSpan_aeu_count (s : State) (p : Fin 384) : (s.endSpan p).aeu.count = s.aeu.count - 1 := rfl

/-- However an effect is closed, the pot is QUIET (R57, step 4). -/
theorem ae_forceClose (s : State) (p : Fin 384) (cause : EndCause) : ((s.forceClose p cause).pot p).ae = .quiet := by
  cases hae : (s.pot p).ae <;> simp [State.forceClose, hae, Pot.quieted]

theorem effectWorked_forceClose {s : State} {p : Fin 384} (hpos : (s.pot p).ae.counted = true → 0 < s.aeu.count)
    (cause : EndCause) : EffectWorked p s (s.forceClose p cause) := by
  have hclose : ∀ t : State, CensusKept t ((t.closeRecord p cause).raiseAeEnd p cause) := fun t =>
    (censusKept_closeRecord t p cause).trans (potsKept_raise _ _ _ _ _).census
  have hcounted : (s.pot p).ae.counted = true → EffectWorked p s
      ((((s.endSpan p).closeRecord p cause).raiseAeEnd p cause).modPot p Pot.quieted) := fun hc =>
    (((elsewhereKept_endSpan s p).trans ((hclose _).effect p).toElsewhereKept).trans elsewhereKept_modPot).leaves hc
      (by rw [State.pot_modPot]; rfl) (hpos hc) ((hclose _).count.trans (State.endSpan_aeu_count s p))
  cases hae : (s.pot p).ae with
  | quiet => simpa only [State.forceClose, hae] using (CensusKept.refl s).effect p
  | suspect => simpa only [State.forceClose, hae] using effectWorked_modPot (by rw [hae]; rfl)
  | clearing =>
    simpa only [State.forceClose, hae] using
      ((hclose s).effect p).trans (effectWorked_modPot (by rw [(hclose s).ae p, hae]; rfl))
  | active => simpa only [State.forceClose, hae] using hcounted (by rw [hae]; rfl)
  | quenching => simpa only [State.forceClose, hae] using hcounted (by rw [hae]; rfl)

/-! ### The work of a reading (R44 to R55) -/

theorem censusKept_measurementFault (s : State) (p : Fin 384) (vp : Nat) : CensusKept s (s.measurementFault p vp) :=
  (censusKept_modPot s p).trans (potsKept_raise _ _ _ _ _).census

theorem effectWorked_onset {s : State} {p : Fin 384} (h : (s.pot p).ae = .quiet) (vp : Nat) : EffectWorked p s (s.onset p vp) :=
  (effectWorked_modPot (by rw [h]; rfl)).trans (orderWorked_cancelAdvice _ p).effect

/-- The pot comes into the count as its effect opens. -/
theorem effectWorked_confirmOnset {s : State} {p : Fin 384} (h : (s.pot p).ae = .suspect) (vp : Nat) :
    EffectWorked p s (s.confirmOnset p vp) := by
  have hopened : EffectWorked p s ((s.modPot p fun q => q.opened s.time).setAeCount (s.aeu.count + 1)) :=
    ElsewhereKept.enters (t := s.modPot p fun q => q.opened s.time) elsewhereKept_modPot (by rw [h]; rfl)
      (by rw [State.pot_modPot]; rfl) rfl
  unfold State.confirmOnset
  dsimp only
  refine EffectWorked.trans ?_ ((censusKept_addAeEnergy _ p vp).effect p)
  refine EffectWorked.trans ?_ ((potsKept_raise _ _ _ _ _).census.effect p)
  refine EffectWorked.trans ?_ (effectWorked_tryQuench _ p)
  refine EffectWorked.trans ?_ ((censusKept_modPot _ p).effect p)
  refine EffectWorked.trans ?_ ((censusKept_traceReading _ p vp).effect p)
  refine EffectWorked.trans ?_ ((censusKept_traceReading _ p _).effect p)
  refine EffectWorked.trans ?_ ((censusKept_modPot _ p).effect p)
  refine hopened.trans ((censusKept_aeu _ ?_).effect p)
  exact Aeu.place_count _ p _

theorem effectWorked_workSuspect {s : State} {p : Fin 384} (h : (s.pot p).ae = .suspect) (vp : Nat) :
    EffectWorked p s (s.workSuspect p vp) := by
  have hquiet : EffectWorked p s (s.modPot p fun q => { q with ae := .quiet, fx.qualificationEnd := none }) :=
    effectWorked_modPot (by rw [h]; rfl)
  unfold State.workSuspect
  dsimp only
  split
  · exact (hquiet.trans ((censusKept_modPot _ p).effect p)).trans ((potsKept_raise _ _ _ _ _).census.effect p)
  · split
    · exact effectWorked_confirmOnset h vp
    · exact hquiet.trans ((censusKept_modPot _ p).effect p)

/-- The pot leaves the count as it begins to clear. -/
theorem effectWorked_beginClearing {s : State} {p : Fin 384} (h : (s.pot p).ae.counted = true) (hpos : 0 < s.aeu.count) (vp : Nat) :
    EffectWorked p s (s.beginClearing p vp) := by
  unfold State.beginClearing
  dsimp only
  refine EffectWorked.trans ?_ ((censusKept_traceReading _ p vp).effect p)
  refine EffectWorked.trans ?_ ((censusKept_modOpenRecord _ p _).effect p)
  exact ((elsewhereKept_endSpan s p).trans elsewhereKept_modPot).leaves h (by rw [State.pot_modPot]; rfl) hpos rfl

/-- The pot comes into the count again as it relapses. -/
theorem effectWorked_relapse {s : State} {p : Fin 384} (h : (s.pot p).ae = .clearing) (vp : Nat) :
    EffectWorked p s (s.relapse p vp) := by
  unfold State.relapse
  dsimp only
  refine EffectWorked.trans ?_ ((censusKept_addAeEnergy _ p vp).effect p)
  refine EffectWorked.trans ?_ ((censusKept_traceReading _ p vp).effect p)
  refine EffectWorked.trans ?_ (effectWorked_tryQuench _ p)
  refine ElsewhereKept.enters (ElsewhereKept.trans ?_ ((censusKept_modOpenRecord _ p _).effect p).toElsewhereKept)
    (by rw [h]; rfl) ?_ (State.modOpenRecord_aeu_count _ p _)
  · refine elsewhereKept_modPot ?_
    split <;> rfl
  · rw [State.pot_modOpenRecord, State.pot_modPot]
    split <;> rfl

/-- A reading moves the AE state of its pot and the AE count together (R43 to R55). -/
theorem effectWorked_workEffect {s : State} {p : Fin 384} (hpos : (s.pot p).ae.counted = true → 0 < s.aeu.count) (vp : Nat) :
    EffectWorked p s (s.workEffect p vp) := by
  have hfault := (censusKept_measurementFault s p vp).effect p
  have htrace := (censusKept_traceReading s p vp).effect p
  have hcounted : (s.pot p).ae.counted = true → EffectWorked p s
      (if s.line.ae.vmax < vp then s.measurementFault p vp
        else if vp < s.line.ae.vclr then s.beginClearing p vp
        else (s.traceReading p vp).addAeEnergy p vp) := by
    intro hc
    split
    · exact hfault
    · split
      · exact effectWorked_beginClearing hc (hpos hc) vp
      · exact htrace.trans ((censusKept_addAeEnergy _ p vp).effect p)
  cases hae : (s.pot p).ae with
  | quiet =>
    simp only [State.workEffect, hae]
    split
    · exact hfault
    · split
      · exact effectWorked_onset hae vp
      · exact (censusKept_modPot s p).effect p
  | suspect => simpa only [State.workEffect, hae] using effectWorked_workSuspect hae vp
  | clearing =>
    simp only [State.workEffect, hae]
    split
    · exact hfault
    · split
      · exact htrace
      · split
        · exact ((censusKept_modPot s p).trans (censusKept_traceReading _ p vp)).effect p
        · exact effectWorked_relapse hae vp
  | active => simpa only [State.workEffect, hae] using hcounted (by rw [hae]; rfl)
  | quenching => simpa only [State.workEffect, hae] using hcounted (by rw [hae]; rfl)

/-! ### The pot node's claim and answers (R48 to R51) -/

/-- A claim takes an ACTIVE pot to QUENCHING, which is in the count too. -/
theorem effectWorked_takeFeed (s : State) (p : Fin 384) : EffectWorked p s (s.takeFeed p) := by
  unfold State.takeFeed
  dsimp only
  refine EffectWorked.trans (effectWorked_modPot ?ae ?sup) ((censusKept_modOpenRecord _ p _).effect p)
  case ae => cases (s.pot p).ae <;> rfl
  case sup => cases (s.pot p).ae <;> rfl

theorem orderWorked_quenchTaken (s : State) (p : Fin 384) : OrderWorked p s (s.quenchTaken p) := by
  unfold State.quenchTaken
  dsimp only
  refine OrderWorked.trans ?_ ((censusKept_counters _ _).order p)
  exact (orderWorked_dropPotOrder s p).trans ((censusKept_modOpenRecord _ p _).order p)

theorem effectWorked_afterDecline (s : State) (p : Fin 384) : EffectWorked p s (s.afterDecline p) := by
  unfold State.afterDecline
  dsimp only
  split
  · exact (censusKept_setPersistent s p).effect p
  · split
    · next h => exact (effectWorked_modPot (by rw [h.1]; rfl)).trans (effectWorked_tryQuench _ p)
    · exact (CensusKept.refl s).effect p

theorem effectWorked_quenchDeclined (s : State) (p : Fin 384) (seq : Byte) : EffectWorked p s (s.quenchDeclined p seq) := by
  unfold State.quenchDeclined
  dsimp only
  refine EffectWorked.trans ?_ (effectWorked_afterDecline _ p)
  refine EffectWorked.trans ?_ ((potsKept_raise _ _ _ _ _).census.effect p)
  refine EffectWorked.trans ?_ ((censusKept_counters _ _).effect p)
  exact ((orderWorked_dropPotOrder s p).trans ((censusKept_modOpenRecord _ p _).order p)).effect

theorem orderWorked_clearAdvice (s : State) (p : Fin 384) : OrderWorked p s (s.clearAdvice p) := by
  unfold State.clearAdvice
  exact (orderWorked_dropPotOrder s p).trans ((censusKept_modPot _ p).order p)

/-- An answer works the order that it is for and, for a declined QUENCH, the effect (R33 to R35, R50, R51). -/
theorem effectWorked_answerOrder (s : State) (p : Fin 384) (o : PotOrder) (result : Byte) :
    EffectWorked p s (s.answerOrder p o result) := by
  have hcounters : ∀ (t : State) (c : PsuCounters), CensusKept t { t with psu.counters := c } := fun t c => ⟨rfl, fun _ => rfl⟩
  have hclear := (orderWorked_clearAdvice s p).effect
  unfold State.answerOrder
  split
  · split
    · exact hclear.trans ((hcounters _ _).effect p)
    · exact (orderWorked_quenchTaken s p).effect
  · split
    · split
      · exact (hclear.trans ((hcounters _ _).effect p)).trans ((potsKept_raise _ _ _ _ _).census.effect p)
      · exact effectWorked_quenchDeclined s p o.seq
    · exact (hcounters s _).effect p

end Sys2Proof.Machine
end

section
/-! The statement on the AE count. R56 and R9 are kept as one invariant: an operation on an effect or an order moves the census of a pot
that is STARTING or RUNNING, by R9, and so R56 holds after it; each operation, row and step keeps both. -/

namespace Sys2Proof.Machine

/-! ### The invariant (R56, R9) -/

/-- The two laws as one invariant. -/
def Counted (s : State) : Prop := countLaw s ∧ potLaw s

/-- A pot that R9 is about is QUIET and without an order. -/
def Pot.lawful (q : Pot) : Prop := q.sup.worked = false → q.ae = .quiet ∧ q.order = none

theorem Pot.lawful_of_worked {q : Pot} (h : q.sup.worked = true) : q.lawful := fun h' => absurd (h.symm.trans h') (by decide)

/-- R9 reads the census alone. -/
theorem Pot.lawful_of_census {q r : Pot} (h : q.census = r.census) (hr : r.lawful) : q.lawful := by
  simp only [Pot.census, Prod.mk.injEq] at h
  obtain ⟨hsup, hae, horder⟩ := h
  intro hw
  obtain ⟨hquiet, hnone⟩ := hr (hsup ▸ hw)
  exact ⟨hae.trans hquiet, by simpa [hnone] using horder⟩

/-- Two tests of the numbers below `n` that agree but at `p` count alike but for `p`. -/
theorem countP_finRange_of_eq_off {n : Nat} {a b : Fin n → Bool} (p : Fin n) (h : ∀ k, k ≠ p → a k = b k) :
    (List.finRange n).countP a + (b p).toNat = (List.finRange n).countP b + (a p).toNat := by
  have hperm := List.perm_cons_erase (List.mem_finRange p)
  have hrest : ((List.finRange n).erase p).countP a = ((List.finRange n).erase p).countP b :=
    List.countP_congr fun k hk => by rw [h k ((List.nodup_finRange n).mem_erase_iff.mp hk).1]
  rw [hperm.countP_eq a, hperm.countP_eq b, List.countP_cons, List.countP_cons, hrest]
  cases a p <;> cases b p <;> simp

section
variable {s t : State} {p : Fin 384}

theorem Counted.pot (h : Counted s) (p : Fin 384) : (s.pot p).lawful := h.2 p

/-- A pot that is not QUIET is STARTING or RUNNING. -/
theorem Counted.worked_of_ae (h : Counted s) (hae : (s.pot p).ae ≠ .quiet) : (s.pot p).sup.worked = true := by
  by_contra hw
  exact hae (h.pot p (by simpa using hw)).1

/-- A pot with an order outstanding is STARTING or RUNNING. -/
theorem Counted.worked_of_order (h : Counted s) {o : PotOrder} (ho : (s.pot p).order = some o) : (s.pot p).sup.worked = true := by
  by_contra hw
  have hnone := (h.pot p (by simpa using hw)).2
  simp [ho] at hnone

/-- While a pot is in the AE count, the count is not 0. -/
theorem Counted.count_pos (h : Counted s) (hc : (s.pot p).ae.counted = true) : 0 < s.aeu.count := by
  rw [show s.aeu.count = _ from h.1, List.countP_pos_iff]
  exact ⟨p, List.mem_finRange p, hc⟩

/-- What keeps every census keeps the laws. -/
theorem Counted.of_census (h : Counted s) (hk : CensusKept s t) : Counted t := by
  refine ⟨?_, fun p => Pot.lawful_of_census (hk.pots p) (h.pot p)⟩
  rw [countLaw, hk.count, show s.aeu.count = _ from h.1]
  exact List.countP_congr fun p _ => by rw [hk.ae p]

/-- What leaves the pots alone keeps the laws. -/
theorem Counted.of_pots (h : Counted s) (hk : PotsKept s t) : Counted t := h.of_census hk.census

/-- The laws are kept where all but one pot keeps its census, the count follows that pot, and R9 holds of it. -/
theorem Counted.of_tally (h : Counted s) (hothers : ∀ k, k ≠ p → (t.pot k).census = (s.pot k).census)
    (htally : t.aeu.count + (s.pot p).ae.counted.toNat = s.aeu.count + (t.pot p).ae.counted.toNat) (hp : (t.pot p).lawful) :
    Counted t := by
  have hae : ∀ k, k ≠ p → (t.pot k).ae.counted = (s.pot k).ae.counted := fun k hk =>
    congrArg (fun c : Supervision × AeState × Bool => c.2.1.counted) (hothers k hk)
  refine ⟨?_, fun k => ?_⟩
  · have hcount := countP_finRange_of_eq_off p hae
    have hs : s.aeu.count = _ := h.1
    rw [countLaw]
    omega
  · by_cases hk : k = p
    · exact hk ▸ hp
    · exact Pot.lawful_of_census (hothers k hk) (h.pot k)

/-- An operation on the effect of a STARTING or RUNNING pot keeps the laws. -/
theorem Counted.of_effect (h : Counted s) (hw : (s.pot p).sup.worked = true) (he : EffectWorked p s t) : Counted t :=
  h.of_tally he.others he.tally (Pot.lawful_of_worked (he.sup ▸ hw))

/-- A change of one pot that leaves it in the count or out of it keeps the laws, when R9 holds of the changed pot. -/
theorem Counted.modPot (h : Counted s) {f : Pot → Pot} (hae : (f (s.pot p)).ae.counted = (s.pot p).ae.counted)
    (hp : (f (s.pot p)).lawful) : Counted (s.modPot p f) :=
  h.of_tally (p := p) (fun k hk => by rw [State.pot_modPot_of_ne _ _ hk]) (by rw [State.pot_modPot, hae, State.modPot_aeu])
    (by rwa [State.pot_modPot])

/-- A fold of operations that keep the laws does. -/
theorem Counted.foldl {α : Type} {f : State → α → State} (hf : ∀ s a, Counted s → Counted (f s a)) (l : List α) :
    ∀ {s : State}, Counted s → Counted (l.foldl f s) := by
  induction l with
  | nil => exact fun h => h
  | cons a l ih => exact fun h => ih (hf _ a h)

/-! ### Supervision states (R7 to R12, R22) -/

/-- A pot that enters STARTING is one that R9 says nothing of. -/
theorem Counted.enterStarting (h : Counted s) (p : Fin 384) : Counted (s.modPot p Pot.enterStarting) :=
  h.modPot rfl (Pot.lawful_of_worked rfl)

theorem Counted.dropPotOrder (h : Counted s) (p : Fin 384) : Counted (s.dropPotOrder p) :=
  h.of_tally (orderWorked_dropPotOrder s p).others (orderWorked_dropPotOrder s p).effect.tally
    (by rw [State.pot_dropPotOrder]; exact fun hw => ⟨(h.pot p hw).1, rfl⟩)

theorem Counted.cancelAdvice (h : Counted s) (p : Fin 384) : Counted (s.cancelAdvice p) := by
  unfold State.cancelAdvice
  split
  · split
    · exact (h.dropPotOrder p).of_census (censusKept_modPot _ p)
    · exact h
  · exact h

theorem Counted.clearAdvice (h : Counted s) (p : Fin 384) : Counted (s.clearAdvice p) :=
  (h.dropPotOrder p).of_census (censusKept_modPot _ p)

/-- A pot that R9 is about has no effect to be closed. -/
theorem Counted.forceClose (h : Counted s) (p : Fin 384) (cause : EndCause) : Counted (s.forceClose p cause) := by
  by_cases hae : (s.pot p).ae = .quiet
  · simpa only [State.forceClose, hae] using h
  · exact h.of_effect (h.worked_of_ae hae) (effectWorked_forceClose (fun hc => h.count_pos hc) cause)

/-- A pot cut out, lost or disabled: its effect closed and its order dropped, it may enter any supervision state. -/
theorem Counted.retire (h : Counted s) (p : Fin 384) (cause : EndCause) {f : Pot → Pot}
    (hae : ∀ q, (f q).ae = q.ae := by intro q; rfl) (horder : ∀ q, (f q).order = q.order := by intro q; rfl) :
    Counted (((s.forceClose p cause).dropPotOrder p).modPot p f) := by
  refine ((h.forceClose p cause).dropPotOrder p).modPot (by rw [hae]) fun _ => ?_
  rw [hae, horder, State.pot_dropPotOrder]
  exact ⟨ae_forceClose s p cause, rfl⟩

theorem Counted.losePot (h : Counted s) (p : Fin 384) : Counted (s.losePot p) :=
  (h.retire p .noData).of_pots (potsKept_raise _ _ _ _ _)

theorem Counted.cutOut (h : Counted s) (p : Fin 384) : Counted (s.cutOut p) := h.retire p .bypassed

theorem Counted.disablePot (h : Counted s) (p : Fin 384) : Counted (s.disablePot p) := by
  unfold State.disablePot
  split
  · exact h
  · refine (((h.forceClose p .unconfigured).cancelAdvice p).dropPotOrder p).modPot rfl fun _ => ?_
    rw [State.pot_dropPotOrder]
    exact ⟨((orderWorked_cancelAdvice _ p).ae).trans (ae_forceClose s p .unconfigured), rfl⟩

theorem Counted.enablePot (h : Counted s) (p : Fin 384) : Counted (s.enablePot p) := by
  unfold State.enablePot
  split
  · exact h.modPot rfl (Pot.lawful_of_worked rfl)
  · exact h

theorem Counted.restartPot (h : Counted s) (p : Fin 384) : Counted (s.restartPot p) := by
  have hclosed := h.forceClose p .restart
  refine hclosed.modPot ?ae ?lawful
  case ae => split <;> rfl
  case lawful =>
    split
    · exact fun hw => ⟨(hclosed.pot p hw).1, rfl⟩
    · exact Pot.lawful_of_worked rfl

theorem Counted.restartPots (h : Counted s) : Counted s.restartPots := Counted.foldl (fun _ p h => h.restartPot p) _ h

/-! ### Readings (R10 to R19) -/

theorem Pot.census_compute (q : Pot) (il vp : Nat) (tap : Bool) : (q.compute il vp tap).census = q.census := by
  have hfilters : ∀ (x : Pot) r, (x.stepFilters r tap).census = x.census := fun x r => by
    unfold Pot.stepFilters
    split_ifs <;> rfl
  have hdwell : ∀ (x : Pot) c, (x.workDwell c).census = x.census := fun x c => by
    unfold Pot.workDwell
    split <;> rfl
  unfold Pot.compute
  dsimp only
  split
  · rfl
  · exact (hdwell _ _).trans (hfilters _ _)

theorem Counted.tryQuench (h : Counted s) (p : Fin 384) : Counted (s.tryQuench p) := by
  by_cases hready : s.quenchReady (s.pot p) = true
  · refine h.of_effect (h.worked_of_ae (p := p) ?_) (effectWorked_tryQuench s p)
    rw [State.active_of_quenchReady hready]
    decide
  · rwa [State.tryQuench, if_neg hready]

/-- From STARTING a pot may pass to RUNNING, which R9 is not about either. -/
theorem Counted.countStarting (h : Counted s) (p : Fin 384) : Counted (s.modPot p Pot.countStarting) := by
  refine h.modPot ?ae ?lawful
  case ae =>
    unfold Pot.countStarting
    split <;> rfl
  case lawful =>
    unfold Pot.countStarting
    split
    · refine Pot.lawful_of_worked ?_
      dsimp only
      split <;> rfl
    · exact h.pot p

theorem Counted.workComputable (h : Counted s) (hw : (s.pot p).sup.worked = true) (vp : Nat) (tap : Bool) :
    Counted (s.workComputable p vp tap) := by
  have hcompute : CensusKept s (s.modPot p fun q => q.compute s.line.il vp tap) :=
    censusKept_modPot s p fun q => q.census_compute _ vp tap
  have hadvice := orderWorked_decideAdvice (s.modPot p fun q => q.compute s.line.il vp tap) p
  have hw1 := (hcompute.sup p).symm ▸ hw
  have hw2 := hadvice.sup.symm ▸ hw1
  have h2 := (h.of_census hcompute).of_effect hw1 hadvice.effect
  exact (h2.of_effect hw2 (effectWorked_workEffect (fun hc => h2.count_pos hc) vp)).countStarting p

theorem Counted.workReading (h : Counted s) (p : Fin 384) (r : Reading) : Counted (s.workReading p r) := by
  have hworked : (s.pot p).sup.worked = true → Counted (if s.computable then s.workComputable p r.vp (r.marker == 4)
      else s.modPot p fun q => { q with staleCurrent := bump16 q.staleCurrent }) := by
    intro hw
    split
    · exact h.workComputable hw _ _
    · exact h.of_census (censusKept_modPot s p)
  cases hsup : (s.pot p).sup with
  | starting => simpa only [State.workReading, hsup] using hworked (by rw [hsup]; rfl)
  | running => simpa only [State.workReading, hsup] using hworked (by rw [hsup]; rfl)
  | bypassing =>
    simp only [State.workReading, hsup]
    split
    · exact h.modPot rfl fun _ => h.pot p (by rw [hsup]; rfl)
    · exact h
  | bypassed =>
    simp only [State.workReading, hsup]
    split
    · exact h
    · split
      · exact (h.enterStarting p).of_pots (potsKept_raise _ _ _ _ _)
      · exact h
  | unconfigured => simpa only [State.workReading, hsup] using h
  | lost => simpa only [State.workReading, hsup] using h

theorem Counted.takeMarker (h : Counted s) (p : Fin 384) (m : Byte) : Counted (s.takeMarker p m) := by
  have hignore : Counted (s.modPot p Pot.ignoreMarker) := h.of_census (censusKept_modPot s p)
  unfold State.takeMarker
  dsimp only
  split
  · exact h
  · split
    · next hw =>
      split
      · split
        · exact h.of_effect hw (effectWorked_takeFeed s p)
        · exact hignore
      · split
        · exact h.of_census (censusKept_modPot s p)
        · split
          · exact (h.of_census (censusKept_modPot s p)).cancelAdvice p
          · split
            · exact h.cutOut p
            · exact hignore
    · split
      · exact h.enterStarting p
      · exact hignore

theorem Counted.takeReading (h : Counted s) (p : Fin 384) (r : Reading) : Counted (s.takeReading p r) := by
  unfold State.takeReading
  split
  · exact h
  · have haddress : Counted (s.modPot p fun q => { q with orderAddress := some (r.src, r.slot) }) :=
      h.of_census (censusKept_modPot s p)
    dsimp only
    refine Counted.of_census (Counted.workReading (Counted.takeMarker ?_ p r.marker) p r) (censusKept_modPot _ p)
    split
    · exact haddress.enterStarting p
    · exact haddress

theorem Counted.takeSlot (h : Counted s) (w : SectionWindow) (src : Addr) (slot : Nat) (r : SlotReading) :
    Counted (s.takeSlot w src slot r) := by
  have herror : ∀ k index, Counted (s.mapError k src slot index) := fun k index => h.of_pots (by simp [State.mapError])
  unfold State.takeSlot
  dsimp only
  split
  · exact h
  · split
    · split
      · exact h.takeReading _ _
      · exact herror _ _
    · split
      · split
        · exact h.takeReading _ _
        · exact herror _ _
      · exact herror _ _

theorem Counted.takePotSample (h : Counted s) (src : Addr) (slots : Vector SlotReading 8) : Counted (s.takePotSample src slots) := by
  unfold State.takePotSample
  split
  · split
    · exact h.of_pots ⟨rfl, rfl⟩
    · refine Counted.foldl (fun _ i h => h.takeSlot _ src i.val _) _ ?_
      split
      · exact h
      · exact h.of_pots ⟨rfl, rfl⟩
  · exact h

/-! ### Answers (R33 to R38) -/

theorem Counted.takePotAnswer (h : Counted s) (src : Addr) (seq slot result : Byte) :
    Counted (s.takePotAnswer src seq slot result) := by
  have hlate : Counted (s.lateAnswer src slot.toNat) := by
    unfold State.lateAnswer
    split
    · exact h.of_census (censusKept_modPot s _)
    · exact h.of_pots ⟨rfl, rfl⟩
  unfold State.takePotAnswer
  split
  · exact hlate
  · next p _ =>
    split
    · exact hlate
    · next o ho => exact h.of_effect (h.worked_of_order ho) (effectWorked_answerOrder s p o result)

/-! ### Requests (R167, R177) -/

theorem Counted.restart (h : Counted s) : Counted s.restart := by
  have hpots := (h.of_pots (potsKept_beginRestart s)).restartPots
  have hrest : ∀ t : State, PotsKept t (State.restartSlot { t.restartGroups.restartCooling.restartLine with
      tru := t.restartGroups.restartCooling.restartLine.tru.restarted }) := fun t => by simp
  exact hpots.of_pots (hrest _)

theorem Counted.writePot (h : Counted s) (index field : Nat) (values : List Byte) : Counted (s.writePot index field values).1 := by
  have hcfg : ∀ p f, Counted (s.setPotCfg p f) := fun p f => h.of_census (censusKept_modPot s p)
  have hband : ∀ p f, Counted (s.setPotBand p f) := fun p f => h.of_census (censusKept_modPot s p)
  refine State.indexed_keeps Counted h (fun p => s.writePotField p field _) fun p => ?_
  unfold State.writePotField
  split
  case h_1 =>
    refine State.writeFlag_keeps Counted h fun b => ?_
    split
    · exact h.enablePot p
    · exact h.disablePot p
  case h_8 => exact State.writeFlag_keeps Counted h fun b => hcfg p _
  case h_10 => exact State.writeFlag_keeps Counted h fun b => (hcfg p _).tryQuench p
  case h_3 | h_4 | h_9 => exact hband p _
  case h_12 => exact h
  all_goals exact hcfg p _

theorem Counted.writeObject (h : Counted s) (o : Object) (index field : Nat) (values : List Byte) :
    Counted (s.writeObject o index field values).1 := by
  by_cases ho : o = .pot
  · subst ho
    exact h.writePot index field values
  · exact h.of_pots (potsKept_writeObject s ho index field values)

theorem Counted.command (h : Counted s) (c : Command) (arg : Nat) : Counted (s.command c arg).1 := by
  by_cases hstart : c = .start
  · subst hstart
    show Counted s.commandStart.1
    unfold State.commandStart
    split
    · exact h
    · rw [State.done_fst]
      exact h.restart
  · by_cases hrestart : c = .restart
    · subst hrestart
      show Counted s.restart.done.1
      rw [State.done_fst]
      exact h.restart
    · exact h.of_pots (potsKept_command s hstart hrestart arg)

theorem Counted.workRequest (h : Counted s) (r : Request) : Counted (s.workRequest r).1 := by
  unfold State.workRequest
  split
  · exact h
  · split
    · exact h
    · exact h.command _ _
  · split
    · exact h
    · rwa [State.readObject_fst]
  · split
    · exact h
    · split
      · exact h
      · exact h.writeObject _ _ _ _

end

/-- Whoever asks, and whatever the request, an answer keeps the laws when the work on the request does (R167, R169). -/
theorem Counted.answerRequest {s : State} (h : Counted s) (src : Addr) (seq : Byte) {work : State → Worked}
    (hwork : ∀ t, Counted t → Counted (work t).1) : Counted (s.answerRequest src seq work) := by
  unfold State.answerRequest
  split
  · exact h.of_pots ⟨rfl, rfl⟩
  · have htaken : Counted { s with meu.requestsTaken := bump32 s.meu.requestsTaken } := h.of_pots ⟨rfl, rfl⟩
    refine Counted.of_pots ?_ (potsKept_sendReply _ _)
    dsimp only
    split
    · exact hwork _ htaken
    · exact htaken.of_pots (by simp [State.deny])

theorem Counted.takeRequest {s : State} (h : Counted s) (src : Addr) (seq : Byte) (r : Request) :
    Counted (s.takeRequest src seq r) := h.answerRequest src seq fun _ ht => ht.workRequest r

/-! ### Frames and rows (R158, R159, R176) -/

theorem Counted.arrive {s : State} (h : Counted s) (f : Frame) {work : State → State} (hwork : ∀ t, Counted t → Counted (work t)) :
    Counted (s.arrive f work) := by
  have hpass := h.of_pots (potsKept_passOn s f)
  unfold State.arrive State.distribute
  split
  · exact h.of_pots ⟨rfl, rfl⟩
  · split
    · exact h.of_pots ⟨rfl, rfl⟩
    · dsimp only
      split
      · split
        · exact hpass.of_pots ⟨rfl, rfl⟩
        · exact hpass
      · split
        · split
          · exact hpass.of_pots ⟨rfl, rfl⟩
          · exact hwork _ hpass
        · exact hpass

theorem Counted.onRing {s : State} (h : Counted s) (bytes : List Byte) {work : State → State}
    (hwork : ∀ t, Counted t → Counted (work t)) : Counted (s.onRing bytes work) := by
  unfold State.onRing
  split
  · exact h.of_pots ⟨rfl, rfl⟩
  · exact hwork s h

theorem Counted.frameRow {s : State} (h : Counted s) (f : Frame) {work : State → State}
    (hwork : ∀ t, Counted t → Counted (work t)) : Counted (s.frameRow f work) :=
  h.onRing _ fun _ ht => ht.arrive f hwork

theorem Counted.requestRow {s : State} (h : Counted s) (hd : Header) (payload : List Byte) {work : State → Worked}
    (hwork : ∀ t, Counted t → Counted (work t).1) : Counted (s.requestRow hd payload work) :=
  h.frameRow _ fun _ ht => ht.answerRequest hd.src hd.seq hwork

/-- A frame of any kind, handed to the blocks that take it. -/
theorem Counted.handOver {s : State} (h : Counted s) (f : Frame) : Counted (s.handOver f) := by
  unfold State.handOver
  split
  · exact h
  · next k _ =>
    cases k with
    | potSample => exact h.takePotSample _ _
    | lineSample => exact h.of_pots (potsKept_takeLineSample s _ _)
    | timeMark => exact h.of_pots (potsKept_takeMark s _ _)
    | statusFull => exact h.of_pots (potsKept_takeStatus s _ _ _ _ _)
    | statusShort => exact h.of_pots (potsKept_takeStatus s _ _ _ _ _)
    | groupAnswer => exact h.of_pots (potsKept_takeGroupAnswer s _ _ _ _)
    | groupProbe => exact h.of_pots (potsKept_takeProbe s _ _ _ _ _)
    | potAnswer => exact h.takePotAnswer _ _ _ _
    | coolerStatus => exact h.of_pots (potsKept_takeCoolerStatus s _ _ _)
    | calendarEntry => exact h.of_pots (potsKept_takeCalendarEntry s _ _)
    | request => exact h.takeRequest f.src f.seq (requestOf f.payload)

theorem Counted.receiveBytes {s : State} (h : Counted s) (bytes : List Byte) : Counted (s.receiveBytes bytes) := by
  unfold State.receiveBytes
  split
  · exact h.of_pots ⟨rfl, rfl⟩
  · exact h.of_pots ⟨rfl, rfl⟩
  · exact h.arrive _ fun _ ht => ht.handOver _

/-! ### Every command and every step -/

/-- At power-on every pot is QUIET, without an order, and the AE count is 0. -/
theorem counted_powerOn (straps : Byte) : Counted (State.powerOn straps) := by
  have hpot : ∀ p, (State.powerOn straps).pot p = {} := fun p => by simp [State.pot, State.powerOn]
  refine ⟨?_, fun p _ => by rw [hpot]; exact ⟨rfl, rfl⟩⟩
  rw [countLaw, eq_comm]
  exact List.countP_eq_zero.mpr fun p _ => by rw [hpot]; decide

/-- An expiry keeps the laws when its effect does, if it is due. -/
theorem Counted.expire {s : State} (h : Counted s) {due : Bool} {effect : State} (heffect : due = true → Counted effect) :
    ∃ t, s.expire due effect = .next t ∧ Counted t := by
  refine ⟨_, rfl, ?_⟩
  split
  · next hdue => exact heffect hdue.2
  · exact h

/-- An expiry of another block. -/
theorem Counted.expire_of_pots {s : State} (h : Counted s) {due : Bool} {effect : State} (hk : PotsKept s effect) :
    ∃ t, s.expire due effect = .next t ∧ Counted t := h.expire fun _ => h.of_pots hk

/-- QUALIFICATION_END is due of a SUSPECT pot alone (R43). -/
theorem Counted.qualificationEnd {s : State} (h : Counted s) {p : Fin 384} (hdue : s.qualificationDue p = true) :
    Counted (s.modPot p Pot.glitch) := by
  simp only [State.qualificationDue, Bool.and_eq_true, beq_iff_eq] at hdue
  obtain ⟨⟨-, hae⟩, -⟩ := hdue
  exact h.of_effect (h.worked_of_ae (p := p) (by rw [hae]; decide)) (effectWorked_modPot (by rw [hae]; rfl))

/-- QUENCH_TIMEOUT is due of a QUENCHING pot alone (R43). -/
theorem Counted.quenchTimeout {s : State} (h : Counted s) {p : Fin 384} (hdue : s.quenchTimeoutDue p = true) :
    Counted (s.quenchExpires p) := by
  simp only [State.quenchTimeoutDue, Bool.and_eq_true, beq_iff_eq] at hdue
  obtain ⟨⟨-, hae⟩, -⟩ := hdue
  exact h.of_effect (h.worked_of_ae (p := p) (by rw [hae]; decide)) (effectWorked_quenchExpires hae)

/-- CLEAR_END is due of a CLEARING pot alone (R43). -/
theorem Counted.clearEnd {s : State} (h : Counted s) {p : Fin 384} (hdue : s.clearEndDue p = true) : Counted (s.effectEnds p) := by
  simp only [State.clearEndDue, Bool.and_eq_true, beq_iff_eq] at hdue
  obtain ⟨⟨-, hae⟩, -⟩ := hdue
  exact h.of_effect (h.worked_of_ae (p := p) (by rw [hae]; decide)) (effectWorked_effectEnds hae)

theorem Counted.quenchDue {s : State} (h : Counted s) {p : Fin 384} (hdue : s.quenchReady (s.pot p) = true) :
    Counted (s.decideQuench p) := by
  have htry := h.tryQuench p
  rwa [State.tryQuench, if_pos hdue] at htry

theorem Counted.quenchAll {s : State} (h : Counted s) : Counted s.quenchAll := Counted.foldl (fun _ p h => h.tryQuench p) _ h

theorem Counted.takeOver {s : State} (h : Counted s) : Counted s.takeOver := by
  have hclaims : PotsKept s (State.claimAll { s with meu := { s.meu with mode := .supervising, observationEnd := none } }) := by simp
  unfold State.takeOver
  exact (h.of_pots hclaims).quenchAll.of_pots (potsKept_regulate _)

/-- Every command keeps the laws. -/
theorem Counted.exec {s : State} (h : Counted s) (i : Instr) : ∃ t, exec i s = .next t ∧ Counted t := by
  cases i with
  | resetLow => exact ⟨_, rfl, h.of_pots ⟨rfl, rfl⟩⟩
  | resetRelease straps =>
    refine ⟨_, rfl, ?_⟩
    split
    · exact (counted_powerOn straps).of_pots ⟨rfl, rfl⟩
    · exact h
  | frameRejected bytes => exact ⟨_, rfl, h.onRing bytes fun _ ht => ht.receiveBytes bytes⟩
  | framePassing f => exact ⟨_, rfl, h.frameRow f fun _ ht => ht.handOver f⟩
  | unknownKind f => exact ⟨_, rfl, h.frameRow f fun _ ht => ht.handOver f⟩
  | potSample hd _ slots _ => exact ⟨_, rfl, h.frameRow _ fun _ ht => ht.takePotSample hd.src slots⟩
  | lineSample => exact ⟨_, rfl, h.frameRow _ fun t ht => ht.of_pots (potsKept_takeLineSample t _ _)⟩
  | timeMark => exact ⟨_, rfl, h.frameRow _ fun t ht => ht.of_pots (potsKept_takeMark t _ _)⟩
  | groupStatusFull => exact ⟨_, rfl, h.frameRow _ fun t ht => ht.of_pots (potsKept_takeStatus t _ _ _ _ _)⟩
  | groupStatusShort => exact ⟨_, rfl, h.frameRow _ fun t ht => ht.of_pots (potsKept_takeStatus t _ _ _ _ _)⟩
  | groupAnswer => exact ⟨_, rfl, h.frameRow _ fun t ht => ht.of_pots (potsKept_takeGroupAnswer t _ _ _ _)⟩
  | groupProbe => exact ⟨_, rfl, h.frameRow _ fun t ht => ht.of_pots (potsKept_takeProbe t _ _ _ _ _)⟩
  | watch => exact ⟨_, rfl, h.frameRow _ fun t ht => ht.of_pots (potsKept_takeProbe t _ _ _ _ _)⟩
  | unwatch => exact ⟨_, rfl, h.frameRow _ fun t ht => ht.of_pots (potsKept_takeProbe t _ _ _ _ _)⟩
  | takeLocal => exact ⟨_, rfl, h.frameRow _ fun t ht => ht.of_pots (potsKept_takeProbe t _ _ _ _ _)⟩
  | returnRemote => exact ⟨_, rfl, h.frameRow _ fun t ht => ht.of_pots (potsKept_takeProbe t _ _ _ _ _)⟩
  | potAnswer => exact ⟨_, rfl, h.frameRow _ fun _ ht => ht.takePotAnswer _ _ _ _⟩
  | coolerStatus => exact ⟨_, rfl, h.frameRow _ fun t ht => ht.of_pots (potsKept_takeCoolerStatus t _ _ _)⟩
  | calendarEntry => exact ⟨_, rfl, h.frameRow _ fun t ht => ht.of_pots (potsKept_takeCalendarEntry t _ _)⟩
  | ringOutSend =>
    refine ⟨_, rfl, ?_⟩
    split
    · exact h
    · exact h.of_pots (potsKept_sendNext s)
  | deferralTimerExpiry => exact h.expire_of_pots (potsKept_deferralExpires s)
  | potLost p => exact h.expire fun _ => h.losePot p
  | inhibitEnd p => exact h.expire fun _ => h.of_census (censusKept_modPot s p)
  | adviceExpiry p => exact h.expire fun _ => (h.clearAdvice p).of_pots ⟨rfl, rfl⟩
  | qualificationEnd p => exact h.expire h.qualificationEnd
  | quenchDue p => exact h.expire h.quenchDue
  | quenchTimeout p => exact h.expire h.quenchTimeout
  | clearEnd p => exact h.expire h.clearEnd
  | lineTrip => exact h.expire_of_pots (by simp)
  | stepEnd => exact h.expire_of_pots (potsKept_runOut s)
  | stepTimer g => exact h.expire_of_pots (by simp)
  | groupOrderTimeout g => exact h.expire_of_pots (potsKept_orderTimeout s g)
  | groupHolding g => exact h.expire_of_pots (potsKept_holdGroup s g)
  | groupSilent g => exact h.expire_of_pots (potsKept_silenceGroup s g)
  | stageUp => exact h.expire_of_pots (potsKept_changeStage s _)
  | stageDown => exact h.expire_of_pots (potsKept_changeStage s _)
  | coolerNoResponse => exact h.expire_of_pots (potsKept_coolerFails s)
  | slotEnd => exact h.expire_of_pots (potsKept_endSlot s)
  | prefetch => exact h.expire_of_pots (potsKept_makePrefetch s)
  | fetchTimeout k => exact h.expire_of_pots (potsKept_fetchExpires s k)
  | takeover => exact h.expire fun _ => h.takeOver
  | stationDayEnd => exact h.expire_of_pots (potsKept_endDay s)
  | start => exact ⟨_, rfl, h.requestRow _ _ fun _ ht => ht.command .start 0⟩
  | restart => exact ⟨_, rfl, h.requestRow _ _ fun _ ht => ht.command .restart 0⟩
  | stop => exact ⟨_, rfl, h.requestRow _ _ fun _ ht => ht.command .stop 0⟩
  | claim _ arg => exact ⟨_, rfl, h.requestRow _ _ fun _ ht => ht.command .claim arg.toNat⟩
  | release _ arg => exact ⟨_, rfl, h.requestRow _ _ fun _ ht => ht.command .release arg.toNat⟩
  | setFull _ arg => exact ⟨_, rfl, h.requestRow _ _ fun _ ht => ht.command .setFull arg.toNat⟩
  | profilePlay _ arg => exact ⟨_, rfl, h.requestRow _ _ fun _ ht => ht.command .profilePlay arg.toNat⟩
  | profileHold => exact ⟨_, rfl, h.requestRow _ _ fun _ ht => ht.command .profileHold 0⟩
  | profileResume => exact ⟨_, rfl, h.requestRow _ _ fun _ ht => ht.command .profileResume 0⟩
  | profileStop => exact ⟨_, rfl, h.requestRow _ _ fun _ ht => ht.command .profileStop 0⟩
  | lineRestart => exact ⟨_, rfl, h.requestRow _ _ fun _ ht => ht.command .lineRestart 0⟩
  | cacheInvalidate => exact ⟨_, rfl, h.requestRow _ _ fun _ ht => ht.command .cacheInvalidate 0⟩
  | energyRelease _ arg => exact ⟨_, rfl, h.requestRow _ _ fun _ ht => ht.command .energyRelease arg.toNat⟩
  | clearError => exact ⟨_, rfl, h.requestRow _ _ fun _ ht => ht.command .clearError 0⟩
  | ackEvents _ arg => exact ⟨_, rfl, h.requestRow _ _ fun _ ht => ht.command .ackEvents arg.toNat⟩
  | mgmtWrite => exact ⟨_, rfl, h.requestRow _ _ fun _ ht => ht.workRequest _⟩
  | potWrite => exact ⟨_, rfl, h.requestRow _ _ fun _ ht => ht.writePot _ _ _⟩
  | potEnable => exact ⟨_, rfl, h.requestRow _ _ fun _ ht => ht.writePot _ _ _⟩
  | potDisable => exact ⟨_, rfl, h.requestRow _ _ fun _ ht => ht.writePot _ _ _⟩
  | automaticQuenchWrite => exact ⟨_, rfl, h.requestRow _ _ fun _ ht => ht.writePot _ _ _⟩
  | hlWrite => exact ⟨_, rfl, h.requestRow _ _ fun t ht => ht.of_pots (potsKept_writeLine t _ _)⟩
  | aeHoldLimitWrite => exact ⟨_, rfl, h.requestRow _ _ fun t ht => ht.of_pots (potsKept_writeLine t _ _)⟩
  | groupPresentWrite => exact ⟨_, rfl, h.requestRow _ _ fun t ht => ht.of_pots (potsKept_writeGroup t _ _ _)⟩
  | nodeAddressWrite => exact ⟨_, rfl, h.requestRow _ _ fun t ht => ht.of_pots (potsKept_writeGroup t _ _ _)⟩
  | stepLatchWrite => exact ⟨_, rfl, h.requestRow _ _ fun t ht => ht.of_pots (potsKept_writeGroup t _ _ _)⟩
  | stepClockWrite => exact ⟨_, rfl, h.requestRow _ _ fun t ht => ht.of_pots (potsKept_writeGroup t _ _ _)⟩
  | stageWrite => exact ⟨_, rfl, h.requestRow _ _ fun t ht => ht.of_pots (potsKept_writeStage t _ _ _)⟩
  | eventsWrite => exact ⟨_, rfl, h.requestRow _ _ fun t ht => ht.of_pots (potsKept_writeEvents t _ _)⟩
  | mgmtAddressWrite => exact ⟨_, rfl, h.requestRow _ _ fun _ ht => ht.writeObject .mgmtAddress _ 0 _⟩

/-- Every step keeps the laws: the command at the front of the queue, an expiry that is due, or 1 ms of part time. -/
theorem Counted.step {s : State} (h : Counted s) : ∃ t, step s = .next t ∧ Counted t := by
  unfold Machine.step
  split
  · unfold State.idle
    split
    · exact ⟨s, rfl, h⟩
    · split
      · next i _ => exact h.exec i
      · exact ⟨s.tick, rfl, h.of_pots ⟨rfl, rfl⟩⟩
  · next i rest _ =>
    have hrest : Counted { s with pending := rest } := h.of_pots ⟨rfl, rfl⟩
    exact hrest.exec i

/-- Settles O10: the two laws are one invariant. R9 tells which pots are worked, so that R56 can follow their AE states, and every step
keeps both (`Counted.step`). -/
theorem aeCountIsTheNumberOfPots : Obligations.AeCountIsTheNumberOfPots := by
  intro s t h hstep
  obtain ⟨t', hnext, ht'⟩ := Counted.step h
  rw [hnext] at hstep
  cases hstep
  exact ht'

end Sys2Proof.Machine
end

section
/-! SUPPORT. What leaves the energy unit alone: the operations of the other blocks, each said once, in the order of the model. Those that
write the AE energy (R63), the binding flag (R136) or the tariff entry (R148, R151) of the open slot are not among them. -/

namespace Sys2Proof.Machine

/-! ### Folds, orders and send lists -/

/-- A fold of operations that leave the energy unit alone does. -/
theorem foldl_egu {α : Type} {f : State → α → State} (hf : ∀ s a, (f s a).egu = s.egu) (l : List α) :
    ∀ s : State, (l.foldl f s).egu = s.egu := by
  induction l with
  | nil => exact fun _ => rfl
  | cons a l ih => exact fun s => (ih _).trans (hf s a)

/-- What the decision of orders can change is outside the energy unit. -/
theorem Ordered.egu {s t : State} (h : Ordered s t) : t.egu = s.egu := by
  unfold Ordered at h
  rw [h]

@[simp] theorem State.allocate_egu (s : State) : s.allocate.egu = s.egu := (ordered_allocate s).egu

@[simp] theorem State.sendGroupOrder_egu (s : State) (g : Fin 8) (f : Frame) : (s.sendGroupOrder g f).egu = s.egu :=
  (ordered_sendGroupOrder s g f).egu

@[simp] theorem State.notify_egu (s : State) (g : Fin 8) : (s.notify g).egu = s.egu := (ordered_notify s g).egu

@[simp] theorem State.regulate_egu (s : State) : s.regulate.egu = s.egu := (ordered_regulate s).egu

@[simp] theorem State.sendReply_egu (s : State) (f : Frame) : (s.sendReply f).egu = s.egu := by
  unfold State.sendReply
  split <;> simp

@[simp] theorem State.sendPotOrder_egu (s : State) (p : Fin 384) (f : Frame) : (s.sendPotOrder p f).egu = s.egu := by
  unfold State.sendPotOrder
  dsimp only
  split <;> simp

@[simp] theorem State.sendAnswer_egu (s : State) (f : Frame) : (s.sendAnswer f).egu = s.egu := by
  unfold State.sendAnswer
  dsimp only
  split <;> simp

@[simp] theorem State.sendAsk_egu (s : State) (f : Frame) : (s.sendAsk f).egu = s.egu := by
  simp [State.sendAsk]

@[simp] theorem State.sendCoolerOrder_egu (s : State) (f : Frame) : (s.sendCoolerOrder f).egu = s.egu := by
  simp [State.sendCoolerOrder]

/-! ### The line regulator -/

@[simp] theorem State.reallocate_egu (s before : State) : (s.reallocate before).egu = s.egu := by
  unfold State.reallocate
  split <;> simp

@[simp] theorem State.workBelowFloor_egu (s : State) : s.workBelowFloor.egu = s.egu := by
  unfold State.workBelowFloor
  split
  · split <;> simp
  · rfl

@[simp] theorem State.takeCapacity_egu (s : State) : s.takeCapacity.egu = s.egu := by
  unfold State.takeCapacity
  split <;> simp

@[simp] theorem State.workAeHold_egu (s : State) : s.workAeHold.egu = s.egu := rfl

@[simp] theorem State.workHeatRecovery_egu (s : State) : s.workHeatRecovery.egu = s.egu := by
  unfold State.workHeatRecovery
  dsimp only
  split
  · simp
  · split <;> rfl

@[simp] theorem State.workTrim_egu (s : State) : s.workTrim.egu = s.egu := rfl

@[simp] theorem State.enterStep_egu (s : State) (n : Fin 8) (k : Fin 256) : (s.enterStep n k).egu = s.egu := by
  unfold State.enterStep
  dsimp only
  split <;> simp

@[simp] theorem State.startProfile_egu (s : State) (n : Fin 8) : (s.startProfile n).egu = s.egu := s.enterStep_egu n _

@[simp] theorem State.runOut_egu (s : State) : s.runOut.egu = s.egu := by
  unfold State.runOut
  dsimp only
  split
  · rfl
  · split <;> simp

@[simp] theorem State.trigger_egu (s : State) (cls : Nat) : (s.trigger cls).egu = s.egu := by
  unfold State.trigger
  split
  · split <;> simp
  · rfl

@[simp] theorem State.zeroWanted_egu (s : State) : s.zeroWanted.egu = s.egu := rfl

@[simp] theorem State.trip_egu (s : State) : s.trip.egu = s.egu := by
  simp [State.trip]

/-! ### The group authority unit -/

@[simp] theorem State.releaseCore_egu (s : State) (g : Fin 8) : (s.releaseCore g).egu = s.egu := by
  unfold State.releaseCore
  split <;> simp

@[simp] theorem State.releaseGroup_egu (s : State) (g : Fin 8) : (s.releaseGroup g).egu = s.egu := by
  unfold State.releaseGroup
  split <;> simp

@[simp] theorem State.releaseAll_egu (s : State) : s.releaseAll.egu = s.egu := foldl_egu State.releaseCore_egu _ s

@[simp] theorem State.claimGroup_egu (s : State) (g : Fin 8) : (s.claimGroup g).egu = s.egu := by
  simp [State.claimGroup]

@[simp] theorem State.autoclaim_egu (s : State) (g : Fin 8) : (s.autoclaim g).egu = s.egu := by
  unfold State.autoclaim
  dsimp only
  split <;> simp

@[simp] theorem State.endOrder_egu (s : State) (g : Fin 8) : (s.endOrder g).egu = s.egu := rfl

@[simp] theorem State.orderTaken_egu (s : State) (g : Fin 8) (o : GroupOrder) : (s.orderTaken g o).egu = s.egu := by
  simp [State.orderTaken]

@[simp] theorem State.orderRefused_egu (s : State) (g : Fin 8) (o : GroupOrder) : (s.orderRefused g o).egu = s.egu := by
  unfold State.orderRefused
  dsimp only
  split <;> simp

@[simp] theorem State.takeGroupAnswer_egu (s : State) (src : Addr) (seq result : Byte) (setpoint : Nat) :
    (s.takeGroupAnswer src seq result setpoint).egu = s.egu := by
  have hmismatch : ∀ (o : GroupOrder) (g : Fin 8) (f : Group → Group),
      (if setpoint = o.setpoint then s else s.modGroup g f).egu = s.egu := fun o g f => by split <;> rfl
  unfold State.takeGroupAnswer
  split
  · rfl
  · dsimp only
    split
    · rfl
    · split
      · rfl
      · split
        · simp [hmismatch]
        · split <;> simp [hmismatch]

@[simp] theorem State.orderTimeout_egu (s : State) (g : Fin 8) : (s.orderTimeout g).egu = s.egu := by
  simp [State.orderTimeout]

/-- Every next-state of a probe leaves the energy unit alone (R102, R103). -/
theorem State.probeNext_egu {s : State} {g : Fin 8} {next : Byte} {src : Addr} {w : State × ProbeResult}
    (h : s.probeNext g next src = some w) : w.1.egu = s.egu := by
  have hwatch : (s.probeWatch g src).1.egu = s.egu := by
    unfold State.probeWatch
    dsimp only
    split
    · rfl
    · split <;> rfl
  have hunwatch : (s.probeUnwatch g src).1.egu = s.egu := by
    unfold State.probeUnwatch
    split <;> rfl
  have hremote : (s.probeReturnRemote g).1.egu = s.egu := by
    unfold State.probeReturnRemote
    split <;> simp
  unfold State.probeNext at h
  split_ifs at h <;> cases h
  · rfl
  · exact hwatch
  · exact hunwatch
  · exact s.releaseGroup_egu g
  · exact hremote

@[simp] theorem State.takeProbe_egu (s : State) (src : Addr) (seq group data next : Byte) :
    (s.takeProbe src seq group data next).egu = s.egu := by
  unfold State.takeProbe
  split
  · rfl
  · split
    · dsimp only
      split
      · split
        · next hnext => simpa using State.probeNext_egu hnext
        · simp
      · simp
    · simp

@[simp] theorem State.workStatusMode_egu (s : State) (g : Fin 8) (m : StatusMode) : (s.workStatusMode g m).egu = s.egu := by
  unfold State.workStatusMode
  dsimp only
  split <;> simp

@[simp] theorem State.startWithdrawal_egu (s : State) (g : Fin 8) : (s.startWithdrawal g).egu = s.egu := by
  unfold State.startWithdrawal
  dsimp only
  split <;> simp

@[simp] theorem State.endWithdrawal_egu (s : State) (g : Fin 8) : (s.endWithdrawal g).egu = s.egu := rfl

/-! ### The cooling unit -/

@[simp] theorem State.evaluateCap_egu (s : State) (g : Fin 8) : (s.evaluateCap g).egu = s.egu := by
  unfold State.evaluateCap
  split <;> rfl

@[simp] theorem State.evaluateAll_egu (s : State) : s.evaluateAll.egu = s.egu := foldl_egu State.evaluateCap_egu _ s

@[simp] theorem State.evaluateStage_egu (s : State) : s.evaluateStage.egu = s.egu := rfl

@[simp] theorem State.handCapacity_egu (s before : State) : (s.handCapacity before).egu = s.egu := by
  unfold State.handCapacity
  dsimp only
  split <;> simp

@[simp] theorem State.handOn_egu (s before : State) : (s.handOn before).egu = s.egu := by
  simp [State.handOn]

@[simp] theorem State.curveComputation_egu (s : State) (g : Fin 8) : (s.curveComputation g).egu = s.egu := by
  unfold State.curveComputation
  dsimp only
  split
  · simp
  · split <;> simp

@[simp] theorem State.basicComputation_egu (s : State) (g : Fin 8) : (s.basicComputation g).egu = s.egu := by
  simp [State.basicComputation]

@[simp] theorem State.workShortfall_egu (s : State) : s.workShortfall.egu = s.egu := by
  unfold State.workShortfall
  split
  · split <;> simp
  · rfl

@[simp] theorem State.workPercentage_egu (s : State) : s.workPercentage.egu = s.egu := by
  unfold State.workPercentage
  dsimp only
  split <;> simp

@[simp] theorem State.orderStage_egu (s : State) : s.orderStage.egu = s.egu := by
  simp [State.orderStage]

@[simp] theorem State.changeStage_egu (s : State) (wanted : Nat) : (s.changeStage wanted).egu = s.egu := by
  simp [State.changeStage]

@[simp] theorem State.takeCoolerStatus_egu (s : State) (src : Addr) (running available : Byte) :
    (s.takeCoolerStatus src running available).egu = s.egu := by
  unfold State.takeCoolerStatus
  dsimp only
  split
  · split
    · rfl
    · split <;> simp
  · rfl

@[simp] theorem State.coolerFails_egu (s : State) : s.coolerFails.egu = s.egu := by
  simp [State.coolerFails]

@[simp] theorem State.confirmPending_egu (s : State) (g : Fin 8) : (s.confirmPending g).egu = s.egu := by
  unfold State.confirmPending
  split <;> simp

@[simp] theorem State.recordShort_egu (s : State) (g : Fin 8) (current tap : Nat) : (s.recordShort g current tap).egu = s.egu := by
  unfold State.recordShort
  dsimp only
  split <;> simp

@[simp] theorem State.recordStatus_egu (s : State) (g : Fin 8) (current tap : Nat) (full : Option FullStatus) :
    (s.recordStatus g current tap full).egu = s.egu := by
  unfold State.recordStatus
  dsimp only
  split
  · rfl
  · split <;> simp

@[simp] theorem State.coolStatus_egu (s : State) (g : Fin 8) (wasFresh : Bool) (full : Option FullStatus) :
    (s.coolStatus g wasFresh full).egu = s.egu := by
  unfold State.coolStatus
  split
  · simp
  · simp
  · split <;> simp

@[simp] theorem State.workStatus_egu (s : State) (g : Fin 8) (m : StatusMode) (current tap : Nat) (full : Option FullStatus) :
    (s.workStatus g m current tap full).egu = s.egu := by
  unfold State.workStatus
  dsimp only
  split <;> simp

@[simp] theorem State.takeStatus_egu (s : State) (src : Addr) (mode : Byte) (current : Half) (tap : Byte) (full : Option FullStatus) :
    (s.takeStatus src mode current tap full).egu = s.egu := by
  unfold State.takeStatus
  split
  · split
    · rfl
    · split
      · split <;> simp
      · rfl
  · rfl

@[simp] theorem State.holdGroup_egu (s : State) (g : Fin 8) : (s.holdGroup g).egu = s.egu := by
  simp [State.holdGroup]

@[simp] theorem State.silenceGroup_egu (s : State) (g : Fin 8) : (s.silenceGroup g).egu = s.egu := by
  unfold State.silenceGroup
  dsimp only
  split <;> simp

@[simp] theorem State.setFull_egu (s : State) (g : Fin 8) : (s.setFull g).egu = s.egu := by
  simp [State.setFull]

@[simp] theorem State.changePresence_egu (s : State) (g : Fin 8) (present : Bool) : (s.changePresence g present).egu = s.egu := by
  simp [State.changePresence]

/-! ### The anode effect unit -/

@[simp] theorem State.decidePotOrder_egu (s : State) (p : Fin 384) (k : OrderKind) : (s.decidePotOrder p k).egu = s.egu := by
  unfold State.decidePotOrder
  split
  · rfl
  · simp

@[simp] theorem State.cancelAdvice_egu (s : State) (p : Fin 384) : (s.cancelAdvice p).egu = s.egu := by
  unfold State.cancelAdvice
  split
  · split <;> rfl
  · rfl

@[simp] theorem State.cancelQuench_egu (s : State) (p : Fin 384) : (s.cancelQuench p).egu = s.egu := by
  unfold State.cancelQuench
  split
  · split <;> rfl
  · rfl

@[simp] theorem State.closeRecord_egu (s : State) (p : Fin 384) (cause : EndCause) : (s.closeRecord p cause).egu = s.egu := by
  simp [State.closeRecord]

@[simp] theorem State.traceReading_egu (s : State) (p : Fin 384) (vp : Nat) : (s.traceReading p vp).egu = s.egu := by
  unfold State.traceReading
  split <;> rfl

@[simp] theorem State.decideQuench_egu (s : State) (p : Fin 384) : (s.decideQuench p).egu = s.egu := by
  simp [State.decideQuench]

@[simp] theorem State.tryQuench_egu (s : State) (p : Fin 384) : (s.tryQuench p).egu = s.egu := by
  unfold State.tryQuench
  split <;> simp

@[simp] theorem State.setPersistent_egu (s : State) (p : Fin 384) : (s.setPersistent p).egu = s.egu := by
  simp [State.setPersistent]

@[simp] theorem State.quenchExpires_egu (s : State) (p : Fin 384) : (s.quenchExpires p).egu = s.egu := by
  unfold State.quenchExpires
  dsimp only
  split
  · simp
  · split <;> simp

@[simp] theorem State.raiseAeEnd_egu (s : State) (p : Fin 384) (cause : EndCause) : (s.raiseAeEnd p cause).egu = s.egu := by
  simp [State.raiseAeEnd]

@[simp] theorem State.effectEnds_egu (s : State) (p : Fin 384) : (s.effectEnds p).egu = s.egu := by
  simp [State.effectEnds]

@[simp] theorem State.setAeCount_egu (s : State) (n : Nat) : (s.setAeCount n).egu = s.egu := rfl

@[simp] theorem State.endSpan_egu (s : State) (p : Fin 384) : (s.endSpan p).egu = s.egu := rfl

@[simp] theorem State.forceClose_egu (s : State) (p : Fin 384) (cause : EndCause) : (s.forceClose p cause).egu = s.egu := by
  unfold State.forceClose
  split <;> simp

@[simp] theorem State.measurementFault_egu (s : State) (p : Fin 384) (vp : Nat) : (s.measurementFault p vp).egu = s.egu := by
  simp [State.measurementFault]

@[simp] theorem State.onset_egu (s : State) (p : Fin 384) (vp : Nat) : (s.onset p vp).egu = s.egu := by
  simp [State.onset]

@[simp] theorem State.beginClearing_egu (s : State) (p : Fin 384) (vp : Nat) : (s.beginClearing p vp).egu = s.egu := by
  simp [State.beginClearing]

@[simp] theorem State.takeFeed_egu (s : State) (p : Fin 384) : (s.takeFeed p).egu = s.egu := by
  simp [State.takeFeed]

@[simp] theorem State.quenchTaken_egu (s : State) (p : Fin 384) : (s.quenchTaken p).egu = s.egu := by
  simp [State.quenchTaken]

@[simp] theorem State.afterDecline_egu (s : State) (p : Fin 384) : (s.afterDecline p).egu = s.egu := by
  unfold State.afterDecline
  dsimp only
  split
  · simp
  · split <;> simp

@[simp] theorem State.quenchDeclined_egu (s : State) (p : Fin 384) (seq : Byte) : (s.quenchDeclined p seq).egu = s.egu := by
  simp [State.quenchDeclined]

/-! ### The section map and the pot supervision unit -/

@[simp] theorem State.enablePot_egu (s : State) (p : Fin 384) : (s.enablePot p).egu = s.egu := by
  unfold State.enablePot
  split <;> rfl

@[simp] theorem State.disablePot_egu (s : State) (p : Fin 384) : (s.disablePot p).egu = s.egu := by
  unfold State.disablePot
  split <;> simp

@[simp] theorem State.losePot_egu (s : State) (p : Fin 384) : (s.losePot p).egu = s.egu := by
  simp [State.losePot]

@[simp] theorem State.decideAdvice_egu (s : State) (p : Fin 384) : (s.decideAdvice p).egu = s.egu := by
  unfold State.decideAdvice
  split
  · rfl
  · split <;> simp

@[simp] theorem State.startInhibit_egu (s : State) (p : Fin 384) : (s.startInhibit p).egu = s.egu := rfl

@[simp] theorem State.cutOut_egu (s : State) (p : Fin 384) : (s.cutOut p).egu = s.egu := by
  simp [State.cutOut]

@[simp] theorem State.takeMarker_egu (s : State) (p : Fin 384) (m : Byte) : (s.takeMarker p m).egu = s.egu := by
  unfold State.takeMarker
  dsimp only
  split_ifs <;> simp

@[simp] theorem State.mapError_egu (s : State) (k : ErrorKind) (src : Addr) (slot index : Nat) :
    (s.mapError k src slot index).egu = s.egu := by
  simp [State.mapError]

@[simp] theorem State.lateAnswer_egu (s : State) (src : Addr) (slot : Nat) : (s.lateAnswer src slot).egu = s.egu := by
  unfold State.lateAnswer
  split <;> rfl

@[simp] theorem State.clearAdvice_egu (s : State) (p : Fin 384) : (s.clearAdvice p).egu = s.egu := rfl

@[simp] theorem State.adviceTaken_egu (s : State) (p : Fin 384) : (s.adviceTaken p).egu = s.egu := rfl

@[simp] theorem State.expireAdvice_egu (s : State) (p : Fin 384) : (s.expireAdvice p).egu = s.egu := rfl

@[simp] theorem State.adviceDeclined_egu (s : State) (p : Fin 384) (o : PotOrder) : (s.adviceDeclined p o).egu = s.egu := by
  simp [State.adviceDeclined]

@[simp] theorem State.answerOrder_egu (s : State) (p : Fin 384) (o : PotOrder) (result : Byte) :
    (s.answerOrder p o result).egu = s.egu := by
  unfold State.answerOrder
  split_ifs <;> simp

@[simp] theorem State.takePotAnswer_egu (s : State) (src : Addr) (seq slot result : Byte) :
    (s.takePotAnswer src seq slot result).egu = s.egu := by
  unfold State.takePotAnswer
  split
  · simp
  · split <;> simp

@[simp] theorem State.restartPot_egu (s : State) (p : Fin 384) : (s.restartPot p).egu = s.egu := by
  simp [State.restartPot]

@[simp] theorem State.restartPots_egu (s : State) : s.restartPots.egu = s.egu := foldl_egu State.restartPot_egu _ s

/-! ### The tariff unit -/

@[simp] theorem State.issueFetch_egu (s : State) (k : Fin 2) (n : Nat) (i : Half) : (s.issueFetch k n i).egu = s.egu := by
  simp [State.issueFetch]

theorem State.refillFrom_egu (k : Fin 2) (l : List (Nat × Half)) : ∀ s : State, (s.refillFrom k l).egu = s.egu := by
  induction l with
  | nil => exact fun _ => rfl
  | cons e rest ih =>
    intro s
    unfold State.refillFrom
    split
    · simp
    · exact ih s

@[simp] theorem State.refill_egu (s : State) (k : Fin 2) : (s.refill k).egu = s.egu := State.refillFrom_egu k _ s

@[simp] theorem State.abandonOther_egu (s : State) (n : Nat) : (s.abandonOther n).egu = s.egu := by
  unfold State.abandonOther
  dsimp only
  split <;> simp

@[simp] theorem State.requestFetch_egu (s : State) (n : Nat) (i : Half) : (s.requestFetch n i).egu = s.egu := by
  unfold State.requestFetch
  dsimp only
  split
  · rfl
  · split <;> simp

@[simp] theorem State.makePrefetch_egu (s : State) : s.makePrefetch.egu = s.egu := by
  unfold State.makePrefetch
  split
  · rfl
  · dsimp only
    split
    · rfl
    · split <;> simp

@[simp] theorem State.testPrefetch_egu (s : State) : s.testPrefetch.egu = s.egu := by
  unfold State.testPrefetch
  split <;> simp

@[simp] theorem State.chooseEntry_egu (s : State) (n : Nat) : (s.chooseEntry n).1.egu = s.egu := by
  unfold State.chooseEntry
  split
  · rfl
  · dsimp only
    split
    · rfl
    · split
      · rfl
      · split <;> simp

@[simp] theorem State.tariffError_egu (s : State) (k : ErrorKind) (n : Nat) (i : Half) (code : Nat) :
    (s.tariffError k n i code).egu = s.egu := by
  simp [State.tariffError]

@[simp] theorem State.invalidAnswer_egu (s : State) (k : Fin 2) (a : CalendarAnswer) : (s.invalidAnswer k a).egu = s.egu := by
  simp [State.invalidAnswer]

@[simp] theorem State.fetchExpires_egu (s : State) (k : Fin 2) : (s.fetchExpires k).egu = s.egu := by
  unfold State.fetchExpires
  split <;> simp

/-! ### Restart, STOP, takeover and the ring port -/

@[simp] theorem State.beginRestart_egu (s : State) : s.beginRestart.egu = s.egu := by
  simp [State.beginRestart]

@[simp] theorem State.restartGroups_egu (s : State) : s.restartGroups.egu = s.egu := by
  simp [State.restartGroups]

@[simp] theorem State.restartCooling_egu (s : State) : s.restartCooling.egu = s.egu := by
  simp [State.restartCooling]

@[simp] theorem State.restartLine_egu (s : State) : s.restartLine.egu = s.egu := rfl

@[simp] theorem State.stop_egu (s : State) : s.stop.egu = s.egu := by
  simp [State.stop]

@[simp] theorem State.claimAll_egu (s : State) : s.claimAll.egu = s.egu := foldl_egu State.autoclaim_egu _ s

@[simp] theorem State.quenchAll_egu (s : State) : s.quenchAll.egu = s.egu := foldl_egu State.tryQuench_egu _ s

@[simp] theorem State.takeOver_egu (s : State) : s.takeOver.egu = s.egu := by
  simp [State.takeOver]

@[simp] theorem State.sendNext_egu (s : State) : s.sendNext.egu = s.egu := by
  unfold State.sendNext
  split
  · rfl
  · rfl
  · simp
  · split <;> simp

@[simp] theorem State.deferralExpires_egu (s : State) : s.deferralExpires.egu = s.egu := by
  simp [State.deferralExpires]

@[simp] theorem State.passOn_egu (s : State) (f : Frame) : (s.passOn f).egu = s.egu := by
  unfold State.passOn
  split <;> rfl

end Sys2Proof.Machine
end

section
/-! SUPPORT. Requests and the energy unit: no WRITE changes it, and of the commands START, RESTART and ENERGY-RELEASE alone. -/

namespace Sys2Proof.Machine

/-! ### Checked writes (R167) -/

@[simp] theorem State.writeUpTo_egu {s : State} {hi v : Nat} {f : Nat → State} (hf : ∀ n, (f n).egu = s.egu) :
    (s.writeUpTo hi v f).1.egu = s.egu := State.writeUpTo_keeps (fun t => t.egu = s.egu) rfl hf

@[simp] theorem State.writeFlag_egu {s : State} {v : Nat} {f : Bool → State} (hf : ∀ b, (f b).egu = s.egu) :
    (s.writeFlag v f).1.egu = s.egu := State.writeFlag_keeps (fun t => t.egu = s.egu) rfl hf

@[simp] theorem State.writeChoice_egu {s : State} {α : Type} {choice : Nat → Option α} {v : Nat} {f : α → State}
    (hf : ∀ a, (f a).egu = s.egu) : (s.writeChoice choice v f).1.egu = s.egu :=
  State.writeChoice_keeps (fun t => t.egu = s.egu) rfl hf

@[simp] theorem State.needing_egu {s : State} {bytes : Nat} {values : List Byte} {w : Worked} (hw : w.1.egu = s.egu) :
    (s.needing bytes values w).1.egu = s.egu := State.needing_keeps (fun t => t.egu = s.egu) rfl hw

@[simp] theorem State.writeAddress_egu {s : State} {index : Nat} {values : List Byte} {f : Addr → State}
    (hf : ∀ a, (f a).egu = s.egu) : (s.writeAddress index values f).1.egu = s.egu :=
  State.writeAddress_keeps (fun t => t.egu = s.egu) rfl hf

/-- A write to an object by its index leaves the energy unit alone when the write to the object does. -/
theorem State.indexed_egu {s : State} {bytes n index : Nat} {values : List Byte} (w : Fin n → Worked)
    (hw : ∀ k, (w k).1.egu = s.egu) :
    (s.needing bytes values (if h : index < n then w ⟨index, h⟩ else s.refuse .badIndex)).1.egu = s.egu :=
  State.indexed_keeps (fun t => t.egu = s.egu) rfl w hw

theorem State.onGroup_egu {s : State} {arg : Nat} {f : Fin 8 → Worked} (hf : ∀ g, (f g).1.egu = s.egu) :
    (s.onGroup arg f).1.egu = s.egu := State.onGroup_keeps (fun t => t.egu = s.egu) rfl hf

/-! ### WRITEs -/

@[simp] theorem State.writePot_egu (s : State) (index field : Nat) (values : List Byte) :
    (s.writePot index field values).1.egu = s.egu := by
  refine State.indexed_egu (fun p => s.writePotField p field _) fun p => ?_
  unfold State.writePotField
  split
  case h_1 => exact State.writeFlag_egu fun b => by split <;> simp
  case h_8 => exact State.writeFlag_egu fun b => rfl
  case h_10 => exact State.writeFlag_egu fun b => State.tryQuench_egu _ p
  all_goals simp [State.setPotCfg, State.setPotBand]

@[simp] theorem State.writeSection_egu (s : State) (index field : Nat) (values : List Byte) :
    (s.writeSection index field values).1.egu = s.egu := by
  refine State.indexed_egu (fun w => s.writeSectionField w field _) fun w => ?_
  unfold State.writeSectionField
  split
  case h_3 => split <;> rfl
  all_goals simp [State.setSection]

@[simp] theorem State.writeMap_egu (s : State) (index : Nat) (values : List Byte) : (s.writeMap index values).1.egu = s.egu := by
  refine State.indexed_egu (fun i => s.writeMapEntry i _) fun i => ?_
  unfold State.writeMapEntry
  dsimp only
  split
  · rfl
  · split <;> rfl

theorem State.writePresent_egu (s : State) (g : Fin 8) (v : Nat) : (s.writePresent g v).1.egu = s.egu := by
  unfold State.writePresent
  dsimp only
  split_ifs <;> simp

theorem State.writeNode_egu (s : State) (g : Fin 8) (v : Nat) : (s.writeNode g v).1.egu = s.egu := by
  unfold State.writeNode
  dsimp only
  split_ifs <;> rfl

@[simp] theorem State.writeGroup_egu (s : State) (index field : Nat) (values : List Byte) :
    (s.writeGroup index field values).1.egu = s.egu := by
  refine State.indexed_egu (fun g => s.writeGroupField g field _) fun g => ?_
  unfold State.writeGroupField
  split
  case h_1 => exact s.writePresent_egu g _
  case h_2 => exact s.writeNode_egu g _
  case h_5 | h_6 => exact State.writeChoice_egu fun _ => rfl
  case h_9 | h_10 => exact State.writeFlag_egu fun _ => rfl
  all_goals simp [State.setGroupCfg, State.writeLatch]

@[simp] theorem State.writeCurve_egu (s : State) (index field : Nat) (values : List Byte) :
    (s.writeCurve index field values).1.egu = s.egu := by
  have hput : ∀ g curve, (s.putCurve g field values curve).1.egu = s.egu := fun g curve => by
    unfold State.putCurve
    split <;> rfl
  refine State.indexed_egu (fun g => if field ≤ 8 then s.writeCurveAt g field values else s.refuse .badIndex) fun g => ?_
  unfold State.writeCurveAt
  dsimp only
  split_ifs
  · exact hput _ _
  · rfl
  · exact hput _ _
  · rfl

@[simp] theorem State.writeStage_egu (s : State) (index field : Nat) (values : List Byte) :
    (s.writeStage index field values).1.egu = s.egu := by
  have hthreshold : ∀ k v f, (s.writeThreshold k v f).1.egu = s.egu := fun k v f => by
    unfold State.writeThreshold
    dsimp only
    split <;> rfl
  refine State.needing_egu ?_
  split
  · unfold State.writeStageField
    split <;> simp [hthreshold]
  · rfl

@[simp] theorem State.writeProfileStep_egu (s : State) (index field : Nat) (values : List Byte) :
    (s.writeProfileStep index field values).1.egu = s.egu := by
  refine State.indexed_egu (fun k => s.writeStepField k field _) fun k => ?_
  unfold State.writeStepField
  split <;> simp [State.setStep]

@[simp] theorem State.writeProfile_egu (s : State) (index field : Nat) (values : List Byte) :
    (s.writeProfile index field values).1.egu = s.egu := by
  refine State.indexed_egu (fun n => s.writeProfileField n field _) fun n => ?_
  unfold State.writeProfileField
  split <;> simp [State.setProfile]

@[simp] theorem State.writeTariffWindow_egu (s : State) (index field : Nat) (values : List Byte) :
    (s.writeTariffWindow index field values).1.egu = s.egu := by
  refine State.indexed_egu (fun w => s.writeWindowField w field _) fun w => ?_
  unfold State.writeWindowField
  split
  case h_3 => split <;> rfl
  all_goals simp [State.setWindow]

@[simp] theorem State.writeTariffDefault_egu (s : State) (index field : Nat) (values : List Byte) :
    (s.writeTariffDefault index field values).1.egu = s.egu := by
  refine State.needing_egu ?_
  split
  · unfold State.writeDefaultField
    split <;> simp
  · rfl

@[simp] theorem State.writeLine_egu (s : State) (field : Nat) (values : List Byte) : (s.writeLine field values).1.egu = s.egu := by
  have hvoltage : ∀ lo hi v f, (s.writeVoltage lo hi v f).1.egu = s.egu := fun lo hi v f => by
    unfold State.writeVoltage
    split <;> rfl
  refine State.needing_egu ?_
  unfold State.writeLineField
  split <;> simp [hvoltage, State.setLineCfg, State.writeHl, State.writeHoldLimit]

@[simp] theorem State.writeEvents_egu (s : State) (index : Nat) (values : List Byte) :
    (s.writeEvents index values).1.egu = s.egu := by
  refine State.needing_egu ?_
  split
  · split
    · simp [State.writeEnable]
    · rfl
  · rfl

@[simp] theorem State.writeManagement_egu (s : State) (index : Nat) (values : List Byte) :
    (s.writeManagement index values).1.egu = s.egu := by
  simp [State.writeManagement]

/-- No WRITE changes the energy unit. -/
@[simp] theorem State.writeObject_egu (s : State) (o : Object) (index field : Nat) (values : List Byte) :
    (s.writeObject o index field values).1.egu = s.egu := by
  cases o <;> simp [State.writeObject]

/-! ### Commands -/

@[simp] theorem State.commandStop_egu (s : State) : s.commandStop.1.egu = s.egu := by
  unfold State.commandStop
  split <;> simp

@[simp] theorem State.commandClaim_egu (s : State) (arg : Nat) : (s.commandClaim arg).1.egu = s.egu := by
  refine State.onGroup_egu fun g => ?_
  split <;> simp

@[simp] theorem State.commandRelease_egu (s : State) (arg : Nat) : (s.commandRelease arg).1.egu = s.egu := by
  refine State.onGroup_egu fun g => ?_
  dsimp only
  split <;> simp

@[simp] theorem State.commandSetFull_egu (s : State) (arg : Nat) : (s.commandSetFull arg).1.egu = s.egu := by
  refine State.onGroup_egu fun g => ?_
  dsimp only
  split_ifs <;> simp

@[simp] theorem State.commandPlay_egu (s : State) (arg : Nat) : (s.commandPlay arg).1.egu = s.egu := by
  refine State.onGroup_egu fun n => ?_
  split <;> simp

@[simp] theorem State.commandHold_egu (s : State) : s.commandHold.1.egu = s.egu := by
  unfold State.commandHold
  split <;> rfl

@[simp] theorem State.commandResume_egu (s : State) : s.commandResume.1.egu = s.egu := by
  unfold State.commandResume
  split <;> rfl

@[simp] theorem State.commandStopProfile_egu (s : State) : s.commandStopProfile.1.egu = s.egu := by
  unfold State.commandStopProfile
  split <;> rfl

@[simp] theorem State.commandLineRestart_egu (s : State) : s.commandLineRestart.1.egu = s.egu := by
  unfold State.commandLineRestart
  split <;> simp

@[simp] theorem State.commandInvalidate_egu (s : State) : s.commandInvalidate.1.egu = s.egu := rfl

@[simp] theorem State.commandClearError_egu (s : State) : s.commandClearError.1.egu = s.egu := rfl

@[simp] theorem State.commandAck_egu (s : State) (arg : Nat) : (s.commandAck arg).1.egu = s.egu := by
  unfold State.commandAck
  split <;> rfl

end Sys2Proof.Machine
end

section
/-! The statement on energy (R141). Every Wh is in the open slot or booked: queued in a record, released or lost. Each operation of the energy
unit either moves Wh between the two or adds the Wh of a line sample to both sides, and every other operation leaves the balance alone. -/

namespace Sys2Proof.Machine

/-! ### Booked Wh and the balance (R141) -/

@[simp] theorem energySum_nil : energySum [] = 0 := rfl

@[simp] theorem energySum_cons (r : EnergyRecord) (l : List EnergyRecord) : energySum (r :: l) = r.energy + energySum l := by
  simp [energySum]

@[simp] theorem energySum_append (l l' : List EnergyRecord) : energySum (l ++ l') = energySum l + energySum l' := by
  simp [energySum]

/-- The Wh that have left the open slot: released, lost, or in a queued record. -/
def Egu.booked (u : Egu) : Nat := u.released + u.lost + energySum u.queue

/-- Every Wh of the total is booked or in the open slot. -/
def Egu.Balanced (u : Egu) : Prop := u.total = u.booked + u.slot.es

/-- R141 speaks of the energy unit alone, and says that it is balanced. -/
theorem energyLaw_iff_balanced (s : State) : energyLaw s ↔ s.egu.Balanced := Iff.rfl

/-- The balance reads no field but the totals, the queue and Es. -/
@[simp] theorem Egu.balanced_update (u : Egu) {o : OpenSlot} (h : o.es = u.slot.es) (clock : Option Clock) (high : Bool)
    (remainder taken bad steps records : Nat) :
    Egu.Balanced
      { clock := clock, slot := o, remainder := remainder, queue := u.queue, queueHigh := high, total := u.total,
        released := u.released, lost := u.lost, marksTaken := taken, badMarks := bad, timeSteps := steps, lostRecords := records }
      ↔ u.Balanced := by
  rw [Egu.Balanced, Egu.Balanced, h, Egu.booked, Egu.booked]

/-! ### The energy unit (R131, R137 to R139) -/

/-- The Wh of a line sample enter the total and the open slot, and what Es cannot hold is lost (R131, stages 2 and 3). -/
@[simp] theorem Egu.addSample_balanced (u : Egu) (vl il dt : Nat) (clamped : Bool) :
    (u.addSample vl il dt clamped).Balanced ↔ u.Balanced := by
  simp only [Egu.addSample, Egu.Balanced, Egu.booked]
  omega

/-- Released records stay booked (R139). -/
@[simp] theorem Egu.release_balanced (u : Egu) (n : Nat) : (u.release n).Balanced ↔ u.Balanced := by
  have hsplit : energySum (u.queue.take n) + energySum (u.queue.drop n) = energySum u.queue := by
    rw [← energySum_append, List.take_append_drop]
  simp only [Egu.release, Egu.Balanced, Egu.booked]
  omega

/-- An appended record is booked; a record that it displaces was queued and is lost (R138). -/
theorem Egu.appendRecord_booked (u : Egu) (r : EnergyRecord) : (u.appendRecord r).booked = u.booked + r.energy := by
  unfold Egu.appendRecord
  split
  · simp only [Egu.booked, energySum_append, energySum_cons, energySum_nil]
    omega
  · split
    · next hq => simp [Egu.booked, hq]
    · next old rest hq =>
      simp only [Egu.booked, hq, energySum_append, energySum_cons, energySum_nil]
      omega

/-- The total and the open slot stand. -/
theorem Egu.appendRecord_rest (u : Egu) (r : EnergyRecord) :
    (u.appendRecord r).total = u.total ∧ (u.appendRecord r).slot = u.slot := by
  unfold Egu.appendRecord
  split
  · exact ⟨rfl, rfl⟩
  · split <;> exact ⟨rfl, rfl⟩

/-- ENERGY-QUEUE-HIGH adds its flag to what a record does to the energy unit (R138). -/
theorem State.appendRecord_egu_eq (s : State) (r : EnergyRecord) :
    ∃ high, (s.appendRecord r).egu = { s.egu.appendRecord r with queueHigh := high } := by
  unfold State.appendRecord
  dsimp only
  split
  · exact ⟨true, by rw [State.raise_egu]⟩
  · exact ⟨_, rfl⟩

/-- A closed slot passes its energy to a record (R137). -/
theorem State.closeSlot_egu_eq (s : State) :
    ∃ high, s.closeSlot.egu = { s.egu.emptySlot.appendRecord s.egu.slot.price.record with queueHigh := high } := by
  unfold State.closeSlot
  dsimp only
  split
  · simpa using State.appendRecord_egu_eq (State.raise { s with egu := s.egu.emptySlot } _ _ _ _) s.egu.slot.price.record
  · exact State.appendRecord_egu_eq _ _

@[simp] theorem State.closeSlot_es (s : State) : s.closeSlot.egu.slot.es = 0 := by
  obtain ⟨high, h⟩ := s.closeSlot_egu_eq
  simp [h, (Egu.appendRecord_rest _ _).2, Egu.emptySlot]

@[simp] theorem State.closeSlot_balanced (s : State) : s.closeSlot.egu.Balanced ↔ s.egu.Balanced := by
  obtain ⟨high, h⟩ := s.closeSlot_egu_eq
  obtain ⟨htotal, hslot⟩ := s.egu.emptySlot.appendRecord_rest s.egu.slot.price.record
  have hbooked : s.egu.emptySlot.booked + s.egu.slot.price.record.energy = s.egu.booked + s.egu.slot.es := rfl
  rw [h, Egu.balanced_update _ rfl, Egu.Balanced, htotal, hslot, Egu.appendRecord_booked, hbooked]
  rfl

@[simp] theorem State.takeEnergy_balanced (s : State) (il vl dt : Nat) (clamped : Bool) :
    (s.takeEnergy il vl dt clamped).egu.Balanced ↔ s.egu.Balanced := by
  simp [State.takeEnergy]

@[simp] theorem State.addCurtailed_balanced (s : State) (dt : Nat) : (s.addCurtailed dt).egu.Balanced ↔ s.egu.Balanced := by
  unfold State.addCurtailed
  split <;> simp

/-! ### The line regulator (R136) -/

@[simp] theorem State.workCapBinding_balanced (s : State) (bound : Bool) (iw : Nat) :
    (s.workCapBinding bound iw).egu.Balanced ↔ s.egu.Balanced := by
  unfold State.workCapBinding
  split
  · split <;> simp
  · simp

@[simp] theorem State.compose_balanced (s : State) (dt : Nat) : (s.compose dt).egu.Balanced ↔ s.egu.Balanced := by
  simp [State.compose]

/-! ### Readings (R63) -/

@[simp] theorem State.addAeEnergy_balanced (s : State) (p : Fin 384) (vp : Nat) :
    (s.addAeEnergy p vp).egu.Balanced ↔ s.egu.Balanced := by
  unfold State.addAeEnergy
  dsimp only
  split <;> simp

@[simp] theorem State.confirmOnset_balanced (s : State) (p : Fin 384) (vp : Nat) :
    (s.confirmOnset p vp).egu.Balanced ↔ s.egu.Balanced := by
  simp [State.confirmOnset]

@[simp] theorem State.workSuspect_balanced (s : State) (p : Fin 384) (vp : Nat) :
    (s.workSuspect p vp).egu.Balanced ↔ s.egu.Balanced := by
  unfold State.workSuspect
  dsimp only
  split
  · simp
  · split <;> simp

@[simp] theorem State.relapse_balanced (s : State) (p : Fin 384) (vp : Nat) : (s.relapse p vp).egu.Balanced ↔ s.egu.Balanced := by
  simp [State.relapse]

@[simp] theorem State.workEffect_balanced (s : State) (p : Fin 384) (vp : Nat) :
    (s.workEffect p vp).egu.Balanced ↔ s.egu.Balanced := by
  unfold State.workEffect
  dsimp only
  split
  · simp
  · split_ifs <;> simp
  · split_ifs <;> simp
  · split_ifs <;> simp

@[simp] theorem State.workComputable_balanced (s : State) (p : Fin 384) (vp : Nat) (tap : Bool) :
    (s.workComputable p vp tap).egu.Balanced ↔ s.egu.Balanced := by
  simp [State.workComputable]

@[simp] theorem State.workReading_balanced (s : State) (p : Fin 384) (r : Reading) :
    (s.workReading p r).egu.Balanced ↔ s.egu.Balanced := by
  unfold State.workReading
  dsimp only
  split
  · split <;> simp
  · split <;> simp
  · split <;> simp
  · split
    · rfl
    · split <;> simp
  · rfl

@[simp] theorem State.takeReading_balanced (s : State) (p : Fin 384) (r : Reading) :
    (s.takeReading p r).egu.Balanced ↔ s.egu.Balanced := by
  unfold State.takeReading
  dsimp only
  split
  · rfl
  · split <;> simp

@[simp] theorem State.takeSlot_balanced (s : State) (w : SectionWindow) (src : Addr) (slot : Nat) (r : SlotReading) :
    (s.takeSlot w src slot r).egu.Balanced ↔ s.egu.Balanced := by
  unfold State.takeSlot
  dsimp only
  split
  · rfl
  · split
    · split <;> simp
    · split
      · split <;> simp
      · simp

/-- A fold of operations that keep the balance does. -/
theorem foldl_balanced {α : Type} {f : State → α → State} (hf : ∀ s a, (f s a).egu.Balanced ↔ s.egu.Balanced) (l : List α) :
    ∀ s : State, (l.foldl f s).egu.Balanced ↔ s.egu.Balanced := by
  induction l with
  | nil => exact fun _ => .rfl
  | cons a l ih => exact fun s => (ih _).trans (hf s a)

@[simp] theorem State.takePotSample_balanced (s : State) (src : Addr) (slots : Vector SlotReading 8) :
    (s.takePotSample src slots).egu.Balanced ↔ s.egu.Balanced := by
  have hslots : ∀ (w : SectionWindow) (t : State),
      ((List.finRange 8).foldl (fun s i => s.takeSlot w src i.val slots[i]) t).egu.Balanced ↔ t.egu.Balanced := fun w => foldl_balanced (fun s (i : Fin 8) => s.takeSlot_balanced w src i.val slots[i]) _
  unfold State.takePotSample
  split
  · split
    · rfl
    · rw [hslots]
      split <;> rfl
  · rfl

/-! ### The tariff unit (R148, R151) -/

@[simp] theorem State.startSlot_balanced (s : State) (n : Nat) : (s.startSlot n).egu.Balanced ↔ s.egu.Balanced := by
  simp [State.startSlot]

@[simp] theorem State.validAnswer_balanced (s : State) (k : Fin 2) (a : CalendarAnswer) :
    (s.validAnswer k a).egu.Balanced ↔ s.egu.Balanced := by
  unfold State.validAnswer
  dsimp only
  split <;> simp [OpenSlot.newEntry, OpenSlot.price]

@[simp] theorem State.takeCalendarEntry_balanced (s : State) (seq : Byte) (a : CalendarAnswer) :
    (s.takeCalendarEntry seq a).egu.Balanced ↔ s.egu.Balanced := by
  unfold State.takeCalendarEntry
  split
  · split
    · rfl
    · split <;> simp
  · rfl

/-! ### Slots, time marks and line samples (R126 to R130, R142, R67) -/

/-- A slot opens with Es at 0, so the balance stands where no slot is open (R129). -/
@[simp] theorem State.openSlot_balanced {s : State} (h : s.egu.slot.es = 0) (n : Nat) (timeStep part : Bool) :
    (s.openSlot n timeStep part).egu.Balanced ↔ s.egu.Balanced := by
  simp [State.openSlot, h]

@[simp] theorem State.endSlot_balanced (s : State) : s.endSlot.egu.Balanced ↔ s.egu.Balanced := by
  unfold State.endSlot
  split <;> simp

@[simp] theorem State.endDay_balanced (s : State) : s.endDay.egu.Balanced ↔ s.egu.Balanced := by
  simp [State.endDay]

@[simp] theorem State.firstMark_balanced (s : State) (c : Clock) : (s.firstMark c).egu.Balanced ↔ s.egu.Balanced := by
  simp [State.firstMark]

@[simp] theorem State.reportStep_balanced (s : State) (old new : Clock) :
    (s.reportStep old new).egu.Balanced ↔ s.egu.Balanced := by
  simp [State.reportStep]

@[simp] theorem State.laterMark_balanced (s : State) (old c : Clock) : (s.laterMark old c).egu.Balanced ↔ s.egu.Balanced := by
  have hreport : ∀ step : Bool, (if step then State.reportStep { s with egu.clock := some c } old c
      else { s with egu.clock := some c }).egu.Balanced ↔ s.egu.Balanced := fun step => by split <;> simp
  have hopen : ∀ (u : State) (step : Bool), (if u.egu.slot.number = some c.slot then u
      else u.closeSlot.openSlot c.slot step false).egu.Balanced ↔ u.egu.Balanced := fun u step => by split <;> simp
  simp only [State.laterMark, hopen, hreport]

@[simp] theorem State.takeMark_balanced (s : State) (day ms : Nat) : (s.takeMark day ms).egu.Balanced ↔ s.egu.Balanced := by
  unfold State.takeMark
  dsimp only
  split
  · split
    · split <;> simp
    · simp
  · rfl

@[simp] theorem State.restartSlot_balanced (s : State) : s.restartSlot.egu.Balanced ↔ s.egu.Balanced := by
  unfold State.restartSlot
  dsimp only
  split
  · simp
  · split <;> simp

@[simp] theorem State.composeStage_balanced (s : State) (dt : Nat) : (s.composeStage dt).egu.Balanced ↔ s.egu.Balanced := by
  unfold State.composeStage
  split <;> simp

@[simp] theorem State.sampleStages_balanced (s : State) (il vl : Nat) :
    (s.sampleStages il vl).egu.Balanced ↔ s.egu.Balanced := by
  simp [State.sampleStages]

@[simp] theorem State.takeLineSample_balanced (s : State) (il vl : Nat) :
    (s.takeLineSample il vl).egu.Balanced ↔ s.egu.Balanced := by
  unfold State.takeLineSample
  split
  · simp [State.workLineSample]
  · rfl

/-! ### Requests (R139, R167, R177) -/

@[simp] theorem State.restart_balanced (s : State) : s.restart.egu.Balanced ↔ s.egu.Balanced := by
  have hblocks : ∀ t : State, (State.restartSlot { t.restartGroups.restartCooling.restartLine with
      tru := t.restartGroups.restartCooling.restartLine.tru.restarted }).egu.Balanced ↔ t.egu.Balanced := fun t => by simp
  rw [State.restart, hblocks, State.restartPots_egu, State.beginRestart_egu]

@[simp] theorem State.command_balanced (s : State) (c : Command) (arg : Nat) :
    (s.command c arg).1.egu.Balanced ↔ s.egu.Balanced := by
  cases c with
  | start =>
    show s.commandStart.1.egu.Balanced ↔ _
    unfold State.commandStart
    split <;> simp
  | restart => exact s.restart_balanced
  | energyRelease => exact s.egu.release_balanced arg
  | _ => simp [State.command]

@[simp] theorem State.workRequest_balanced (s : State) (r : Request) : (s.workRequest r).1.egu.Balanced ↔ s.egu.Balanced := by
  unfold State.workRequest
  split
  · rfl
  · split
    · rfl
    · simp
  · split
    · rfl
    · simp
  · split
    · rfl
    · split <;> simp

/-! ### Frames and rows (R158, R159, R176) -/

/-- Whoever asks, an answer keeps the balance when the work on the request does (R167, R169). -/
theorem State.answerRequest_balanced {work : State → Worked} (hwork : ∀ t, (work t).1.egu.Balanced ↔ t.egu.Balanced) (s : State)
    (src : Addr) (seq : Byte) : (s.answerRequest src seq work).egu.Balanced ↔ s.egu.Balanced := by
  unfold State.answerRequest
  split
  · rfl
  · dsimp only
    rw [State.sendReply_egu]
    split
    · exact hwork _
    · rfl

/-- An arriving frame keeps the balance when the work on it does (R158, R159). -/
theorem State.arrive_balanced {work : State → State} (hwork : ∀ t, (work t).egu.Balanced ↔ t.egu.Balanced) (s : State) (f : Frame) :
    (s.arrive f work).egu.Balanced ↔ s.egu.Balanced := by
  have hpass : (s.passOn f).egu.Balanced ↔ s.egu.Balanced := by rw [State.passOn_egu]
  unfold State.arrive State.distribute
  split
  · rfl
  · split
    · rfl
    · dsimp only
      split
      · split <;> exact hpass
      · split
        · split
          · exact hpass
          · exact (hwork _).trans hpass
        · exact hpass

theorem State.onRing_balanced {work : State → State} (hwork : ∀ t, (work t).egu.Balanced ↔ t.egu.Balanced) (s : State)
    (bytes : List Byte) : (s.onRing bytes work).egu.Balanced ↔ s.egu.Balanced := by
  unfold State.onRing
  split
  · rfl
  · exact hwork s

theorem State.frameRow_balanced {work : State → State} (hwork : ∀ t, (work t).egu.Balanced ↔ t.egu.Balanced) (s : State)
    (f : Frame) : (s.frameRow f work).egu.Balanced ↔ s.egu.Balanced :=
  State.onRing_balanced (fun t => t.arrive_balanced hwork f) s _

theorem State.requestRow_balanced {work : State → Worked} (hwork : ∀ t, (work t).1.egu.Balanced ↔ t.egu.Balanced) (s : State)
    (h : Header) (payload : List Byte) : (s.requestRow h payload work).egu.Balanced ↔ s.egu.Balanced :=
  State.frameRow_balanced (fun t => t.answerRequest_balanced hwork h.src h.seq) s _

/-- A frame of any kind, handed to the blocks that take it. -/
theorem State.handOver_balanced (s : State) (f : Frame) : (s.handOver f).egu.Balanced ↔ s.egu.Balanced := by
  unfold State.handOver
  split
  · rfl
  · next k _ =>
    cases k with
    | request => exact s.answerRequest_balanced (fun t => t.workRequest_balanced _) f.src f.seq
    | _ => simp [State.deliver]

theorem State.receiveBytes_balanced (s : State) (bytes : List Byte) : (s.receiveBytes bytes).egu.Balanced ↔ s.egu.Balanced := by
  unfold State.receiveBytes
  split
  · rfl
  · rfl
  · exact s.arrive_balanced (fun t => t.handOver_balanced _) _

end Sys2Proof.Machine
end

section
/-! The statement on energy, continued: every command and every step keeps the balance. -/

namespace Sys2Proof.Machine

/-- An expiry, due or not, keeps the balance when its effect does. -/
theorem State.expire_balanced {s : State} (hs : s.egu.Balanced) {due : Bool} {effect : State}
    (heffect : effect.egu.Balanced ↔ s.egu.Balanced) : ∃ t, s.expire due effect = .next t ∧ t.egu.Balanced := by
  refine ⟨_, rfl, ?_⟩
  split
  · exact heffect.mpr hs
  · exact hs

/-- An expiry of another block. -/
theorem State.expire_balanced_of_egu {s : State} (hs : s.egu.Balanced) {due : Bool} {effect : State} (heffect : effect.egu = s.egu) :
    ∃ t, s.expire due effect = .next t ∧ t.egu.Balanced := State.expire_balanced hs (by rw [heffect])

/-- Every command keeps the balance. -/
theorem exec_balanced {s : State} (hs : s.egu.Balanced) (i : Instr) : ∃ t, exec i s = .next t ∧ t.egu.Balanced := by
  have hframe : ∀ {f : Frame} {work : State → State}, (∀ t, (work t).egu.Balanced ↔ t.egu.Balanced) →
      (s.frameRow f work).egu.Balanced := fun hwork => (State.frameRow_balanced hwork s _).mpr hs
  have hcommand : ∀ {h : Header} {payload : List Byte} (c : Command) (arg : Nat),
      (s.requestRow h payload fun t => t.command c arg).egu.Balanced := fun c arg =>
    (State.requestRow_balanced (fun t => t.command_balanced c arg) s _ _).mpr hs
  have hwrite : ∀ {h : Header} {payload : List Byte} (o : Object) (index field : Nat) (values : List Byte),
      (s.requestRow h payload fun t => t.writeObject o index field values).egu.Balanced := fun o index field values =>
    (State.requestRow_balanced (fun t => by rw [State.writeObject_egu]) s _ _).mpr hs
  cases i with
  | resetLow => exact ⟨_, rfl, hs⟩
  | resetRelease straps =>
    refine ⟨_, rfl, ?_⟩
    split
    · exact (rfl : (State.powerOn straps).egu.Balanced)
    · exact hs
  | frameRejected bytes => exact ⟨_, rfl, (State.onRing_balanced (fun t => t.receiveBytes_balanced bytes) s bytes).mpr hs⟩
  | framePassing f | unknownKind f => exact ⟨_, rfl, hframe fun t => t.handOver_balanced f⟩
  | potSample hd _ slots => exact ⟨_, rfl, hframe fun t => t.takePotSample_balanced hd.src slots⟩
  | lineSample => exact ⟨_, rfl, hframe fun t => t.takeLineSample_balanced _ _⟩
  | timeMark => exact ⟨_, rfl, hframe fun t => t.takeMark_balanced _ _⟩
  | groupStatusFull | groupStatusShort => exact ⟨_, rfl, hframe fun t => by rw [State.takeStatus_egu]⟩
  | groupAnswer => exact ⟨_, rfl, hframe fun t => by rw [State.takeGroupAnswer_egu]⟩
  | groupProbe | watch | unwatch | takeLocal | returnRemote => exact ⟨_, rfl, hframe fun t => by rw [State.takeProbe_egu]⟩
  | potAnswer => exact ⟨_, rfl, hframe fun t => by rw [State.takePotAnswer_egu]⟩
  | coolerStatus => exact ⟨_, rfl, hframe fun t => by rw [State.takeCoolerStatus_egu]⟩
  | calendarEntry => exact ⟨_, rfl, hframe fun t => t.takeCalendarEntry_balanced _ _⟩
  | ringOutSend =>
    refine ⟨_, rfl, ?_⟩
    split
    · exact hs
    · rwa [State.sendNext_egu]
  | deferralTimerExpiry => exact State.expire_balanced_of_egu hs s.deferralExpires_egu
  | potLost p => exact State.expire_balanced_of_egu hs (s.losePot_egu p)
  | inhibitEnd | qualificationEnd | adviceExpiry => exact State.expire_balanced_of_egu hs rfl
  | quenchDue p => exact State.expire_balanced_of_egu hs (s.decideQuench_egu p)
  | quenchTimeout p => exact State.expire_balanced_of_egu hs (s.quenchExpires_egu p)
  | clearEnd p => exact State.expire_balanced_of_egu hs (s.effectEnds_egu p)
  | lineTrip => exact State.expire_balanced_of_egu hs (by simp)
  | stepEnd => exact State.expire_balanced_of_egu hs s.runOut_egu
  | stepTimer g => exact State.expire_balanced_of_egu hs (by simp)
  | groupOrderTimeout g => exact State.expire_balanced_of_egu hs (s.orderTimeout_egu g)
  | groupHolding g => exact State.expire_balanced_of_egu hs (s.holdGroup_egu g)
  | groupSilent g => exact State.expire_balanced_of_egu hs (s.silenceGroup_egu g)
  | stageUp | stageDown => exact State.expire_balanced_of_egu hs (s.changeStage_egu _)
  | coolerNoResponse => exact State.expire_balanced_of_egu hs s.coolerFails_egu
  | slotEnd => exact State.expire_balanced hs s.endSlot_balanced
  | prefetch => exact State.expire_balanced_of_egu hs s.makePrefetch_egu
  | fetchTimeout k => exact State.expire_balanced_of_egu hs (s.fetchExpires_egu k)
  | takeover => exact State.expire_balanced_of_egu hs s.takeOver_egu
  | stationDayEnd => exact State.expire_balanced hs s.endDay_balanced
  | start => exact ⟨_, rfl, hcommand .start 0⟩
  | restart => exact ⟨_, rfl, hcommand .restart 0⟩
  | stop => exact ⟨_, rfl, hcommand .stop 0⟩
  | claim _ arg => exact ⟨_, rfl, hcommand .claim arg.toNat⟩
  | release _ arg => exact ⟨_, rfl, hcommand .release arg.toNat⟩
  | setFull _ arg => exact ⟨_, rfl, hcommand .setFull arg.toNat⟩
  | profilePlay _ arg => exact ⟨_, rfl, hcommand .profilePlay arg.toNat⟩
  | profileHold => exact ⟨_, rfl, hcommand .profileHold 0⟩
  | profileResume => exact ⟨_, rfl, hcommand .profileResume 0⟩
  | profileStop => exact ⟨_, rfl, hcommand .profileStop 0⟩
  | lineRestart => exact ⟨_, rfl, hcommand .lineRestart 0⟩
  | cacheInvalidate => exact ⟨_, rfl, hcommand .cacheInvalidate 0⟩
  | energyRelease _ arg => exact ⟨_, rfl, hcommand .energyRelease arg.toNat⟩
  | clearError => exact ⟨_, rfl, hcommand .clearError 0⟩
  | ackEvents _ arg => exact ⟨_, rfl, hcommand .ackEvents arg.toNat⟩
  | mgmtWrite => exact ⟨_, rfl, (State.requestRow_balanced (fun t => t.workRequest_balanced _) s _ _).mpr hs⟩
  | potWrite | potEnable | potDisable | automaticQuenchWrite => exact ⟨_, rfl, hwrite .pot _ _ _⟩
  | hlWrite | aeHoldLimitWrite => exact ⟨_, rfl, hwrite .line 0 _ _⟩
  | groupPresentWrite | nodeAddressWrite | stepLatchWrite | stepClockWrite => exact ⟨_, rfl, hwrite .group _ _ _⟩
  | stageWrite => exact ⟨_, rfl, hwrite .stage _ _ _⟩
  | eventsWrite => exact ⟨_, rfl, hwrite .events _ 0 _⟩
  | mgmtAddressWrite => exact ⟨_, rfl, hwrite .mgmtAddress _ 0 _⟩

/-- Every step keeps the balance: the command at the front of the queue, an expiry that is due, or 1 ms of part time. -/
theorem step_balanced {s : State} (hs : s.egu.Balanced) : ∃ t, step s = .next t ∧ t.egu.Balanced := by
  unfold Machine.step
  split
  · unfold State.idle
    split
    · exact ⟨s, rfl, hs⟩
    · split
      · next i _ => exact exec_balanced hs i
      · exact ⟨s.tick, rfl, hs⟩
  · next i rest _ => exact exec_balanced (s := { s with pending := rest }) hs i

/-- Settles O7: R141 says that the energy unit is balanced, and every step keeps the balance (`step_balanced`). -/
theorem energyIsConserved : Obligations.EnergyIsConserved := by
  intro s t hs hstep
  obtain ⟨t', hnext, ht'⟩ := step_balanced ((energyLaw_iff_balanced s).mp hs)
  rw [hnext] at hstep
  cases hstep
  exact (energyLaw_iff_balanced t).mpr ht'

end Sys2Proof.Machine
end

section
/-! The statement on the tests of arriving bytes: each outcome of the tests of form as an equation of `parseFrame`, then what the part does
with bytes of each outcome. -/

namespace Sys2Proof.Machine

/-! ### The tests of form -/

/-- LEN, as the bytes have it (R157). -/
def lenOf (bs : List Byte) : Nat := (byteAt bs 6).toNat

/-- The bytes fail the test of length (R158, test 1). -/
def Malformed (bs : List Byte) : Prop := bs.length < 9 ∨ 69 < bs.length ∨ 60 < lenOf bs ∨ bs.length ≠ lenOf bs + 9

/-- CHECK, as the bytes have it, is the one of the bytes before it (R158, test 2). -/
def CheckHolds (bs : List Byte) : Prop := halfAt bs (lenOf bs + 7) = crc16 (bs.take (lenOf bs + 7))

/-- The frame that the bytes spell (R157). -/
def spelledFrame (bs : List Byte) : Frame :=
  { dest := halfAt bs 0, src := halfAt bs 2, kind := byteAt bs 4, seq := byteAt bs 5, payload := (bs.drop 7).take (lenOf bs) }

/-- `parseFrame`'s first condition is test 1. -/
theorem malformed_iff (bs : List Byte) :
    Malformed bs ↔ (bs.length < 9 || bs.length > 69 || lenOf bs > Config.payloadMax || bs.length != lenOf bs + 9) = true := by
  simp [Malformed, Config.payloadMax, or_assoc]

theorem parseFrame_of_malformed {bs : List Byte} (h : Malformed bs) : parseFrame bs = .error .malformed :=
  if_pos ((malformed_iff bs).mp h)

/-- Past test 1, CHECK alone decides. -/
theorem parseFrame_of_not_malformed {bs : List Byte} (h : ¬Malformed bs) :
    parseFrame bs = if halfAt bs (lenOf bs + 7) = crc16 (bs.take (lenOf bs + 7)) then .ok (spelledFrame bs) else .error .badCheck :=
  if_neg (mt (malformed_iff bs).mpr h)

theorem parseFrame_of_bad_check {bs : List Byte} (h : ¬Malformed bs) (hc : ¬CheckHolds bs) : parseFrame bs = .error .badCheck :=
  (parseFrame_of_not_malformed h).trans (if_neg hc)

theorem parseFrame_of_good {bs : List Byte} (h : ¬Malformed bs) (hc : CheckHolds bs) : parseFrame bs = .ok (spelledFrame bs) :=
  (parseFrame_of_not_malformed h).trans (if_pos hc)

/-- Bytes of a good form spell a frame whose payload is within the limit, so that the frame passes test 1 when it arrives. -/
theorem spelledFrame_payload_le {bs : List Byte} (h : ¬Malformed bs) : (spelledFrame bs).payload.length ≤ Config.payloadMax := by
  have hlen : lenOf bs ≤ 60 := not_lt.mp fun hlong => h (.inr (.inr (.inl hlong)))
  calc (spelledFrame bs).payload.length ≤ lenOf bs := List.length_take_le _ _
    _ ≤ 60 := hlen

/-! ### What the part does with the bytes -/

theorem State.receiveBytes_of_malformed {bs : List Byte} (s : State) (h : Malformed bs) : s.receiveBytes bs = s.countMalformed := by
  simp [State.receiveBytes, parseFrame_of_malformed h]

theorem State.receiveBytes_of_bad_check {bs : List Byte} (s : State) (h : ¬Malformed bs) (hc : ¬CheckHolds bs) :
    s.receiveBytes bs = s.countBadCheck := by
  simp [State.receiveBytes, parseFrame_of_bad_check h hc]

theorem State.receiveBytes_of_good {bs : List Byte} (s : State) (h : ¬Malformed bs) (hc : CheckHolds bs) :
    s.receiveBytes bs = s.receive (spelledFrame bs) := by
  simp [State.receiveBytes, parseFrame_of_good h hc]

/-- R158, test 3: a frame of good form with the part's own address as SRC is stripped. -/
theorem State.receive_of_own_src {s : State} {f : Frame} (hlen : f.payload.length ≤ Config.payloadMax) (hsrc : f.src = s.address) :
    s.receive f = s.countStripped := by
  simp [State.receive, State.arrive, Nat.not_lt.mpr hlen, hsrc]

/-- With the reset line high, what is on ring-in is worked (R176). -/
theorem State.onRing_of_high {s : State} (hs : s.resetLow = false) (bytes : List Byte) (work : State → State) :
    s.onRing bytes work = work s := by
  simp [State.onRing, hs]

theorem exec_frameRejected_of_high {s : State} (hs : s.resetLow = false) (bytes : List Byte) :
    exec (.frameRejected bytes) s = .next (s.receiveBytes bytes) :=
  congrArg Host.Outcome.next (State.onRing_of_high hs bytes _)

theorem exec_framePassing_of_high {s : State} (hs : s.resetLow = false) (f : Frame) :
    exec (.framePassing f) s = .next (s.receive f) :=
  congrArg Host.Outcome.next (State.onRing_of_high hs (frameBytes f) _)

/-- Settles O18: one clause for each outcome of the tests of R158, in their order. -/
theorem arrivingBytesAreTestedInOrder : Obligations.ArrivingBytesAreTestedInOrder := by
  intro bytes s hs len malformed check src
  rw [exec_frameRejected_of_high hs]
  refine ⟨fun (hm : Malformed bytes) => ?malformed, fun (hm : ¬Malformed bytes) (hc : ¬CheckHolds bytes) => ?badCheck,
    fun (hm : ¬Malformed bytes) (hc : CheckHolds bytes) (hsrc : (spelledFrame bytes).src = s.address) => ?ownSrc,
    fun (hm : ¬Malformed bytes) (hc : CheckHolds bytes) _ => ?received⟩
  case malformed => rw [s.receiveBytes_of_malformed hm, State.countMalformed]
  case badCheck => rw [s.receiveBytes_of_bad_check hm hc, State.countBadCheck]
  case ownSrc =>
    rw [s.receiveBytes_of_good hm hc, State.receive_of_own_src (spelledFrame_payload_le hm) hsrc, State.countStripped]
  case received =>
    rw [s.receiveBytes_of_good hm hc]
    exact (exec_framePassing_of_high hs (spelledFrame bytes)).symm

end Sys2Proof.Machine
end

section
/-! SUPPORT. What R173 and R170 read of a state, and that the shared operations, the line regulator, the group authority unit and the
cooling unit keep it, each said once, in the order of the model. Two operations touch it: a raised event, which works the ALARM line as it
changes the event summary, and an offered error, which a set log counts and does not hold. Where an operation writes only what
`SignalsKept` does not read, the hypothesis is the goal. -/

namespace Sys2Proof.Machine

/-! ### The ALARM line and the error log -/

/-- The ALARM line is driven exactly while an URGENT or MAJOR kind is both pending and enabled (R173). -/
def Meu.AlarmFollows (m : Meu) : Prop := m.alarm = alarmHeld m.events

/-- What the error log holds of the error that set it: its code, detail, day and ms (R170). -/
def ErrorLog.held (l : ErrorLog) : Option ErrorKind × ErrorDetail × Nat × Nat := (l.code, l.detail, l.day, l.ms)

/-- From `s` to `t` the reset line stands, an ALARM line that follows the kinds goes on doing so, and a set error log stays set and holds
its error. -/
def SignalsKept (s t : State) : Prop :=
  t.resetLow = s.resetLow ∧ (s.meu.AlarmFollows → t.meu.AlarmFollows)
    ∧ (s.meu.errors.err = true → t.meu.errors.err = true ∧ t.meu.errors.held = s.meu.errors.held)

theorem SignalsKept.refl (s : State) : SignalsKept s s := ⟨rfl, id, fun h => ⟨h, rfl⟩⟩

/-- Where the ALARM line is worked, it follows the kinds, whatever has become of them (R173). -/
theorem signalsKept_evaluateAlarm (s : State) (events : Vector EventSummary 26) :
    SignalsKept s { s with meu := Meu.evaluateAlarm { s.meu with events := events } } := ⟨rfl, fun _ => rfl, fun h => ⟨h, rfl⟩⟩

/-- A set log stays set and holds its error when another is offered (R170). -/
theorem ErrorLog.offer_of_set {l : ErrorLog} (h : l.err = true) (k : ErrorKind) (d : ErrorDetail) (day ms : Nat) :
    (l.offer k d day ms).err = true ∧ (l.offer k d day ms).held = l.held := by
  rw [ErrorLog.offer, if_pos h]
  cases k <;> exact ⟨h, rfl⟩

section
variable {s t : State}

/-! ### Folds, admission and the decision of orders -/

/-- A fold of operations that keep the signals does. -/
theorem SignalsKept.foldl {α : Type} {f : State → α → State} (hf : ∀ t a, SignalsKept s t → SignalsKept s (f t a)) (l : List α) :
    ∀ {t : State}, SignalsKept s t → SignalsKept s (l.foldl f t) := by
  induction l with
  | nil => exact id
  | cons a l ih => exact fun h => ih (hf _ a h)

/-- A change of nothing that the signals read keeps them. -/
theorem SignalsKept.update {u : State} (h : SignalsKept s t) (hreset : u.resetLow = t.resetLow := by dsimp only)
    (halarm : u.meu.alarm = t.meu.alarm := by dsimp only) (hevents : u.meu.events = t.meu.events := by dsimp only)
    (herrors : u.meu.errors = t.meu.errors := by dsimp only) : SignalsKept s u := by
  unfold SignalsKept Meu.AlarmFollows
  rw [hreset, halarm, hevents, herrors]
  exact h

theorem SignalsKept.modPot {p : Fin 384} {f : Pot → Pot} (h : SignalsKept s t) : SignalsKept s (t.modPot p f) := h

theorem SignalsKept.modGroup {g : Fin 8} {f : Group → Group} (h : SignalsKept s t) : SignalsKept s (t.modGroup g f) := h

theorem SignalsKept.dropPotOrder {p : Fin 384} (h : SignalsKept s t) : SignalsKept s (t.dropPotOrder p) := h

/-- The decision of orders, and the admission of frames with it, changes nothing that the signals read. -/
theorem SignalsKept.ordered {u : State} (h : SignalsKept s t) (ho : Ordered t u) : SignalsKept s u := by
  unfold Ordered at ho
  rw [ho]
  exact h

theorem SignalsKept.settle (h : SignalsKept s t) : SignalsKept s t.settle := h.ordered t.settle_admitted.ordered

theorem SignalsKept.allocate (h : SignalsKept s t) : SignalsKept s t.allocate := h.ordered (ordered_allocate t)

theorem SignalsKept.notify {g : Fin 8} (h : SignalsKept s t) : SignalsKept s (t.notify g) := h.ordered (ordered_notify t g)

theorem SignalsKept.regulate (h : SignalsKept s t) : SignalsKept s t.regulate := h.ordered (ordered_regulate t)

/-! ### Events, errors and send lists -/

/-- A raised event works the ALARM line (R171, R173). -/
theorem SignalsKept.raise {k : EventKind} {j a b : Nat} (h : SignalsKept s t) : SignalsKept s (t.raise k j a b) := by
  obtain ⟨hreset, -, herrors⟩ := h
  have hlog : (t.raise k j a b).meu.errors = t.meu.errors := by simp [State.raise, Meu.takeEvent, Meu.evaluateAlarm]
  exact ⟨(t.raise_resetLow k j a b).trans hreset, fun _ => t.raise_alarm k j a b, hlog ▸ herrors⟩

theorem SignalsKept.offerError {k : ErrorKind} {d : ErrorDetail} (h : SignalsKept s t) : SignalsKept s (t.offerError k d) := by
  obtain ⟨hreset, halarm, herrors⟩ := h
  refine ⟨hreset, halarm, fun hs => ?_⟩
  obtain ⟨hset, hheld⟩ := herrors hs
  obtain ⟨hset', hheld'⟩ := ErrorLog.offer_of_set hset k d t.stamp.1 t.stamp.2
  exact ⟨hset', hheld'.trans hheld⟩

theorem SignalsKept.sendPotOrder {p : Fin 384} {f : Frame} (h : SignalsKept s t) : SignalsKept s (t.sendPotOrder p f) := by
  unfold State.sendPotOrder
  dsimp only
  split
  · exact .settle h
  · exact h

theorem SignalsKept.sendAnswer {f : Frame} (h : SignalsKept s t) : SignalsKept s (t.sendAnswer f) := by
  unfold State.sendAnswer
  dsimp only
  split
  · exact .settle h
  · exact h

theorem SignalsKept.sendAsk {f : Frame} (h : SignalsKept s t) : SignalsKept s (t.sendAsk f) := .settle h

theorem SignalsKept.sendCoolerOrder {f : Frame} (h : SignalsKept s t) : SignalsKept s (t.sendCoolerOrder f) := .settle h

/-! ### The line regulator -/

theorem SignalsKept.reallocate {before : State} (h : SignalsKept s t) : SignalsKept s (t.reallocate before) := by
  unfold State.reallocate
  split
  · exact h
  · exact .allocate h

theorem SignalsKept.workBelowFloor (h : SignalsKept s t) : SignalsKept s t.workBelowFloor := by
  unfold State.workBelowFloor
  split_ifs
  · exact h
  · exact .raise h
  · exact h

theorem SignalsKept.takeCapacity (h : SignalsKept s t) : SignalsKept s t.takeCapacity := by
  unfold State.takeCapacity
  split
  · exact h
  · exact .workBelowFloor h

theorem SignalsKept.workHeatRecovery (h : SignalsKept s t) : SignalsKept s t.workHeatRecovery := by
  unfold State.workHeatRecovery
  dsimp only
  split_ifs
  · exact .raise h
  · exact h
  · exact h

theorem SignalsKept.workCapBinding {bound : Bool} {iw : Nat} (h : SignalsKept s t) : SignalsKept s (t.workCapBinding bound iw) := by
  unfold State.workCapBinding
  split_ifs
  · exact h
  · exact .raise h
  · exact h

theorem SignalsKept.workTrim (h : SignalsKept s t) : SignalsKept s t.workTrim := h

theorem SignalsKept.compose {dt : Nat} (h : SignalsKept s t) : SignalsKept s (t.compose dt) :=
  .workBelowFloor (SignalsKept.workCapBinding h)

theorem SignalsKept.enterStep {n : Fin 8} {k : Fin 256} (h : SignalsKept s t) : SignalsKept s (t.enterStep n k) := by
  unfold State.enterStep
  dsimp only
  split
  · exact h
  · exact .raise h

theorem SignalsKept.startProfile {n : Fin 8} (h : SignalsKept s t) : SignalsKept s (t.startProfile n) := .enterStep h

theorem SignalsKept.runOut (h : SignalsKept s t) : SignalsKept s t.runOut := by
  unfold State.runOut
  dsimp only
  split
  · exact h
  · split
    · exact .enterStep h
    · exact .raise h

theorem SignalsKept.trigger {cls : Nat} (h : SignalsKept s t) : SignalsKept s (t.trigger cls) := by
  unfold State.trigger
  split
  · split
    · exact h
    · exact .startProfile h
  · exact h

theorem SignalsKept.trip (h : SignalsKept s t) : SignalsKept s t.trip := by
  unfold State.trip
  exact .raise (SignalsKept.allocate h)

/-! ### The group authority unit -/

theorem SignalsKept.releaseCore (g : Fin 8) (h : SignalsKept s t) : SignalsKept s (t.releaseCore g) := by
  unfold State.releaseCore
  split
  · exact SignalsKept.notify h
  · exact h

theorem SignalsKept.releaseGroup {g : Fin 8} (h : SignalsKept s t) : SignalsKept s (t.releaseGroup g) := by
  unfold State.releaseGroup
  split
  · exact .allocate (.releaseCore g h)
  · exact h

theorem SignalsKept.releaseAll (h : SignalsKept s t) : SignalsKept s t.releaseAll := .foldl (fun _ g h => .releaseCore g h) _ h

theorem SignalsKept.claimGroup {g : Fin 8} (h : SignalsKept s t) : SignalsKept s (t.claimGroup g) := SignalsKept.allocate h

theorem SignalsKept.autoclaim (g : Fin 8) (h : SignalsKept s t) : SignalsKept s (t.autoclaim g) := by
  unfold State.autoclaim
  dsimp only
  split
  · exact .claimGroup h
  · exact h

theorem SignalsKept.orderTaken {g : Fin 8} {o : GroupOrder} (h : SignalsKept s t) : SignalsKept s (t.orderTaken g o) := .notify h

theorem SignalsKept.orderRefused {g : Fin 8} {o : GroupOrder} (h : SignalsKept s t) : SignalsKept s (t.orderRefused g o) := by
  unfold State.orderRefused
  dsimp only
  split
  · exact .raise (.releaseGroup h)
  · exact h

theorem SignalsKept.takeGroupAnswer {src : Addr} {seq result : Byte} {setpoint : Nat} (h : SignalsKept s t) :
    SignalsKept s (t.takeGroupAnswer src seq result setpoint) := by
  have hmismatch : ∀ (o : GroupOrder) (g : Fin 8) (f : Group → Group),
      SignalsKept s (if setpoint = o.setpoint then t else t.modGroup g f) := fun o g f => by split <;> exact h
  unfold State.takeGroupAnswer
  split
  · exact h
  · next g _ =>
    dsimp only
    split
    · exact h
    · split
      · exact h
      · split
        · exact .regulate (.reallocate (.orderTaken (hmismatch _ g _)))
        · split
          · exact .regulate (.reallocate (.orderRefused (hmismatch _ g _)))
          · exact hmismatch _ g _

theorem SignalsKept.orderTimeout {g : Fin 8} (h : SignalsKept s t) : SignalsKept s (t.orderTimeout g) := .regulate h

theorem SignalsKept.probeNext {g : Fin 8} {next : Byte} {src : Addr} {w : State × ProbeResult} (h : SignalsKept s t)
    (hw : t.probeNext g next src = some w) : SignalsKept s w.1 := by
  have hwatch : SignalsKept s (t.probeWatch g src).1 := by
    unfold State.probeWatch
    dsimp only
    split
    · exact h
    · split <;> exact h
  have hunwatch : SignalsKept s (t.probeUnwatch g src).1 := by
    unfold State.probeUnwatch
    split <;> exact h
  have hremote : SignalsKept s (t.probeReturnRemote g).1 := by
    unfold State.probeReturnRemote
    split
    · exact .autoclaim g h
    · exact h
  unfold State.probeNext at hw
  split_ifs at hw <;> cases hw
  · exact h
  · exact hwatch
  · exact hunwatch
  · exact .releaseGroup h
  · exact hremote

theorem SignalsKept.takeProbe {src : Addr} {seq group data next : Byte} (h : SignalsKept s t) :
    SignalsKept s (t.takeProbe src seq group data next) := by
  unfold State.takeProbe
  dsimp only
  split
  · exact h
  · split
    · split
      · split
        · next hnext => exact .regulate (.sendAnswer (h.probeNext hnext))
        · exact .sendAnswer h
      · exact .sendAnswer h
    · exact .sendAnswer h

theorem SignalsKept.workStatusMode {g : Fin 8} {m : StatusMode} (h : SignalsKept s t) : SignalsKept s (t.workStatusMode g m) := by
  unfold State.workStatusMode
  dsimp only
  split
  · exact SignalsKept.raise (.releaseGroup h)
  · exact h

theorem SignalsKept.startWithdrawal {g : Fin 8} (h : SignalsKept s t) : SignalsKept s (t.startWithdrawal g) := by
  unfold State.startWithdrawal
  dsimp only
  split
  · exact .raise h
  · exact h

/-! ### The cooling unit -/

theorem SignalsKept.evaluateCap (g : Fin 8) (h : SignalsKept s t) : SignalsKept s (t.evaluateCap g) := by
  unfold State.evaluateCap
  split <;> exact h

theorem SignalsKept.evaluateAll (h : SignalsKept s t) : SignalsKept s t.evaluateAll := .foldl (fun _ g h => .evaluateCap g h) _ h

theorem SignalsKept.evaluateStage (h : SignalsKept s t) : SignalsKept s t.evaluateStage := h

theorem SignalsKept.handOn {before : State} (h : SignalsKept s t) : SignalsKept s (t.handOn before) := by
  have hcapacity : SignalsKept s (t.handCapacity before) := by
    unfold State.handCapacity
    dsimp only
    split
    · exact .reallocate h
    · exact .reallocate (.takeCapacity h)
  exact .evaluateStage hcapacity

theorem SignalsKept.curveComputation {g : Fin 8} (h : SignalsKept s t) : SignalsKept s (t.curveComputation g) := by
  have hcap : SignalsKept s ((t.modGroup g Group.computeCurve).evaluateCap g) := .evaluateCap g h
  unfold State.curveComputation
  dsimp only
  split_ifs
  · exact .handOn (.startWithdrawal hcap)
  · exact .handOn hcap
  · exact .handOn hcap

theorem SignalsKept.basicComputation {g : Fin 8} (h : SignalsKept s t) : SignalsKept s (t.basicComputation g) := by
  unfold State.basicComputation
  exact .handOn (.evaluateCap g h)

theorem SignalsKept.workShortfall (h : SignalsKept s t) : SignalsKept s t.workShortfall := by
  unfold State.workShortfall
  split_ifs
  · exact h
  · exact .raise h
  · exact h

theorem SignalsKept.workPercentage (h : SignalsKept s t) : SignalsKept s t.workPercentage := by
  unfold State.workPercentage
  dsimp only
  split
  · exact .workShortfall h
  · exact .workShortfall (.handOn (.evaluateAll h))

theorem SignalsKept.orderStage (h : SignalsKept s t) : SignalsKept s t.orderStage := .sendCoolerOrder h

theorem SignalsKept.changeStage {wanted : Nat} (h : SignalsKept s t) : SignalsKept s (t.changeStage wanted) := by
  unfold State.changeStage
  exact .regulate (.evaluateStage (.workPercentage (.orderStage h)))

theorem SignalsKept.takeCoolerStatus {src : Addr} {running available : Byte} (h : SignalsKept s t) :
    SignalsKept s (t.takeCoolerStatus src running available) := by
  unfold State.takeCoolerStatus
  dsimp only
  split_ifs
  · exact h
  · exact h
  · exact .regulate (.workPercentage h)
  · exact h

theorem SignalsKept.coolerFails (h : SignalsKept s t) : SignalsKept s t.coolerFails := by
  unfold State.coolerFails
  exact .regulate (.workPercentage (.raise h))

theorem SignalsKept.confirmPending {g : Fin 8} (h : SignalsKept s t) : SignalsKept s (t.confirmPending g) := by
  unfold State.confirmPending
  split
  · exact h
  · exact .notify h

theorem SignalsKept.recordStatus {g : Fin 8} {current tap : Nat} {full : Option FullStatus} (h : SignalsKept s t) :
    SignalsKept s (t.recordStatus g current tap full) := by
  have hshort : ∀ {u : State}, SignalsKept s u → SignalsKept s (u.recordShort g current tap) := fun hu => by
    unfold State.recordShort
    dsimp only
    split
    · exact .basicComputation hu
    · exact .confirmPending (.basicComputation (.raise hu))
  unfold State.recordStatus
  dsimp only
  split
  · exact h
  · split
    · exact h
    · exact hshort h

theorem SignalsKept.coolStatus {g : Fin 8} {wasFresh : Bool} {full : Option FullStatus} (h : SignalsKept s t) :
    SignalsKept s (t.coolStatus g wasFresh full) := by
  unfold State.coolStatus
  split
  · exact .curveComputation h
  · exact .basicComputation h
  · split
    · exact .handOn (.evaluateCap g h)
    · exact h

theorem SignalsKept.workStatus {g : Fin 8} {m : StatusMode} {current tap : Nat} {full : Option FullStatus} (h : SignalsKept s t) :
    SignalsKept s (t.workStatus g m current tap full) := by
  unfold State.workStatus
  dsimp only
  split
  · exact .regulate (.reallocate (.autoclaim g (.coolStatus (SignalsKept.workStatusMode (.recordStatus h)))))
  · exact .regulate (.reallocate (.coolStatus (SignalsKept.workStatusMode (.recordStatus h))))

theorem SignalsKept.takeStatus {src : Addr} {mode : Byte} {current : Half} {tap : Byte} {full : Option FullStatus}
    (h : SignalsKept s t) : SignalsKept s (t.takeStatus src mode current tap full) := by
  unfold State.takeStatus
  split
  · split
    · exact h
    · split
      · split
        · exact .workStatus h
        · exact h
      · exact h
  · exact h

theorem SignalsKept.holdGroup {g : Fin 8} (h : SignalsKept s t) : SignalsKept s (t.holdGroup g) := by
  unfold State.holdGroup
  exact .regulate (.reallocate (.handOn (.evaluateCap g h)))

theorem SignalsKept.silenceGroup {g : Fin 8} (h : SignalsKept s t) : SignalsKept s (t.silenceGroup g) := by
  have hcap : SignalsKept s (((t.modGroup g fun q => { q with stale := .silent }).evaluateCap g).handOn t) :=
    .handOn (.evaluateCap g h)
  unfold State.silenceGroup
  dsimp only
  split
  · exact .regulate (.reallocate (.raise (.releaseGroup hcap)))
  · exact .regulate (.reallocate hcap)

theorem SignalsKept.setFull {g : Fin 8} (h : SignalsKept s t) : SignalsKept s (t.setFull g) := by
  unfold State.setFull
  exact .regulate (.reallocate (.curveComputation h))

theorem SignalsKept.changePresence {g : Fin 8} {present : Bool} (h : SignalsKept s t) : SignalsKept s (t.changePresence g present) := by
  unfold State.changePresence
  exact .regulate (.reallocate (.handOn (.evaluateCap g h)))

end
end Sys2Proof.Machine
end

section
/-! SUPPORT. What keeps the signals, continued: the anode effect unit, the pot supervision unit, the energy unit and the tariff unit, then
restart, STOP, takeover and the ring port. -/

namespace Sys2Proof.Machine

section
variable {s t : State}

/-! ### The anode effect unit -/

theorem SignalsKept.modOpenRecord {p : Fin 384} {f : AeRecord → AeRecord} (h : SignalsKept s t) :
    SignalsKept s (t.modOpenRecord p f) := by
  unfold State.modOpenRecord
  split <;> exact h

theorem SignalsKept.decidePotOrder {p : Fin 384} {k : OrderKind} (h : SignalsKept s t) : SignalsKept s (t.decidePotOrder p k) := by
  unfold State.decidePotOrder
  split
  · exact h
  · exact .sendPotOrder h

theorem SignalsKept.cancelAdvice {p : Fin 384} (h : SignalsKept s t) : SignalsKept s (t.cancelAdvice p) := by
  unfold State.cancelAdvice
  split
  · split <;> exact h
  · exact h

theorem SignalsKept.cancelQuench {p : Fin 384} (h : SignalsKept s t) : SignalsKept s (t.cancelQuench p) := by
  unfold State.cancelQuench
  split
  · split <;> exact h
  · exact h

theorem SignalsKept.closeRecord {p : Fin 384} {cause : EndCause} (h : SignalsKept s t) : SignalsKept s (t.closeRecord p cause) := by
  unfold State.closeRecord
  exact SignalsKept.modOpenRecord h

theorem SignalsKept.traceReading {p : Fin 384} {vp : Nat} (h : SignalsKept s t) : SignalsKept s (t.traceReading p vp) := by
  unfold State.traceReading
  split <;> exact h

theorem SignalsKept.addAeEnergy {p : Fin 384} {vp : Nat} (h : SignalsKept s t) : SignalsKept s (t.addAeEnergy p vp) := by
  unfold State.addAeEnergy
  dsimp only
  split
  · exact SignalsKept.modOpenRecord h
  · exact h

theorem SignalsKept.decideQuench {p : Fin 384} (h : SignalsKept s t) : SignalsKept s (t.decideQuench p) := by
  unfold State.decideQuench
  exact SignalsKept.modOpenRecord (SignalsKept.decidePotOrder h)

theorem SignalsKept.tryQuench (p : Fin 384) (h : SignalsKept s t) : SignalsKept s (t.tryQuench p) := by
  unfold State.tryQuench
  split
  · exact .decideQuench h
  · exact h

theorem SignalsKept.setPersistent {p : Fin 384} (h : SignalsKept s t) : SignalsKept s (t.setPersistent p) := by
  unfold State.setPersistent
  exact .raise (SignalsKept.modOpenRecord h)

theorem SignalsKept.quenchExpires {p : Fin 384} (h : SignalsKept s t) : SignalsKept s (t.quenchExpires p) := by
  unfold State.quenchExpires
  dsimp only
  split_ifs
  · exact .setPersistent (.cancelQuench h)
  · exact .decideQuench (.cancelQuench h)
  · exact h

theorem SignalsKept.raiseAeEnd {p : Fin 384} {cause : EndCause} (h : SignalsKept s t) : SignalsKept s (t.raiseAeEnd p cause) := .raise h

theorem SignalsKept.effectEnds {p : Fin 384} (h : SignalsKept s t) : SignalsKept s (t.effectEnds p) := by
  unfold State.effectEnds
  exact .raiseAeEnd (.cancelQuench (.closeRecord h))

theorem SignalsKept.forceClose {p : Fin 384} {cause : EndCause} (h : SignalsKept s t) : SignalsKept s (t.forceClose p cause) := by
  unfold State.forceClose
  split
  · exact h
  · exact h
  · exact SignalsKept.raiseAeEnd (.closeRecord h)
  · exact SignalsKept.raiseAeEnd (.closeRecord h)

theorem SignalsKept.measurementFault {p : Fin 384} {vp : Nat} (h : SignalsKept s t) : SignalsKept s (t.measurementFault p vp) := by
  unfold State.measurementFault
  exact .raise h

theorem SignalsKept.onset {p : Fin 384} {vp : Nat} (h : SignalsKept s t) : SignalsKept s (t.onset p vp) := by
  unfold State.onset
  exact .cancelAdvice h

theorem SignalsKept.confirmOnset {p : Fin 384} {vp : Nat} (h : SignalsKept s t) : SignalsKept s (t.confirmOnset p vp) := by
  unfold State.confirmOnset
  exact .addAeEnergy (.raise (.tryQuench p (SignalsKept.traceReading (.traceReading h))))

theorem SignalsKept.workSuspect {p : Fin 384} {vp : Nat} (h : SignalsKept s t) : SignalsKept s (t.workSuspect p vp) := by
  unfold State.workSuspect
  dsimp only
  split_ifs
  · exact .raise h
  · exact .confirmOnset h
  · exact h

theorem SignalsKept.beginClearing {p : Fin 384} {vp : Nat} (h : SignalsKept s t) : SignalsKept s (t.beginClearing p vp) := by
  unfold State.beginClearing
  exact .traceReading (.modOpenRecord h)

theorem SignalsKept.relapse {p : Fin 384} {vp : Nat} (h : SignalsKept s t) : SignalsKept s (t.relapse p vp) := by
  unfold State.relapse
  exact .addAeEnergy (.traceReading (.tryQuench p (SignalsKept.modOpenRecord h)))

theorem SignalsKept.workEffect {p : Fin 384} {vp : Nat} (h : SignalsKept s t) : SignalsKept s (t.workEffect p vp) := by
  unfold State.workEffect
  dsimp only
  split
  case h_1 => exact .workSuspect h
  case h_2 =>
    split_ifs
    · exact .measurementFault h
    · exact .onset h
    · exact h
  case h_3 =>
    split_ifs
    · exact .measurementFault h
    · exact .traceReading h
    · exact .traceReading h
    · exact .relapse h
  case h_4 =>
    split_ifs
    · exact .measurementFault h
    · exact .beginClearing h
    · exact .addAeEnergy (.traceReading h)

theorem SignalsKept.takeFeed {p : Fin 384} (h : SignalsKept s t) : SignalsKept s (t.takeFeed p) := by
  unfold State.takeFeed
  exact .modOpenRecord h

theorem SignalsKept.quenchTaken {p : Fin 384} (h : SignalsKept s t) : SignalsKept s (t.quenchTaken p) := by
  unfold State.quenchTaken
  exact SignalsKept.modOpenRecord h

theorem SignalsKept.quenchDeclined {p : Fin 384} {seq : Byte} (h : SignalsKept s t) : SignalsKept s (t.quenchDeclined p seq) := by
  have hafter : ∀ {u : State}, SignalsKept s u → SignalsKept s (u.afterDecline p) := fun hu => by
    unfold State.afterDecline
    dsimp only
    split_ifs
    · exact .setPersistent hu
    · exact .tryQuench p hu
    · exact hu
  unfold State.quenchDeclined
  exact hafter (.raise (SignalsKept.modOpenRecord h))

/-! ### The section map and the pot supervision unit -/

theorem SignalsKept.enablePot {p : Fin 384} (h : SignalsKept s t) : SignalsKept s (t.enablePot p) := by
  unfold State.enablePot
  split <;> exact h

theorem SignalsKept.disablePot {p : Fin 384} (h : SignalsKept s t) : SignalsKept s (t.disablePot p) := by
  unfold State.disablePot
  split
  · exact h
  · exact .modPot (.dropPotOrder (.cancelAdvice (.forceClose h)))

theorem SignalsKept.losePot {p : Fin 384} (h : SignalsKept s t) : SignalsKept s (t.losePot p) := by
  unfold State.losePot
  exact .raise (SignalsKept.forceClose h)

theorem SignalsKept.decideAdvice {p : Fin 384} (h : SignalsKept s t) : SignalsKept s (t.decideAdvice p) := by
  unfold State.decideAdvice
  split
  · exact h
  · split
    · exact .decidePotOrder h
    · exact h

theorem SignalsKept.workComputable {p : Fin 384} {vp : Nat} {tap : Bool} (h : SignalsKept s t) :
    SignalsKept s (t.workComputable p vp tap) := by
  unfold State.workComputable
  exact SignalsKept.workEffect (.decideAdvice h)

theorem SignalsKept.workReading {p : Fin 384} {r : Reading} (h : SignalsKept s t) : SignalsKept s (t.workReading p r) := by
  have hworked : SignalsKept s (if t.computable then t.workComputable p r.vp (r.marker == 4)
      else t.modPot p fun q => { q with staleCurrent := bump16 q.staleCurrent }) := by
    split
    · exact .workComputable h
    · exact h
  unfold State.workReading
  dsimp only
  split
  · exact hworked
  · exact hworked
  · split <;> exact h
  · split
    · exact h
    · split
      · exact .raise h
      · exact h
  · exact h

theorem SignalsKept.takeMarker {p : Fin 384} {m : Byte} (h : SignalsKept s t) : SignalsKept s (t.takeMarker p m) := by
  unfold State.takeMarker
  dsimp only
  split_ifs
  · exact h
  · exact .takeFeed h
  · exact h
  · exact h
  · exact .cancelAdvice h
  · exact SignalsKept.forceClose h
  · exact h
  · exact h
  · exact h

theorem SignalsKept.takeReading {p : Fin 384} {r : Reading} (h : SignalsKept s t) : SignalsKept s (t.takeReading p r) := by
  unfold State.takeReading
  dsimp only
  split
  · exact h
  · split <;> exact SignalsKept.workReading (.takeMarker h)

theorem SignalsKept.mapError {k : ErrorKind} {src : Addr} {slot index : Nat} (h : SignalsKept s t) :
    SignalsKept s (t.mapError k src slot index) := .raise (.offerError h)

theorem SignalsKept.takeSlot {w : SectionWindow} {src : Addr} {slot : Nat} {r : SlotReading} (h : SignalsKept s t) :
    SignalsKept s (t.takeSlot w src slot r) := by
  unfold State.takeSlot
  dsimp only
  split
  · exact h
  · split
    · split
      · exact .takeReading h
      · exact .mapError h
    · split
      · split
        · exact .takeReading h
        · exact .mapError h
      · exact .mapError h

theorem SignalsKept.takePotSample {src : Addr} {slots : Vector SlotReading 8} (h : SignalsKept s t) :
    SignalsKept s (t.takePotSample src slots) := by
  unfold State.takePotSample
  dsimp only
  split
  · split
    · exact h
    · refine .foldl (fun _ i h => .takeSlot h) _ ?_
      split <;> exact h
  · exact h

theorem SignalsKept.takePotAnswer {src : Addr} {seq slot result : Byte} (h : SignalsKept s t) :
    SignalsKept s (t.takePotAnswer src seq slot result) := by
  have hlate : SignalsKept s (t.lateAnswer src slot.toNat) := by
    unfold State.lateAnswer
    split <;> exact h
  unfold State.takePotAnswer
  split
  · exact hlate
  · split
    · exact hlate
    · unfold State.answerOrder
      split_ifs
      · exact h
      · exact .quenchTaken h
      · exact .raise h
      · exact .quenchDeclined h
      · exact h

theorem SignalsKept.restartPots (h : SignalsKept s t) : SignalsKept s t.restartPots := by
  unfold State.restartPots State.restartPot
  exact .foldl (fun _ _ h => .modPot (.forceClose h)) _ h

/-! ### The energy unit -/

theorem SignalsKept.addCurtailed {dt : Nat} (h : SignalsKept s t) : SignalsKept s (t.addCurtailed dt) := by
  unfold State.addCurtailed
  split <;> exact h

theorem SignalsKept.appendRecord {r : EnergyRecord} (h : SignalsKept s t) : SignalsKept s (t.appendRecord r) := by
  unfold State.appendRecord
  dsimp only
  split
  · exact .raise h
  · exact h

theorem SignalsKept.closeSlot (h : SignalsKept s t) : SignalsKept s t.closeSlot := by
  unfold State.closeSlot
  dsimp only
  split
  · exact .appendRecord (.raise h)
  · exact .appendRecord h

/-! ### The tariff unit -/

theorem SignalsKept.issueFetch {k : Fin 2} {n : Nat} {i : Half} (h : SignalsKept s t) : SignalsKept s (t.issueFetch k n i) := by
  unfold State.issueFetch
  exact .sendAsk h

theorem SignalsKept.refill {k : Fin 2} (h : SignalsKept s t) : SignalsKept s (t.refill k) := by
  unfold State.refill
  generalize t.tru.waitList = l
  induction l with
  | nil => exact h
  | cons e rest ih =>
    unfold State.refillFrom
    split
    · exact .issueFetch h
    · exact ih

theorem SignalsKept.requestFetch {n : Nat} {i : Half} (h : SignalsKept s t) : SignalsKept s (t.requestFetch n i) := by
  have habandon : SignalsKept s (t.abandonOther n) := by
    unfold State.abandonOther
    dsimp only
    split
    · exact h
    · exact .refill h
  unfold State.requestFetch
  dsimp only
  split
  · exact h
  · split
    · exact .issueFetch habandon
    · exact habandon

theorem SignalsKept.makePrefetch (h : SignalsKept s t) : SignalsKept s t.makePrefetch := by
  unfold State.makePrefetch
  dsimp only
  split
  · exact h
  · split
    · exact h
    · split
      · exact h
      · exact .requestFetch h

theorem SignalsKept.testPrefetch (h : SignalsKept s t) : SignalsKept s t.testPrefetch := by
  unfold State.testPrefetch
  split
  · exact .makePrefetch h
  · exact h

theorem SignalsKept.chooseEntry {n : Nat} (h : SignalsKept s t) : SignalsKept s (t.chooseEntry n).1 := by
  unfold State.chooseEntry
  dsimp only
  split
  · exact h
  · split
    · exact h
    · split_ifs
      · exact h
      · exact h
      · exact SignalsKept.requestFetch h

theorem SignalsKept.startSlot {n : Nat} (h : SignalsKept s t) : SignalsKept s (t.startSlot n) := by
  unfold State.startSlot
  exact .testPrefetch (.trigger (SignalsKept.chooseEntry h))

theorem SignalsKept.tariffError {k : ErrorKind} {n : Nat} {i : Half} {code : Nat} (h : SignalsKept s t) :
    SignalsKept s (t.tariffError k n i code) := .raise (.offerError h)

theorem SignalsKept.takeCalendarEntry {seq : Byte} {a : CalendarAnswer} (h : SignalsKept s t) :
    SignalsKept s (t.takeCalendarEntry seq a) := by
  unfold State.takeCalendarEntry
  split
  · split
    · exact h
    · split
      · unfold State.validAnswer
        dsimp only
        split <;> exact .refill h
      · unfold State.invalidAnswer
        exact .refill (.tariffError h)
  · exact h

theorem SignalsKept.fetchExpires {k : Fin 2} (h : SignalsKept s t) : SignalsKept s (t.fetchExpires k) := by
  unfold State.fetchExpires
  split
  · exact h
  · exact .refill (.tariffError h)

/-! ### Slots, time marks and line samples -/

theorem SignalsKept.openSlot {n : Nat} {timeStep part : Bool} (h : SignalsKept s t) : SignalsKept s (t.openSlot n timeStep part) := by
  unfold State.openSlot
  exact .startSlot h

theorem SignalsKept.endSlot (h : SignalsKept s t) : SignalsKept s t.endSlot := by
  unfold State.endSlot
  split
  · exact h
  · exact .openSlot (.closeSlot h)

theorem SignalsKept.laterMark {old c : Clock} (h : SignalsKept s t) : SignalsKept s (t.laterMark old c) := by
  have hopen : ∀ {u : State} (step : Bool), SignalsKept s u →
      SignalsKept s (if u.egu.slot.number = some c.slot then u else u.closeSlot.openSlot c.slot step false) := fun step hu => by
    split
    · exact hu
    · exact .openSlot (.closeSlot hu)
  refine hopen _ ?_
  split
  · exact .raise h
  · exact h

theorem SignalsKept.takeMark {day ms : Nat} (h : SignalsKept s t) : SignalsKept s (t.takeMark day ms) := by
  unfold State.takeMark
  dsimp only
  split
  · split
    · split
      · exact .testPrefetch (.openSlot (.closeSlot h))
      · exact .testPrefetch (.laterMark h)
    · exact h
  · exact h

theorem SignalsKept.takeLineSample {il vl : Nat} (h : SignalsKept s t) : SignalsKept s (t.takeLineSample il vl) := by
  have hstages : SignalsKept s (t.sampleStages il vl) := by
    unfold State.sampleStages
    exact SignalsKept.workHeatRecovery (SignalsKept.addCurtailed h)
  have hcompose : ∀ dt, SignalsKept s ((t.sampleStages il vl).composeStage dt) := fun dt => by
    unfold State.composeStage
    split
    · exact hstages
    · exact .compose hstages
  unfold State.takeLineSample
  split
  · unfold State.workLineSample
    exact .regulate (.allocate (.workTrim (hcompose _)))
  · exact h

/-! ### Restart, STOP, takeover and the ring port -/

theorem SignalsKept.restartCooling (h : SignalsKept s t) : SignalsKept s t.restartCooling := by
  have hrated : SignalsKept s { t with clu := t.clu.restarted.rated } := h
  unfold State.restartCooling
  exact .evaluateStage (.workShortfall (.update (.evaluateAll hrated)))

theorem SignalsKept.restartLine (h : SignalsKept s t) : SignalsKept s t.restartLine := h

theorem SignalsKept.restartSlot (h : SignalsKept s t) : SignalsKept s t.restartSlot := by
  unfold State.restartSlot
  dsimp only
  split
  · exact h
  · split
    · exact h
    · exact .openSlot (.closeSlot h)

theorem SignalsKept.restartGroups (h : SignalsKept s t) : SignalsKept s t.restartGroups := by
  unfold State.restartGroups
  exact .update (.releaseAll h)

theorem SignalsKept.restart (h : SignalsKept s t) : SignalsKept s t.restart := by
  have hbegin : SignalsKept s t.beginRestart := by
    unfold State.beginRestart
    exact .settle h
  have hrest : ∀ {u : State}, SignalsKept s u → SignalsKept s (State.restartSlot { u with tru := u.tru.restarted }) := fun hu =>
    .restartSlot hu
  unfold State.restart
  exact hrest (.restartLine (.restartCooling (.restartGroups (.restartPots hbegin))))

theorem SignalsKept.stop (h : SignalsKept s t) : SignalsKept s t.stop := by
  unfold State.stop
  exact .update (.releaseAll h)

theorem SignalsKept.takeOver (h : SignalsKept s t) : SignalsKept s t.takeOver := by
  unfold State.takeOver
  exact .regulate (.foldl (fun _ p h => .tryQuench p h) _ (.foldl (fun _ g h => .autoclaim g h) _ h))

theorem SignalsKept.passOn {f : Frame} (h : SignalsKept s t) : SignalsKept s (t.passOn f) := by
  unfold State.passOn
  split <;> exact h

theorem SignalsKept.sendNext (h : SignalsKept s t) : SignalsKept s t.sendNext := by
  unfold State.sendNext
  split
  · exact h
  · exact h
  · exact .settle h
  · split
    · exact h
    · exact .settle h

theorem SignalsKept.deferralExpires (h : SignalsKept s t) : SignalsKept s t.deferralExpires := by
  unfold State.deferralExpires
  exact .settle h

end
end Sys2Proof.Machine
end

section
/-! SUPPORT. Requests and the signals: every WRITE, and every command but CLEAR-ERROR, keeps them. -/

namespace Sys2Proof.Machine

/-! ### Answers -/

section
variable {s t : State}

theorem SignalsKept.done (h : SignalsKept s t) : SignalsKept s t.done.1 := h

theorem SignalsKept.wrote {value : Long} {clamped : Bool} (h : SignalsKept s t) : SignalsKept s (t.wrote value clamped).1 := h

theorem SignalsKept.writeClamped {lo hi v : Nat} {f : Nat → State} (h : ∀ n, SignalsKept s (f n)) :
    SignalsKept s (writeClamped lo hi v f).1 := h _

end

/-! ### WRITEs -/

theorem signalsKept_writePot (s : State) (index field : Nat) (values : List Byte) :
    SignalsKept s (s.writePot index field values).1 := by
  have h := SignalsKept.refl s
  refine State.indexed_keeps (SignalsKept s) h (fun p => s.writePotField p field _) fun p => ?_
  unfold State.writePotField
  split
  case h_1 =>
    refine State.writeFlag_keeps (SignalsKept s) h fun b => ?_
    split
    · exact .enablePot h
    · exact .disablePot h
  case h_8 => exact State.writeFlag_keeps (SignalsKept s) h fun _ => h
  case h_10 => exact State.writeFlag_keeps (SignalsKept s) h fun _ => .tryQuench p h
  all_goals exact h

theorem signalsKept_writeSection (s : State) (index field : Nat) (values : List Byte) :
    SignalsKept s (s.writeSection index field values).1 := by
  have h := SignalsKept.refl s
  refine State.indexed_keeps (SignalsKept s) h (fun w => s.writeSectionField w field _) fun w => ?_
  unfold State.writeSectionField
  split
  case h_1 => exact State.writeFlag_keeps (SignalsKept s) h fun _ => h
  case h_2 => exact State.writeUpTo_keeps (SignalsKept s) h fun _ => h
  case h_3 => split <;> exact h
  case h_4 => exact State.writeChoice_keeps (SignalsKept s) h fun _ => h
  all_goals exact h

theorem signalsKept_writeMap (s : State) (index : Nat) (values : List Byte) : SignalsKept s (s.writeMap index values).1 := by
  have h := SignalsKept.refl s
  refine State.indexed_keeps (SignalsKept s) h (fun i => s.writeMapEntry i _) fun i => ?_
  unfold State.writeMapEntry
  dsimp only
  split_ifs <;> exact h

theorem signalsKept_writeGroup (s : State) (index field : Nat) (values : List Byte) :
    SignalsKept s (s.writeGroup index field values).1 := by
  have h := SignalsKept.refl s
  refine State.indexed_keeps (SignalsKept s) h (fun g => s.writeGroupField g field _) fun g => ?_
  unfold State.writeGroupField
  split
  case h_1 =>
    unfold State.writePresent
    dsimp only
    split_ifs
    · exact h
    · exact h
    · exact h
    · exact .wrote (.changePresence h)
    · exact .wrote (.changePresence h)
    · exact h
  case h_2 =>
    unfold State.writeNode
    dsimp only
    split_ifs <;> exact h
  case h_5 | h_6 => exact State.writeChoice_keeps (SignalsKept s) h fun _ => h
  case h_8 => exact .writeClamped fun _ => .regulate h
  case h_9 | h_10 => exact State.writeFlag_keeps (SignalsKept s) h fun _ => h
  all_goals exact h

theorem signalsKept_writeCurve (s : State) (index field : Nat) (values : List Byte) :
    SignalsKept s (s.writeCurve index field values).1 := by
  have h := SignalsKept.refl s
  have hput : ∀ g curve, SignalsKept s (s.putCurve g field values curve).1 := fun g curve => by
    unfold State.putCurve
    split <;> exact h
  refine State.indexed_keeps (SignalsKept s) h
    (fun g => if field ≤ 8 then s.writeCurveAt g field values else s.refuse .badIndex) fun g => ?_
  unfold State.writeCurveAt
  dsimp only
  split_ifs
  · exact hput _ _
  · exact h
  · exact hput _ _
  · exact h

theorem signalsKept_writeStage (s : State) (index field : Nat) (values : List Byte) :
    SignalsKept s (s.writeStage index field values).1 := by
  have h := SignalsKept.refl s
  have hthreshold : ∀ k v f, SignalsKept s (s.writeThreshold k v f).1 := fun k v f => by
    unfold State.writeThreshold
    dsimp only
    split
    · exact .wrote (.evaluateStage h)
    · exact h
  refine State.needing_keeps (SignalsKept s) h ?_
  split
  · unfold State.writeStageField
    split
    · exact hthreshold _ _ _
    · exact hthreshold _ _ _
    · exact .writeClamped fun _ => .regulate (.workPercentage h)
    · exact h
  · exact h

theorem signalsKept_writeProfileStep (s : State) (index field : Nat) (values : List Byte) :
    SignalsKept s (s.writeProfileStep index field values).1 := by
  have h := SignalsKept.refl s
  refine State.indexed_keeps (SignalsKept s) h (fun k => s.writeStepField k field _) fun k => ?_
  unfold State.writeStepField
  split
  case h_3 => exact State.writeUpTo_keeps (SignalsKept s) h fun _ => h
  case h_4 => exact State.writeFlag_keeps (SignalsKept s) h fun _ => h
  all_goals exact h

theorem signalsKept_writeProfile (s : State) (index field : Nat) (values : List Byte) :
    SignalsKept s (s.writeProfile index field values).1 := by
  have h := SignalsKept.refl s
  refine State.indexed_keeps (SignalsKept s) h (fun n => s.writeProfileField n field _) fun n => ?_
  unfold State.writeProfileField
  split
  case h_2 => exact State.writeChoice_keeps (SignalsKept s) h fun _ => h
  all_goals exact h

theorem signalsKept_writeTariffWindow (s : State) (index field : Nat) (values : List Byte) :
    SignalsKept s (s.writeTariffWindow index field values).1 := by
  have h := SignalsKept.refl s
  refine State.indexed_keeps (SignalsKept s) h (fun w => s.writeWindowField w field _) fun w => ?_
  unfold State.writeWindowField
  split
  case h_1 | h_9 => exact State.writeFlag_keeps (SignalsKept s) h fun _ => h
  case h_2 | h_5 | h_8 => exact State.writeUpTo_keeps (SignalsKept s) h fun _ => h
  case h_3 => split <;> exact h
  case h_4 => exact State.writeChoice_keeps (SignalsKept s) h fun _ => h
  all_goals exact h

theorem signalsKept_writeTariffDefault (s : State) (index field : Nat) (values : List Byte) :
    SignalsKept s (s.writeTariffDefault index field values).1 := by
  have h := SignalsKept.refl s
  refine State.needing_keeps (SignalsKept s) h ?_
  split
  · unfold State.writeDefaultField
    split
    case h_3 => exact State.writeUpTo_keeps (SignalsKept s) h fun _ => h
    all_goals exact h
  · exact h

theorem signalsKept_writeLine (s : State) (field : Nat) (values : List Byte) : SignalsKept s (s.writeLine field values).1 := by
  have h := SignalsKept.refl s
  have hvoltage : ∀ lo hi v f, SignalsKept s (s.writeVoltage lo hi v f).1 := fun lo hi v f => by
    unfold State.writeVoltage
    split <;> exact h
  refine State.needing_keeps (SignalsKept s) h ?_
  unfold State.writeLineField
  split
  case h_9 => exact .writeClamped fun _ => .workHeatRecovery h
  case h_11 | h_12 | h_13 => exact hvoltage _ _ _ _
  case h_19 => exact State.writeFlag_keeps (SignalsKept s) h fun _ => h
  all_goals exact h

/-- A written alarm enable works the ALARM line (R172, R173). -/
theorem signalsKept_writeEvents (s : State) (index : Nat) (values : List Byte) : SignalsKept s (s.writeEvents index values).1 := by
  have h := SignalsKept.refl s
  refine State.needing_keeps (SignalsKept s) h ?_
  split
  · split
    · exact State.writeFlag_keeps (SignalsKept s) h fun _ => signalsKept_evaluateAlarm s _
    · exact h
  · exact h

/-- Every WRITE keeps the signals. -/
theorem signalsKept_writeObject (s : State) (o : Object) (index field : Nat) (values : List Byte) :
    SignalsKept s (s.writeObject o index field values).1 := by
  have h := SignalsKept.refl s
  cases o with
  | pot => exact signalsKept_writePot s index field values
  | map => exact signalsKept_writeMap s index values
  | sectionWindow => exact signalsKept_writeSection s index field values
  | group => exact signalsKept_writeGroup s index field values
  | curve => exact signalsKept_writeCurve s index field values
  | stage => exact signalsKept_writeStage s index field values
  | profileStep => exact signalsKept_writeProfileStep s index field values
  | profile => exact signalsKept_writeProfile s index field values
  | tariffWindow => exact signalsKept_writeTariffWindow s index field values
  | tariffDefault => exact signalsKept_writeTariffDefault s index field values
  | line => exact signalsKept_writeLine s field values
  | mgmtAddress | supervisorAddress | serverAddress | coolerAddress =>
    exact State.writeAddress_keeps (SignalsKept s) h fun _ => h
  | events => exact signalsKept_writeEvents s index values
  | energyRecord | aeLog | trace | errorLog | counters => exact h

/-! ### Commands -/

/-- Every command but CLEAR-ERROR keeps the signals; ACK-EVENTS works the ALARM line (R172, R173). -/
theorem signalsKept_command (s : State) {c : Command} (hc : c ≠ .clearError) (arg : Nat) : SignalsKept s (s.command c arg).1 := by
  have h := SignalsKept.refl s
  cases c with
  | clearError => exact absurd rfl hc
  | start =>
    show SignalsKept s s.commandStart.1
    unfold State.commandStart
    split
    · exact h
    · exact .done (.restart h)
  | restart => exact .done (.restart h)
  | stop =>
    show SignalsKept s s.commandStop.1
    unfold State.commandStop
    split
    · exact .done (.stop h)
    · exact h
  | claim =>
    refine State.onGroup_keeps (SignalsKept s) h fun g => ?_
    split
    · exact .done (.regulate (.claimGroup h))
    · exact h
  | release =>
    refine State.onGroup_keeps (SignalsKept s) h fun g => ?_
    dsimp only
    split
    · dsimp only
      exact .regulate (.releaseGroup h)
    · exact h
  | setFull =>
    refine State.onGroup_keeps (SignalsKept s) h fun g => ?_
    dsimp only
    split_ifs
    · exact h
    · exact .done (.setFull h)
    · exact h
    · exact h
  | profilePlay =>
    refine State.onGroup_keeps (SignalsKept s) h fun n => ?_
    split
    · exact h
    · exact .done (.startProfile h)
  | profileHold =>
    show SignalsKept s s.commandHold.1
    unfold State.commandHold
    split <;> exact h
  | profileResume =>
    show SignalsKept s s.commandResume.1
    unfold State.commandResume
    split <;> exact h
  | profileStop =>
    show SignalsKept s s.commandStopProfile.1
    unfold State.commandStopProfile
    split <;> exact h
  | lineRestart =>
    show SignalsKept s s.commandLineRestart.1
    unfold State.commandLineRestart
    split
    · exact .done (.regulate (.allocate h))
    · exact h
  | cacheInvalidate | energyRelease => exact h
  | ackEvents =>
    show SignalsKept s (s.commandAck arg).1
    unfold State.commandAck
    split
    · exact signalsKept_evaluateAlarm s _
    · exact h

end Sys2Proof.Machine
end

section
/-! The statement on the ALARM line and the error log. While the reset line is high, all work but CLEAR-ERROR keeps the signals, and
CLEAR-ERROR leaves ERR clear, with no error offered after it in its step: so both laws hold over every request, frame and row
(`LawsKept`). The two rows of the reset line are cases of their own. -/

namespace Sys2Proof.Machine

/-! ### The laws over a step (R173, R170) -/

/-- From `s` to `t` the reset line stands, an ALARM line that follows the kinds goes on doing so, and an error log that is set before and
after holds the same error. -/
def LawsKept (s t : State) : Prop :=
  t.resetLow = s.resetLow ∧ (s.meu.AlarmFollows → t.meu.AlarmFollows)
    ∧ (s.meu.errors.err = true → t.meu.errors.err = true → t.meu.errors.held = s.meu.errors.held)

theorem SignalsKept.laws {s t : State} (h : SignalsKept s t) : LawsKept s t := by
  obtain ⟨hreset, halarm, herrors⟩ := h
  exact ⟨hreset, halarm, fun hs _ => (herrors hs).2⟩

/-- After CLEAR-ERROR the log is not set, so that nothing is asked of what it holds (R170). -/
theorem lawsKept_commandClearError (s : State) : LawsKept s s.commandClearError.1 := ⟨rfl, id, fun _ h => nomatch h⟩

/-- Every command. -/
theorem lawsKept_command (s : State) (c : Command) (arg : Nat) : LawsKept s (s.command c arg).1 := by
  by_cases hc : c = .clearError
  · subst hc
    exact lawsKept_commandClearError s
  · exact (signalsKept_command s hc arg).laws

theorem lawsKept_workRequest (s : State) (r : Request) : LawsKept s (s.workRequest r).1 := by
  have h := (SignalsKept.refl s).laws
  unfold State.workRequest
  split
  · exact h
  · split
    · exact h
    · exact lawsKept_command s _ _
  · split
    · exact h
    · rwa [State.readObject_fst]
  · split
    · exact h
    · split
      · exact h
      · exact (signalsKept_writeObject s _ _ _ _).laws

/-- A reply changes MEU's send list, and what an admission may, alone. -/
theorem LawsKept.sendReply {s t : State} {f : Frame} (h : LawsKept s t) : LawsKept s (t.sendReply f) := by
  unfold State.sendReply
  split
  · simpa [LawsKept, Meu.AlarmFollows] using h
  · exact h

/-! ### Frames and rows (R158, R159, R176) -/

/-- Whoever asks, an answer keeps the laws when the work on the request does (R167, R169). -/
theorem lawsKept_answerRequest {work : State → Worked} (hwork : ∀ t, LawsKept t (work t).1) (s : State) (src : Addr) (seq : Byte) :
    LawsKept s (s.answerRequest src seq work) := by
  unfold State.answerRequest
  split
  · exact (SignalsKept.refl s).laws
  · have htaken : SignalsKept s { s with meu.requestsTaken := bump32 s.meu.requestsTaken } := .refl s
    refine .sendReply ?_
    dsimp only
    split
    · exact hwork { s with meu.requestsTaken := bump32 s.meu.requestsTaken }
    · exact SignalsKept.laws (.offerError htaken)

/-- A frame that is passed on and then worked: the forward queue is no part of the laws. -/
theorem LawsKept.of_passOn {s t : State} {f : Frame} (h : LawsKept (s.passOn f) t) : LawsKept s t := by
  unfold State.passOn at h
  split at h <;> exact h

theorem lawsKept_arrive {work : State → State} (hwork : ∀ t, LawsKept t (work t)) (s : State) (f : Frame) :
    LawsKept s (s.arrive f work) := by
  have hself := (SignalsKept.refl s).laws
  have hpass : LawsKept s (s.passOn f) := (SignalsKept.refl s).passOn.laws
  unfold State.arrive State.distribute
  split
  · exact hself
  · split
    · exact hself
    · dsimp only
      split
      · split <;> exact hpass
      · split
        · split
          · exact hpass
          · exact (hwork (s.passOn f)).of_passOn
        · exact hpass

/-- A frame of any kind, handed to the blocks that take it. -/
theorem lawsKept_handOver (s : State) (f : Frame) : LawsKept s (s.handOver f) := by
  have h := SignalsKept.refl s
  unfold State.handOver
  split
  · exact h.laws
  · next k _ =>
    cases k with
    | potSample => exact h.takePotSample.laws
    | lineSample => exact h.takeLineSample.laws
    | timeMark => exact h.takeMark.laws
    | statusFull | statusShort => exact h.takeStatus.laws
    | groupAnswer => exact h.takeGroupAnswer.laws
    | groupProbe => exact h.takeProbe.laws
    | potAnswer => exact h.takePotAnswer.laws
    | coolerStatus => exact h.takeCoolerStatus.laws
    | calendarEntry => exact h.takeCalendarEntry.laws
    | request => exact lawsKept_answerRequest (fun t => lawsKept_workRequest t _) s f.src f.seq

theorem lawsKept_receiveBytes (s : State) (bytes : List Byte) : LawsKept s (s.receiveBytes bytes) := by
  have hself := (SignalsKept.refl s).laws
  unfold State.receiveBytes
  split
  · exact hself
  · exact hself
  · exact lawsKept_arrive (fun t => lawsKept_handOver t _) s _

/-! ### Every command and every step -/

/-- What the statement says of a step from `s` to `t`. -/
def SafeStep (s t : State) : Prop :=
  (alarmLaw s → alarmLaw t)
    ∧ (s.meu.errors.err = true → t.meu.errors.err = true → t.meu.errors.held = s.meu.errors.held)

/-- A step that changes neither the reset line nor the ALARM line, the kinds or the error log, as one in which nothing is worked. -/
theorem SafeStep.refl (s : State) : SafeStep s s := ⟨id, fun _ _ => rfl⟩

/-- While the reset line is high, the ALARM line is to follow the kinds (R173). -/
theorem alarmLaw_iff_of_high {s : State} (hs : s.resetLow = false) : alarmLaw s ↔ s.meu.AlarmFollows := by
  simp [alarmLaw, hs, Meu.AlarmFollows]

theorem LawsKept.safeStep {s t : State} (h : LawsKept s t) (hs : s.resetLow = false) : SafeStep s t := by
  obtain ⟨hreset, halarm, herrors⟩ := h
  exact ⟨fun hlaw => (alarmLaw_iff_of_high (hreset.trans hs)).mpr (halarm ((alarmLaw_iff_of_high hs).mp hlaw)), herrors⟩

/-- RESET_LOW releases the ALARM line, and leaves the error log alone (R176). -/
theorem safeStep_resetLow (s : State) : SafeStep s { s with resetLow := true, meu.alarm := false } :=
  ⟨fun _ => rfl, fun _ _ => rfl⟩

/-- At power-on no kind is pending. -/
theorem alarmHeld_powerOn : alarmHeld (Vector.replicate 26 {}) = false := by
  simp [alarmHeld]

/-- RESET_RELEASE leaves ERR clear and no kind pending (R176). -/
theorem safeStep_resetRelease (s : State) (straps : Byte) : SafeStep s { State.powerOn straps with pending := s.pending } :=
  ⟨fun _ => alarmHeld_powerOn.symm, fun _ h => nomatch h⟩

theorem safeStep_onRing {work : State → State} (hwork : ∀ t, LawsKept t (work t)) (s : State) (bytes : List Byte) :
    SafeStep s (s.onRing bytes work) := by
  unfold State.onRing
  split
  · exact .refl s
  · next hs => exact (hwork s).safeStep (by simpa using hs)

theorem safeStep_frameRow {work : State → State} (hwork : ∀ t, SignalsKept t (work t)) (s : State) (f : Frame) :
    SafeStep s (s.frameRow f work) := safeStep_onRing (fun t => lawsKept_arrive (fun u => (hwork u).laws) t f) s _

theorem safeStep_requestRow {work : State → Worked} (hwork : ∀ t, LawsKept t (work t).1) (s : State) (h : Header)
    (payload : List Byte) : SafeStep s (s.requestRow h payload work) :=
  safeStep_onRing (fun t => lawsKept_arrive (fun u => lawsKept_answerRequest hwork u h.src h.seq) t _) s _

/-- An expiry, due or not, is safe when its effect keeps the signals. -/
theorem safeStep_expire {s : State} {due : Bool} {effect : State} (h : SignalsKept s effect) :
    ∃ t, s.expire due effect = .next t ∧ SafeStep s t := by
  refine ⟨_, rfl, ?_⟩
  split
  · next hdue => exact h.laws.safeStep hdue.1
  · exact .refl s

/-- Every command takes a safe step. -/
theorem exec_safeStep (s : State) (i : Instr) : ∃ t, exec i s = .next t ∧ SafeStep s t := by
  have h := SignalsKept.refl s
  have hframe : ∀ {f : Frame} {work : State → State}, (∀ t, SignalsKept t (work t)) → SafeStep s (s.frameRow f work) :=
    fun hwork => safeStep_frameRow hwork s _
  have hcommand : ∀ {hd : Header} {payload : List Byte} (c : Command) (arg : Nat),
      SafeStep s (s.requestRow hd payload fun t => t.command c arg) := fun c arg =>
    safeStep_requestRow (fun t => lawsKept_command t c arg) s _ _
  have hwrite : ∀ {hd : Header} {payload : List Byte} (o : Object) (index field : Nat) (values : List Byte),
      SafeStep s (s.requestRow hd payload fun t => t.writeObject o index field values) := fun o index field values =>
    safeStep_requestRow (fun t => (signalsKept_writeObject t o index field values).laws) s _ _
  cases i with
  | resetLow => exact ⟨_, rfl, safeStep_resetLow s⟩
  | resetRelease straps =>
    refine ⟨_, rfl, ?_⟩
    split
    · exact safeStep_resetRelease s straps
    · exact .refl s
  | frameRejected bytes => exact ⟨_, rfl, safeStep_onRing (fun t => lawsKept_receiveBytes t bytes) s bytes⟩
  | framePassing f | unknownKind f =>
    exact ⟨_, rfl, safeStep_onRing (fun t => lawsKept_arrive (fun u => lawsKept_handOver u f) t f) s _⟩
  | potSample => exact ⟨_, rfl, hframe fun t => .takePotSample (.refl t)⟩
  | lineSample => exact ⟨_, rfl, hframe fun t => .takeLineSample (.refl t)⟩
  | timeMark => exact ⟨_, rfl, hframe fun t => .takeMark (.refl t)⟩
  | groupStatusFull | groupStatusShort => exact ⟨_, rfl, hframe fun t => .takeStatus (.refl t)⟩
  | groupAnswer => exact ⟨_, rfl, hframe fun t => .takeGroupAnswer (.refl t)⟩
  | groupProbe | watch | unwatch | takeLocal | returnRemote => exact ⟨_, rfl, hframe fun t => .takeProbe (.refl t)⟩
  | potAnswer => exact ⟨_, rfl, hframe fun t => .takePotAnswer (.refl t)⟩
  | coolerStatus => exact ⟨_, rfl, hframe fun t => .takeCoolerStatus (.refl t)⟩
  | calendarEntry => exact ⟨_, rfl, hframe fun t => .takeCalendarEntry (.refl t)⟩
  | ringOutSend =>
    refine ⟨_, rfl, ?_⟩
    split
    · exact .refl s
    · next hs => exact h.sendNext.laws.safeStep (by simpa using hs)
  | deferralTimerExpiry => exact safeStep_expire h.deferralExpires
  | potLost => exact safeStep_expire h.losePot
  | inhibitEnd | adviceExpiry | qualificationEnd => exact safeStep_expire h
  | quenchDue => exact safeStep_expire h.decideQuench
  | quenchTimeout => exact safeStep_expire h.quenchExpires
  | clearEnd => exact safeStep_expire h.effectEnds
  | lineTrip => exact safeStep_expire h.trip.regulate
  | stepEnd => exact safeStep_expire h.runOut
  | stepTimer => exact safeStep_expire h.modGroup.regulate
  | groupOrderTimeout => exact safeStep_expire h.orderTimeout
  | groupHolding => exact safeStep_expire h.holdGroup
  | groupSilent => exact safeStep_expire h.silenceGroup
  | stageUp | stageDown => exact safeStep_expire h.changeStage
  | coolerNoResponse => exact safeStep_expire h.coolerFails
  | slotEnd => exact safeStep_expire h.endSlot
  | prefetch => exact safeStep_expire h.makePrefetch
  | fetchTimeout => exact safeStep_expire h.fetchExpires
  | takeover => exact safeStep_expire h.takeOver
  | stationDayEnd => exact safeStep_expire h
  | start => exact ⟨_, rfl, hcommand .start 0⟩
  | restart => exact ⟨_, rfl, hcommand .restart 0⟩
  | stop => exact ⟨_, rfl, hcommand .stop 0⟩
  | claim _ arg => exact ⟨_, rfl, hcommand .claim arg.toNat⟩
  | release _ arg => exact ⟨_, rfl, hcommand .release arg.toNat⟩
  | setFull _ arg => exact ⟨_, rfl, hcommand .setFull arg.toNat⟩
  | profilePlay _ arg => exact ⟨_, rfl, hcommand .profilePlay arg.toNat⟩
  | profileHold => exact ⟨_, rfl, hcommand .profileHold 0⟩
  | profileResume => exact ⟨_, rfl, hcommand .profileResume 0⟩
  | profileStop => exact ⟨_, rfl, hcommand .profileStop 0⟩
  | lineRestart => exact ⟨_, rfl, hcommand .lineRestart 0⟩
  | cacheInvalidate => exact ⟨_, rfl, hcommand .cacheInvalidate 0⟩
  | energyRelease _ arg => exact ⟨_, rfl, hcommand .energyRelease arg.toNat⟩
  | clearError => exact ⟨_, rfl, hcommand .clearError 0⟩
  | ackEvents _ arg => exact ⟨_, rfl, hcommand .ackEvents arg.toNat⟩
  | mgmtWrite => exact ⟨_, rfl, safeStep_requestRow (fun t => lawsKept_workRequest t _) s _ _⟩
  | potWrite | potEnable | potDisable | automaticQuenchWrite => exact ⟨_, rfl, hwrite .pot _ _ _⟩
  | hlWrite | aeHoldLimitWrite => exact ⟨_, rfl, hwrite .line 0 _ _⟩
  | groupPresentWrite | nodeAddressWrite | stepLatchWrite | stepClockWrite => exact ⟨_, rfl, hwrite .group _ _ _⟩
  | stageWrite => exact ⟨_, rfl, hwrite .stage _ _ _⟩
  | eventsWrite => exact ⟨_, rfl, hwrite .events _ 0 _⟩
  | mgmtAddressWrite => exact ⟨_, rfl, hwrite .mgmtAddress _ 0 _⟩

/-- Every step is safe: the command at the front of the queue, an expiry that is due, or 1 ms of part time. -/
theorem step_safeStep (s : State) : ∃ t, step s = .next t ∧ SafeStep s t := by
  unfold Machine.step
  split
  · unfold State.idle
    split
    · exact ⟨s, rfl, .refl s⟩
    · split
      · next i _ => exact exec_safeStep s i
      · exact ⟨s.tick, rfl, .refl s⟩
  · next i rest _ => exact exec_safeStep { s with pending := rest } i

/-- Settles O8: every step is safe (`step_safeStep`), for its work keeps the ALARM line and the error of a set log, or clears ERR last. -/
theorem alarmLineAndErrorLogKeepTheirLaws : Obligations.AlarmLineAndErrorLogKeepTheirLaws := by
  have hsafe : ∀ s t : State, step s = .next t → SafeStep s t := by
    intro s t hstep
    obtain ⟨t', hnext, ht'⟩ := step_safeStep s
    rw [hnext] at hstep
    cases hstep
    exact ht'
  refine ⟨fun s t hlaw hstep => (hsafe s t hstep).1 hlaw, fun s t hstep hs ht => ?_⟩
  simpa [ErrorLog.held] using (hsafe s t hstep).2 hs ht

end Sys2Proof.Machine
end

section
/-! The statements on what a step leaves and on the single rows, with their lemmas. Their proofs are elaborated one after the other: worked
side by side, in one text with the model, they ask for more threads than the memory at hand allows. -/

set_option Elab.async false

section
/-! The statements on the bytes of frames: the fields of a payload are read back as they were written (R157), so a frame is read back from its
bytes, and a row does what the bytes of its frame do. -/

namespace Sys2Proof.Machine

/-! ### Fields read back (R157) -/

/-- A two-byte field is its bytes, high byte first. -/
@[simp] theorem extract_append_half (x : Half) : x.extractLsb' 8 8 ++ x.extractLsb' 0 8 = x := by
  ext i hi
  simp only [BitVec.getElem_append, BitVec.getElem_extractLsb']
  split
  · next h => simp [BitVec.getLsbD_eq_getElem hi]
  · next h => rw [show 8 + (i - 8) = i by omega, BitVec.getLsbD_eq_getElem hi]

/-- A four-byte field is its two halves. -/
@[simp] theorem extract_append_long (x : Long) :
    (x.extractLsb' 24 8 ++ x.extractLsb' 16 8) ++ (x.extractLsb' 8 8 ++ x.extractLsb' 0 8) = x := by
  ext i hi
  simp only [BitVec.getElem_append, BitVec.getElem_extractLsb']
  split
  · split
    · next h => simp [BitVec.getLsbD_eq_getElem hi]
    · next h => rw [show 8 + (i - 8) = i by omega, BitVec.getLsbD_eq_getElem hi]
  · split
    · next h => rw [show 16 + (i - 16) = i by omega, BitVec.getLsbD_eq_getElem hi]
    · next h => rw [show 24 + (i - 16 - 8) = i by omega, BitVec.getLsbD_eq_getElem hi]

@[simp] theorem length_be16 (x : Half) : (be16 x).length = 2 := rfl
@[simp] theorem length_be32 (x : Long) : (be32 x).length = 4 := rfl

/-- A byte beyond a leading string of bytes. -/
theorem byteAt_append (l r : List Byte) {n : Nat} (i : Nat) (h : l.length = n) : byteAt (l ++ r) (n + i) = byteAt r i := by
  subst h
  simp [byteAt, List.getElem?_append_right]

theorem halfAt_append (l r : List Byte) {n : Nat} (i : Nat) (h : l.length = n) : halfAt (l ++ r) (n + i) = halfAt r i := by
  unfold halfAt
  rw [byteAt_append l r i h, Nat.add_assoc, byteAt_append l r (i + 1) h]

@[simp] theorem halfAt_be16 (x : Half) (r : List Byte) : halfAt (be16 x ++ r) 0 = x := by simp [halfAt, byteAt, be16]

@[simp] theorem longAt_be32 (x : Long) (r : List Byte) : longAt (be32 x ++ r) 0 = x := extract_append_long x

/-! ### A frame read back (R157, R158) -/

theorem length_frameBody (f : Frame) : (frameBody f).length = f.payload.length + 7 := by
  simp [frameBody]; omega

theorem length_frameBytes (f : Frame) : (frameBytes f).length = f.payload.length + 9 := by
  simp [frameBytes, length_frameBody]

/-- The bytes of a frame, from its header on. -/
theorem frameBytes_eq (f : Frame) : frameBytes f = be16 f.dest ++ (be16 f.src ++ ([f.kind, f.seq, BitVec.ofNat 8 f.payload.length]
    ++ (f.payload ++ be16 (crc16 (frameBody f))))) := by
  have hbody : frameBody f = be16 f.dest ++ (be16 f.src ++ ([f.kind, f.seq, BitVec.ofNat 8 f.payload.length] ++ f.payload)) := by
    simp [frameBody]
  rw [frameBytes]
  generalize crc16 (frameBody f) = check
  simp [hbody]

/-- LEN of a frame within the limit is its payload's length. -/
theorem lenOf_frameBytes {f : Frame} (h : f.payload.length ≤ 60) : lenOf (frameBytes f) = f.payload.length := by
  have hb : byteAt (frameBytes f) 6 = BitVec.ofNat 8 f.payload.length := by rw [frameBytes_eq]; rfl
  rw [lenOf, hb, BitVec.toNat_ofNat, Nat.mod_eq_of_lt (by omega)]

theorem not_malformed_frameBytes {f : Frame} (h : f.payload.length ≤ 60) : ¬Malformed (frameBytes f) := by
  simp only [Malformed, length_frameBytes, lenOf_frameBytes h]
  omega

theorem checkHolds_frameBytes {f : Frame} (h : f.payload.length ≤ 60) : CheckHolds (frameBytes f) := by
  have hbody : (frameBytes f).take (f.payload.length + 7) = frameBody f := by
    rw [← length_frameBody f, frameBytes, List.take_left]
  rw [CheckHolds, lenOf_frameBytes h, hbody, frameBytes, ← Nat.add_zero (f.payload.length + 7),
    halfAt_append _ _ 0 (length_frameBody f)]
  simpa using halfAt_be16 (crc16 (frameBody f)) []

theorem spelledFrame_frameBytes {f : Frame} (h : f.payload.length ≤ 60) : spelledFrame (frameBytes f) = f := by
  have hpayload : ((frameBytes f).drop 7).take f.payload.length = f.payload := by
    rw [frameBytes_eq]
    exact List.take_left
  have hsrc : halfAt (frameBytes f) 2 = f.src := by
    rw [frameBytes_eq, ← Nat.add_zero 2, halfAt_append _ _ 0 (length_be16 _), halfAt_be16]
  have hdest : halfAt (frameBytes f) 0 = f.dest := by rw [frameBytes_eq, halfAt_be16]
  have hkind : byteAt (frameBytes f) 4 = f.kind := by rw [frameBytes_eq]; rfl
  have hseq : byteAt (frameBytes f) 5 = f.seq := by rw [frameBytes_eq]; rfl
  rw [spelledFrame, lenOf_frameBytes h, hpayload, hsrc, hdest, hkind, hseq]

/-- Settles O16: LEN, CHECK and the fields are read back one by one. -/
theorem framesAreReadBackFromTheirBytes : Obligations.FramesAreReadBackFromTheirBytes := by
  intro f h
  rw [parseFrame_of_good (not_malformed_frameBytes h) (checkHolds_frameBytes h), spelledFrame_frameBytes h]

/-! ### A row and its bytes (R157, R159, R167) -/

/-- The bytes of a frame within the limit are received as the frame. -/
theorem State.receiveBytes_frameBytes (s : State) {f : Frame} (h : f.payload.length ≤ 60) : s.receiveBytes (frameBytes f) = s.receive f := by
  rw [s.receiveBytes_of_good (not_malformed_frameBytes h) (checkHolds_frameBytes h), spelledFrame_frameBytes h]

/-- A frame row does what its bytes do, when its work is that of the frame's kind wherever the payload is long enough. -/
theorem frameRow_eq_frameRejected {f : Frame} {work : State → State} (s : State) (h : f.payload.length ≤ 60)
    (hwork : ∀ k, takenKind f.kind = some k → k.length ≤ f.payload.length → ∀ t : State, work t = t.deliver k f) :
    Host.Outcome.next (s.frameRow f work) = exec (.frameRejected (frameBytes f)) s := by
  refine congrArg Host.Outcome.next ?_
  have harrive : ∀ t : State, t.arrive f work = t.receive f := by
    intro t
    unfold State.receive State.arrive State.distribute
    split
    · rfl
    · split
      · rfl
      · dsimp only
        split
        · rfl
        · next k hk =>
          split
          · split
            · rfl
            · next hlen => simp only [State.handOver, hk, hwork k hk (Nat.not_lt.mp hlen)]
          · rfl
  unfold State.frameRow State.onRing
  split
  · rfl
  · exact (harrive s).trans (s.receiveBytes_frameBytes h).symm

/-- The same for a row of a kind that the part takes. -/
theorem kindRow_eq_frameRejected {h : Header} {k : TakenKind} {p : List Byte} {work : State → State} (s : State) (hp : p.length ≤ 60)
    (hwork : k.length ≤ p.length → ∀ t : State, work t = t.deliver k (frameOf h k p)) :
    Host.Outcome.next (s.frameRow (frameOf h k p) work) = exec (.frameRejected (frameBytes (frameOf h k p))) s := by
  refine frameRow_eq_frameRejected s hp fun k' hk' => ?_
  rw [frameOf, takenKind_code, Option.some.injEq] at hk'
  exact hk' ▸ hwork

/-- A request row does what its bytes do, when its work is that of the request in the payload. -/
theorem requestRow_eq_frameRejected {h : Header} {p : List Byte} {work : State → Worked} (s : State) (hp : p.length ≤ 60)
    (hwork : 5 ≤ p.length → ∀ t : State, work t = t.workRequest (requestOf p)) :
    Host.Outcome.next (s.requestRow h p work) = exec (.frameRejected (frameBytes (frameOf h .request p))) s := by
  refine kindRow_eq_frameRejected s hp fun hlen t => ?_
  rw [funext (hwork hlen)]
  rfl

@[simp] theorem operationOf_code (o : Operation) : operationOf o.code = some o := by cases o <;> rfl
@[simp] theorem objectOf_code (o : Object) : objectOf o.code = some o := by cases o <;> rfl
@[simp] theorem commandOf_code (c : Command) : commandOf c.code = some c := by cases c <;> rfl

/-- The request of a COMMAND row is its command. -/
theorem State.workRequest_commandPayload (t : State) (c : Command) (arg : Half) (tail : List Byte) :
    t.workRequest (requestOf (commandPayload c arg tail)) = t.command c arg.toNat := by
  have hop : (requestOf (commandPayload c arg tail)).op = Operation.command.code := rfl
  have hobject : (requestOf (commandPayload c arg tail)).object = c.code := rfl
  have hindex : (requestOf (commandPayload c arg tail)).index = arg := extract_append_half arg
  simp [State.workRequest, hop, hobject, hindex]

/-- The request of a WRITE row is its WRITE, refused where the object takes none. -/
theorem State.workRequest_writePayload (t : State) {o : Object} (ho : o.readOnly = false) (index : Half) (field : Byte)
    (values : List Byte) :
    t.workRequest (requestOf (writePayload o index field values)) = t.writeObject o index.toNat field.toNat values := by
  have hop : (requestOf (writePayload o index field values)).op = Operation.write.code := rfl
  have hobject : (requestOf (writePayload o index field values)).object = o.code := rfl
  have hindex : (requestOf (writePayload o index field values)).index = index := extract_append_half index
  have hfield : (requestOf (writePayload o index field values)).field = field := rfl
  have hvalues : (requestOf (writePayload o index field values)).values = values := rfl
  simp [State.workRequest, hop, hobject, hindex, hfield, hvalues, ho]

theorem requestOf_bytes (r : Request) : requestOf r.bytes = r := by
  have hindex : (requestOf r.bytes).index = r.index := extract_append_half r.index
  calc requestOf r.bytes = { requestOf r.bytes with index := r.index } := by rw [← hindex]
    _ = r := rfl

/-- A COMMAND row. -/
theorem commandRow_eq_frameRejected {h : Header} {arg : Half} {tail : List Byte} {work : State → Worked} (s : State) (c : Command)
    (hp : (commandPayload c arg tail).length ≤ 60) (hwork : ∀ t : State, work t = t.command c arg.toNat) :
    Host.Outcome.next (s.requestRow h (commandPayload c arg tail) work)
      = exec (.frameRejected (frameBytes (frameOf h .request (commandPayload c arg tail)))) s :=
  requestRow_eq_frameRejected s hp fun _ t => (hwork t).trans (t.workRequest_commandPayload c arg tail).symm

/-- A WRITE row. -/
theorem writeRow_eq_frameRejected {h : Header} {index : Half} {field : Byte} {values : List Byte} {work : State → Worked} (s : State)
    {o : Object} (ho : o.readOnly = false) (hp : (writePayload o index field values).length ≤ 60)
    (hwork : ∀ t : State, work t = t.writeObject o index.toNat field.toNat values) :
    Host.Outcome.next (s.requestRow h (writePayload o index field values) work)
      = exec (.frameRejected (frameBytes (frameOf h .request (writePayload o index field values)))) s :=
  requestRow_eq_frameRejected s hp fun _ t => (hwork t).trans (t.workRequest_writePayload ho index field values).symm

/-- The bytes of the slots of a POT-SAMPLE, from slot `i` on. -/
theorem drop_slotBytes (l : List SlotReading) (extra : List Byte) :
    ∀ i (h : i < l.length), ∃ rest, (l.flatMap SlotReading.bytes ++ extra).drop (3 * i) = (SlotReading.bytes l[i]) ++ rest := by
  induction l with
  | nil => exact fun i h => absurd h (Nat.not_lt_zero i)
  | cons r l ih =>
    intro i h
    cases i with
    | zero => exact ⟨l.flatMap SlotReading.bytes ++ extra, by simp⟩
    | succ i =>
      obtain ⟨rest, hrest⟩ := ih i (by simpa using h)
      refine ⟨rest, ?_⟩
      have hlen : (SlotReading.bytes r).length = 3 := rfl
      rw [List.flatMap_cons, List.append_assoc, List.drop_append, hlen, List.drop_eq_nil_of_le (by omega), List.nil_append,
        show 3 * (i + 1) - 3 = 3 * i by omega, hrest, List.getElem_cons_succ]

theorem byteAt_drop (bs : List Byte) (n i : Nat) : byteAt bs (n + i) = byteAt (bs.drop n) i := by
  simp [byteAt, List.getD_eq_getElem?_getD, List.getElem?_drop]

theorem slotsOf_potSamplePayload (time : Long) (slots : Vector SlotReading 8) (extra : List Byte) :
    slotsOf (potSamplePayload time slots extra) = slots := by
  ext i hi : 1
  obtain ⟨rest, hrest⟩ := drop_slotBytes slots.toList extra i (by simpa using hi)
  have hdrop : (potSamplePayload time slots extra).drop (4 + 3 * i) = SlotReading.bytes slots[i] ++ rest := by
    rw [← List.drop_drop, potSamplePayload, List.append_assoc]
    exact hrest
  have hbyte : ∀ j, byteAt (potSamplePayload time slots extra) (4 + 3 * i + j) = byteAt (SlotReading.bytes slots[i] ++ rest) j := fun j => by
    rw [byteAt_drop, hdrop]
  have hv : halfAt (potSamplePayload time slots extra) (4 + 3 * i) = slots[i].voltage := by
    have hzero := hbyte 0
    rw [Nat.add_zero] at hzero
    rw [halfAt, hbyte 1, hzero]
    exact extract_append_half _
  have hm : byteAt (potSamplePayload time slots extra) (6 + 3 * i) = slots[i].marker := by
    rw [show 6 + 3 * i = 4 + 3 * i + 2 by omega, hbyte 2]
    rfl
  simp only [slotsOf, Vector.getElem_ofFn]
  rw [hv, hm]

/-- Settles O17: the fields of each row are read back from its payload, so that its work is that of the frame's kind. -/
theorem rowsDoWhatTheirBytesDo : Obligations.RowsDoWhatTheirBytesDo := by
  intro c f s hc hp
  cases c with
  | framePassing f' | unknownKind f' =>
    cases hc
    exact frameRow_eq_frameRejected s hp fun k hk _ t => by simp only [State.handOver, hk]
  | potSample h time slots extra =>
    cases hc
    refine kindRow_eq_frameRejected s hp fun _ t => ?_
    simp only [State.deliver, frameOf, slotsOf_potSamplePayload]
  | lineSample h time il vl extra =>
    cases hc
    refine kindRow_eq_frameRejected s hp fun _ t => ?_
    have hil : halfAt (lineSamplePayload time il vl extra) 4 = il := extract_append_half il
    have hvl : halfAt (lineSamplePayload time il vl extra) 6 = vl := extract_append_half vl
    simp only [State.deliver, frameOf, hil, hvl]
  | timeMark h day ms extra =>
    cases hc
    refine kindRow_eq_frameRejected s hp fun _ t => ?_
    have hday : halfAt (timeMarkPayload day ms extra) 0 = day := extract_append_half day
    have hms : longAt (timeMarkPayload day ms extra) 2 = ms := extract_append_long ms
    simp only [State.deliver, frameOf, hday, hms]
  | groupStatusFull h mode current tap echo tout tsink flow extra =>
    cases hc
    refine kindRow_eq_frameRejected s hp fun _ t => ?_
    have hcurrent : halfAt (statusFullPayload mode current tap echo tout tsink flow extra) 1 = current := extract_append_half current
    have hecho : halfAt (statusFullPayload mode current tap echo tout tsink flow extra) 4 = echo := extract_append_half echo
    have htout : halfAt (statusFullPayload mode current tap echo tout tsink flow extra) 6 = tout := extract_append_half tout
    have htsink : halfAt (statusFullPayload mode current tap echo tout tsink flow extra) 8 = tsink := extract_append_half tsink
    have hflow : halfAt (statusFullPayload mode current tap echo tout tsink flow extra) 10 = flow := extract_append_half flow
    simp only [State.deliver, frameOf, hcurrent, hecho, htout, htsink, hflow]
    rfl
  | groupStatusShort h mode current tap extra =>
    cases hc
    refine kindRow_eq_frameRejected s hp fun _ t => ?_
    have hcurrent : halfAt (statusShortPayload mode current tap extra) 1 = current := extract_append_half current
    simp only [State.deliver, frameOf, hcurrent]
    rfl
  | groupAnswer h result setpoint extra =>
    cases hc
    refine kindRow_eq_frameRejected s hp fun _ t => ?_
    have hsetpoint : halfAt (groupAnswerPayload result setpoint extra) 1 = setpoint := extract_append_half setpoint
    simp only [State.deliver, frameOf, hsetpoint]
    rfl
  | groupProbe | watch | unwatch | takeLocal | returnRemote =>
    cases hc
    exact kindRow_eq_frameRejected s hp fun _ t => rfl
  | potAnswer | coolerStatus =>
    cases hc
    exact kindRow_eq_frameRejected s hp fun _ t => rfl
  | calendarEntry h index slot valid cls rate limit extra =>
    cases hc
    refine kindRow_eq_frameRejected s hp fun _ t => ?_
    have hindex : halfAt (calendarEntryPayload index slot valid cls rate limit extra) 0 = index := extract_append_half index
    have hslot : halfAt (calendarEntryPayload index slot valid cls rate limit extra) 2 = slot := extract_append_half slot
    have hrate : longAt (calendarEntryPayload index slot valid cls rate limit extra) 6 = rate := extract_append_long rate
    have hlimit : longAt (calendarEntryPayload index slot valid cls rate limit extra) 10 = limit := extract_append_long limit
    simp only [State.deliver, frameOf, hindex, hslot, hrate, hlimit]
    rfl
  | start | restart | stop | claim | release | setFull | profilePlay | profileHold | profileResume | profileStop | lineRestart
  | cacheInvalidate | energyRelease | clearError | ackEvents =>
    cases hc
    exact commandRow_eq_frameRejected s _ hp fun _ => rfl
  | mgmtWrite h op object index field values =>
    cases hc
    refine requestRow_eq_frameRejected s hp fun _ t => ?_
    rw [requestOf_bytes]
  | potWrite | potEnable | potDisable | automaticQuenchWrite | hlWrite | aeHoldLimitWrite | groupPresentWrite | nodeAddressWrite
  | stepLatchWrite | stepClockWrite | stageWrite | eventsWrite | mgmtAddressWrite =>
    cases hc
    exact writeRow_eq_frameRejected s rfl hp fun _ => rfl
  | _ => cases hc

end Sys2Proof.Machine
end

section
/-! The statements on the queue of commands, the expiries and the reset line. -/

namespace Sys2Proof.Machine

/-! ### The front of the queue -/

/-- Settles O1: the step is defined by the front of the queue. -/
theorem stepTakesFrontCommand : Obligations.StepTakesFrontCommand := by
  intro c rest s h
  simp only [step, h]

/-! ### Expiries (log 1 to 3) -/

theorem mem_rowsFor {n : Nat} {due : Fin n → Bool} {row : Fin n → Instr} {b : Bool} {c : Instr} :
    (b, c) ∈ rowsFor due row ↔ ∃ k, due k = b ∧ row k = c := by
  simp [rowsFor]

/-- The table of expiries, row by row of part 11 (log 3). -/
def State.expiryRows (s : State) : List (List (Bool × Instr)) :=
  [[(s.deferralDue, .deferralTimerExpiry)], rowsFor s.potLostDue .potLost, rowsFor s.inhibitEndDue .inhibitEnd,
    rowsFor s.adviceExpiryDue .adviceExpiry, rowsFor s.qualificationDue .qualificationEnd,
    rowsFor (fun p => s.quenchReady (s.pot p)) .quenchDue, rowsFor s.quenchTimeoutDue .quenchTimeout, rowsFor s.clearEndDue .clearEnd,
    [(s.tripDue, .lineTrip)], [(s.stepEndDue, .stepEnd)], rowsFor s.stepTimerDue .stepTimer, rowsFor s.orderTimeoutDue .groupOrderTimeout,
    rowsFor s.holdingDue .groupHolding, rowsFor s.silentDue .groupSilent, [(s.stageUpDue, .stageUp)], [(s.stageDownDue, .stageDown)],
    [(s.coolerDue, .coolerNoResponse)], [(s.slotEndDue, .slotEnd)], [(s.prefetchDue, .prefetch)], rowsFor s.fetchDue .fetchTimeout,
    [(s.takeoverDue, .takeover)], [(s.dayEndDue, .stationDayEnd)]]

theorem State.expiries_eq_flatten (s : State) : s.expiries = s.expiryRows.flatten := by
  simp [State.expiries, State.expiryRows]

/-- A row stands in the table of expiries beside its own due test, and changes nothing while that is clear (log 2). -/
def State.standsInTable (s : State) (e : Bool × Instr) : Prop := e.1 = s.rowDue e.2 ∧ (e.1 = false → exec e.2 s = .next s)

theorem State.standsInTable_row {s : State} {due : Bool} {c : Instr} {t : State} (hdue : due = s.rowDue c) (hexec : exec c s = s.expire due t) :
    ∀ e ∈ [(due, c)], s.standsInTable e := by
  intro e he
  rw [List.mem_singleton.mp he]
  exact ⟨hdue, fun hoff => hexec.trans (congrArg Host.Outcome.next (if_neg fun hd => Bool.false_ne_true (hoff.symm.trans hd.2)))⟩

theorem State.standsInTable_rows {s : State} {n : Nat} {due : Fin n → Bool} {row : Fin n → Instr} {t : Fin n → State}
    (hdue : ∀ k, due k = s.rowDue (row k)) (hexec : ∀ k, exec (row k) s = s.expire (due k) (t k)) :
    ∀ e ∈ rowsFor due row, s.standsInTable e := by
  intro e he
  obtain ⟨k, hb, hc⟩ := mem_rowsFor.mp he
  exact State.standsInTable_row ((hb.symm.trans (hdue k)).trans (congrArg s.rowDue hc))
    ((congrArg (fun c => exec c s) hc.symm).trans ((hexec k).trans (congrArg (fun b => s.expire b (t k)) hb))) e (List.mem_singleton_self _)

theorem State.standsInTable_of_mem {s : State} {e : Bool × Instr} (h : e ∈ s.expiries) : s.standsInTable e := by
  rw [State.expiries_eq_flatten] at h
  obtain ⟨l, hl, he⟩ := List.mem_flatten.mp h
  have cons : ∀ {l : List (Bool × Instr)} {rest}, (∀ e ∈ l, s.standsInTable e) → (∀ l ∈ rest, ∀ e ∈ l, s.standsInTable e)
      → ∀ l' ∈ l :: rest, ∀ e ∈ l', s.standsInTable e := fun h1 h2 => List.forall_mem_cons.mpr ⟨h1, h2⟩
  have row : ∀ {due c t}, due = s.rowDue c → exec c s = s.expire due t → ∀ e ∈ [(due, c)], s.standsInTable e := State.standsInTable_row
  have rows : ∀ {n : Nat} {due : Fin n → Bool} {row} {t : Fin n → State}, (∀ k, due k = s.rowDue (row k)) → (∀ k, exec (row k) s = s.expire (due k) (t k))
      → ∀ e ∈ rowsFor due row, s.standsInTable e := State.standsInTable_rows
  have htable : ∀ l ∈ s.expiryRows, ∀ e ∈ l, s.standsInTable e := cons (row rfl rfl) (cons (rows (fun _ => rfl) fun _ => rfl) (cons (rows (fun _ => rfl) fun _ => rfl)
    (cons (rows (fun _ => rfl) fun _ => rfl) (cons (rows (fun _ => rfl) fun _ => rfl) (cons (rows (fun _ => rfl) fun _ => rfl)
    (cons (rows (fun _ => rfl) fun _ => rfl) (cons (rows (fun _ => rfl) fun _ => rfl) (cons (row rfl rfl) (cons (row rfl rfl)
    (cons (rows (fun _ => rfl) fun _ => rfl) (cons (rows (fun _ => rfl) fun _ => rfl) (cons (rows (fun _ => rfl) fun _ => rfl)
    (cons (rows (fun _ => rfl) fun _ => rfl) (cons (row rfl rfl) (cons (row rfl rfl) (cons (row rfl rfl) (cons (row rfl rfl)
    (cons (row rfl rfl) (cons (rows (fun _ => rfl) fun _ => rfl) (cons (row rfl rfl) (cons (row rfl rfl)
    (List.forall_mem_nil _))))))))))))))))))))))
  exact htable l hl e he

/-- Every row that is due stands in the table. -/
theorem State.mem_expiries_of_rowDue {s : State} {c : Instr} (h : s.rowDue c = true) : (true, c) ∈ s.expiries := by
  suffices hstands : ∃ i : Nat, ∃ l, s.expiryRows[i]? = some l ∧ (true, c) ∈ l by
    obtain ⟨i, l, hl, hmem⟩ := hstands
    rw [State.expiries_eq_flatten]
    exact List.mem_flatten.mpr ⟨l, List.mem_of_getElem? hl, hmem⟩
  have hrow : ∀ {n : Nat} (due : Fin n → Bool) (row : Fin n → Instr) {k : Fin n}, due k = true → (true, row k) ∈ rowsFor due row :=
    fun _ _ k hk => mem_rowsFor.mpr ⟨k, hk, rfl⟩
  have hone : ∀ {due : Bool} {row : Instr}, due = true → (true, row) ∈ [(due, row)] := fun hdue => hdue ▸ List.mem_singleton_self _
  cases c with
  | deferralTimerExpiry => exact ⟨0, _, rfl, hone h⟩
  | potLost k => exact ⟨1, _, rfl, hrow _ _ h⟩
  | inhibitEnd k => exact ⟨2, _, rfl, hrow _ _ h⟩
  | adviceExpiry k => exact ⟨3, _, rfl, hrow _ _ h⟩
  | qualificationEnd k => exact ⟨4, _, rfl, hrow _ _ h⟩
  | quenchDue k => exact ⟨5, _, rfl, hrow (fun p => s.quenchReady (s.pot p)) _ h⟩
  | quenchTimeout k => exact ⟨6, _, rfl, hrow _ _ h⟩
  | clearEnd k => exact ⟨7, _, rfl, hrow _ _ h⟩
  | lineTrip => exact ⟨8, _, rfl, hone h⟩
  | stepEnd => exact ⟨9, _, rfl, hone h⟩
  | stepTimer k => exact ⟨10, _, rfl, hrow _ _ h⟩
  | groupOrderTimeout k => exact ⟨11, _, rfl, hrow _ _ h⟩
  | groupHolding k => exact ⟨12, _, rfl, hrow _ _ h⟩
  | groupSilent k => exact ⟨13, _, rfl, hrow _ _ h⟩
  | stageUp => exact ⟨14, _, rfl, hone h⟩
  | stageDown => exact ⟨15, _, rfl, hone h⟩
  | coolerNoResponse => exact ⟨16, _, rfl, hone h⟩
  | slotEnd => exact ⟨17, _, rfl, hone h⟩
  | prefetch => exact ⟨18, _, rfl, hone h⟩
  | fetchTimeout k => exact ⟨19, _, rfl, hrow _ _ h⟩
  | takeover => exact ⟨20, _, rfl, hone h⟩
  | stationDayEnd => exact ⟨21, _, rfl, hone h⟩
  | _ => exact absurd h Bool.false_ne_true

theorem State.dueEvent_eq_none_iff (s : State) : s.dueEvent = none ↔ ∀ c, s.rowDue c = false := by
  simp only [State.dueEvent, Option.map_eq_none_iff, List.find?_eq_none, Bool.not_eq_true]
  constructor
  · intro h c
    by_contra hc
    exact absurd (h _ (State.mem_expiries_of_rowDue (by simpa using hc))) (by simp)
  · intro h e he
    exact (State.standsInTable_of_mem he).1.trans (h _)

/-- The expiry that is taken is due, and stands before every other that is. -/
theorem State.dueEvent_eq_some {s : State} {c : Instr} (h : s.dueEvent = some c) :
    s.rowDue c = true ∧ ∃ before after, s.expiries = before ++ (true, c) :: after ∧ ∀ e ∈ before, s.rowDue e.2 = false := by
  obtain ⟨⟨b, c'⟩, hfind, rfl⟩ := Option.map_eq_some_iff.mp h
  obtain ⟨rfl, before, after, hsplit, hbefore⟩ := List.find?_eq_some_iff_append.mp hfind
  refine ⟨?_, before, after, hsplit, fun e he => ?_⟩
  · exact (State.standsInTable_of_mem (s := s) (e := (true, c')) (by rw [hsplit]; simp)).1.symm
  · have hmem : e ∈ s.expiries := by rw [hsplit]; simp [he]
    rw [← (State.standsInTable_of_mem hmem).1]
    simpa using hbefore e he

/-- The groups after 1 ms: the counters whose clock ticks count down (R93). -/
theorem State.group_tick (s : State) (g : Fin 8) : s.tick.group g = (s.group g).countDown (s.time + 1) := by
  simp [State.tick, State.group]

/-- Settles O2: the table of expiries holds each row beside its due test, and what is left is the definition of the tick. -/
theorem emptyQueueTakesExpiryOrPassesOneMs : Obligations.EmptyQueueTakesExpiryOrPassesOneMs := by
  refine ⟨fun s => ⟨s.dueEvent_eq_none_iff, fun c => State.dueEvent_eq_some, fun b c hmem => ?_⟩, fun s hs => ?_⟩
  · exact State.standsInTable_of_mem hmem
  · have hidle : step s = s.idle := by simp only [step, hs]
    refine ⟨fun hr => ?_, fun c hr hc => ?_, fun hr hnone => ⟨s.tick, ?_, rfl, ?_, ?_, ?_, ?_, rfl⟩⟩
    · rw [hidle, State.idle, if_pos hr]
    · rw [hidle, State.idle, hr, hc]
      rfl
    · rw [hidle, State.idle, hr, hnone]
      rfl
    · intro hc
      simp [State.tick, hc]
    · intro day ms hc hms
      simp [State.tick, hc, Clock.tick, Clock.normal, Config.dayMs, hms]
    · intro day hc
      simp [State.tick, hc, Clock.tick, Clock.normal, Config.dayMs]
    · exact fun g => s.group_tick g

/-! ### The reset line (R176) -/

/-- While the reset line is low a frame is repeated onto ring-out. -/
theorem State.onRing_of_low {s : State} (hs : s.resetLow = true) (bytes : List Byte) (work : State → State) :
    s.onRing bytes work = { s with port.ringOut := some bytes } := by
  simp [State.onRing, hs]

theorem State.frameRow_of_low {s : State} (hs : s.resetLow = true) (f : Frame) (work : State → State) :
    s.frameRow f work = { s with port.ringOut := some (frameBytes f) } := s.onRing_of_low hs _ _

theorem State.requestRow_of_low {s : State} (hs : s.resetLow = true) (h : Header) (p : List Byte) (work : State → Worked) :
    s.requestRow h p work = { s with port.ringOut := some (frameBytes (frameOf h .request p)) } := s.frameRow_of_low hs _ _

/-- While the reset line is low no expiry is taken (log 6). -/
theorem State.expire_of_low {s : State} (hs : s.resetLow = true) (due : Bool) (effect : State) : s.expire due effect = .next s := by
  simp [State.expire, hs]

/-- Settles O4: by the kind of row. -/
theorem resetLineBypassesAndReleases : Obligations.ResetLineBypassesAndReleases := by
  refine ⟨fun c s hs hlow hrelease => ?_, fun s => rfl, fun straps s hs => ?_, fun straps s hs => ?_⟩
  · cases c with
    | resetLow => exact absurd rfl hlow
    | resetRelease straps => exact absurd rfl (hrelease straps)
    | frameRejected bytes => exact congrArg Host.Outcome.next (s.onRing_of_low hs _ _)
    | framePassing | unknownKind | potSample | lineSample | timeMark | groupStatusFull | groupStatusShort | groupAnswer | groupProbe
    | watch | unwatch | takeLocal | returnRemote | potAnswer | coolerStatus | calendarEntry =>
      exact congrArg Host.Outcome.next (s.frameRow_of_low hs _ _)
    | ringOutSend => exact congrArg Host.Outcome.next (if_pos hs)
    | deferralTimerExpiry | potLost | inhibitEnd | adviceExpiry | qualificationEnd | quenchDue | quenchTimeout | clearEnd | lineTrip
    | stepEnd | stepTimer | groupOrderTimeout | groupHolding | groupSilent | stageUp | stageDown | coolerNoResponse | slotEnd
    | prefetch | fetchTimeout | takeover | stationDayEnd => exact s.expire_of_low hs _ _
    | start | restart | stop | claim | release | setFull | profilePlay | profileHold | profileResume | profileStop | lineRestart
    | cacheInvalidate | energyRelease | clearError | ackEvents | mgmtWrite | potWrite | potEnable | potDisable | automaticQuenchWrite
    | hlWrite | aeHoldLimitWrite | groupPresentWrite | nodeAddressWrite | stepLatchWrite | stepClockWrite | stageWrite | eventsWrite
    | mgmtAddressWrite => exact congrArg Host.Outcome.next (s.requestRow_of_low hs _ _ _)
  · refine ⟨{ State.powerOn straps with pending := s.pending }, congrArg Host.Outcome.next (if_pos hs), rfl, rfl, ?_, rfl, rfl, rfl, rfl,
      rfl, rfl⟩
    have hstraps := straps.isLt
    simp only [State.powerOn, Config.addressBase]
    bv_omega
  · exact congrArg Host.Outcome.next (if_neg (by simp [hs]))

end Sys2Proof.Machine
end

section
/-! The statements on the ring port: what is not read is forwarded or counted (R159, R160), the arbiters of ring-out (R163) and of admission
(R161), the report buffer and its timer (R164, R165), and raised events (R171). -/

namespace Sys2Proof.Machine

/-! ### Frames that are not read (R159, R160) -/

/-- A kind is found by its code alone. -/
theorem takenKind_eq_some_iff {code : Byte} {k : TakenKind} : takenKind code = some k ↔ code = k.code := by
  constructor
  · intro h
    exact (beq_iff_eq.mp (List.find?_some (p := fun k : TakenKind => k.code == code) h)).symm
  · rintro rfl
    exact takenKind_code k

theorem takenKind_eq_none_iff {code : Byte} : takenKind code = none ↔ ∀ k : TakenKind, code ≠ k.code := by
  rw [Option.eq_none_iff_forall_ne_some]
  exact forall_congr' fun k => not_congr takenKind_eq_some_iff

/-- A frame of another SRC, within the limit, is forwarded or consumed (R158, R159). -/
theorem State.receive_of_foreign {s : State} {f : Frame} (hlen : f.payload.length ≤ 60) (hsrc : f.src ≠ s.address) :
    s.receive f = s.distribute f fun t => t.handOver f := by
  simp [State.receive, State.arrive, Config.payloadMax, Nat.not_lt.mpr hlen, hsrc]

theorem State.passOn_of_passing {s : State} {f : Frame} (h : f.dest ≠ s.address) : s.passOn f = s.forward f := if_neg h

theorem State.passOn_of_addressed {s : State} {f : Frame} (h : f.dest = s.address) : s.passOn f = s := if_pos h

/-- The forward queue takes a frame, or counts one that it has no place for (R160). -/
theorem State.forward_eq (s : State) (f : Frame) : s.forward f =
    if s.port.forward.length < 4 then { s with port.forward := s.port.forward ++ [f] }
    else { s with port.counters.forwardOverrun := bump32 s.port.counters.forwardOverrun } := by
  by_cases h : s.port.forward.length < 4
  · rw [if_pos h, State.forward, Port.forwardFrame, Config.forwardPlaces, if_pos h]
  · rw [if_neg h, State.forward, Port.forwardFrame, Config.forwardPlaces, if_neg h]

theorem exec_unknownKind_of_high {s : State} (hs : s.resetLow = false) (f : Frame) :
    exec (.unknownKind f) s = .next (s.receive f) := exec_framePassing_of_high hs f

/-- Settles O19: by what the kind of the frame is, and where the frame is for. -/
theorem unreadFramesAreForwardedOrCounted : Obligations.UnreadFramesAreForwardedOrCounted := by
  intro f s hs hsrc hlen forwarded short
  have hforward : s.forward f = forwarded := s.forward_eq f
  rw [exec_framePassing_of_high hs, exec_unknownKind_of_high hs, State.receive_of_foreign hlen hsrc]
  refine ⟨fun hdest hkind => ?_, fun hdest k ⟨hk, hshort⟩ hpass => ?_, fun hdest hkind => ?_, fun hdest k ⟨hk, hshort⟩ => ?_⟩
  · rw [State.distribute, State.passOn_of_passing hdest, hforward]
    split
    · rw [if_neg hdest]
    · next k hk => rw [if_neg (by simp [hdest, hkind k (takenKind_eq_some_iff.mp hk)])]
  · rw [State.distribute, State.passOn_of_passing hdest, hforward, hk, takenKind_code]
    simp only [hpass, or_true, if_true, if_pos hshort]
    rfl
  · rw [State.distribute, State.passOn_of_addressed hdest, takenKind_eq_none_iff.mpr hkind]
    simp only [if_pos hdest]
    rfl
  · rw [State.distribute, State.passOn_of_addressed hdest, hk, takenKind_code]
    simp only [hdest, true_or, if_true, if_pos hshort]
    rfl

/-! ### The ring-out arbiter (R163) -/

/-- Settles O20: by the two queues and the wait count. -/
theorem ringOutSendsByWaitCount : Obligations.RingOutSendsByWaitCount := by
  intro s hs
  have hexec : exec .ringOutSend s = .next s.sendNext := congrArg Host.Outcome.next (if_neg (by simp [hs]))
  rw [hexec]
  refine ⟨fun hf hi => ?_, fun f rest hf h => ?_, fun g rest hi h => ?_⟩
  · simp only [State.sendNext, hf, hi]
  · cases hi : s.port.insert with
    | nil => simp only [State.sendNext, hf, hi, Port.sendForward, List.isEmpty_nil, if_true]
    | cons g restI =>
      have hwait : s.port.waitCount < 2 := h.resolve_left (by simp [hi])
      simp only [State.sendNext, hf, hi, if_pos hwait, Port.sendForward, List.isEmpty_cons, Bool.false_eq_true, if_false,
        reduceCtorEq]
  · cases hf : s.port.forward with
    | nil => simp only [State.sendNext, hf, hi, Port.sendInsert]
    | cons f restF =>
      have hwait : ¬s.port.waitCount < 2 := Nat.not_lt.mpr (h.resolve_left (by simp [hf]))
      simp only [State.sendNext, hf, hi, if_neg hwait, Port.sendInsert]

/-! ### The report buffer (R164) -/

theorem EventRecord.isInfo_iff (r : EventRecord) : r.isInfo = true ↔ r.kind.level = .info := by simp [EventRecord.isInfo]

/-- Settles O22: by the room in the buffer and the level of the record. -/
theorem eventRecordsEnterTheBuffer : Obligations.EventRecordsEnterTheBuffer := by
  intro p now r
  refine ⟨fun hroom => ?_, fun hfull hinfo => ?_, fun before x after hfull hr hsplit hbefore hx => ?_, fun hfull hr hnone => ?_⟩
  · exact if_pos hroom
  · have hi : r.isInfo = true := r.isInfo_iff.mpr hinfo
    simp [Port.record, Config.recordPlaces, Nat.not_lt.mpr hfull, hi, PortCounters.drop, hinfo]
  · have hi : r.isInfo = false := by simpa [EventRecord.isInfo] using hr
    have hany : p.buffer.any EventRecord.isInfo = true := by simp [hsplit, (x.isInfo_iff).mpr hx]
    have herase : p.buffer.eraseP EventRecord.isInfo = before ++ after := by
      rw [hsplit, List.eraseP_append_right _ (fun y hy => by simpa [EventRecord.isInfo] using hbefore y hy),
        List.eraseP_cons_of_pos ((x.isInfo_iff).mpr hx)]
    simp [Port.record, Config.recordPlaces, Nat.not_lt.mpr hfull, hi, hany, herase, Port.append, Config.deferralTime,
      PortCounters.drop]
  · have hany : p.buffer.any EventRecord.isInfo = false := by
      simpa [EventRecord.isInfo] using hnone
    simp [Port.record, Config.recordPlaces, Nat.not_lt.mpr hfull, hany]

/-! ### Admission (R161) -/

/-- A source that may place a frame has one, and there is a place (R161). -/
theorem State.mayEnter_iff (s : State) (src : Source) : s.mayEnter src = true ↔
    s.port.insert.length < 32 ∧ s.offers src = true ∧ (src = .report → s.port.reports < 24) := by
  simp only [State.mayEnter, Bool.and_eq_true, decide_eq_true_eq, Bool.or_eq_true, bne_iff_ne, and_assoc, ne_eq, ← imp_iff_not_or]
  exact Iff.rfl

/-- A source that offers a frame enters one (R161). -/
theorem State.enterFrom_insert {s : State} {src : Source} (h : s.offers src = true) :
    ∃ f, (s.enterFrom src).port.insert = s.port.insert ++ [f] := by
  cases src with
  | report => exact ⟨_, rfl⟩
  | meu =>
    simp only [State.offers, Bool.not_eq_true', List.isEmpty_eq_false_iff] at h
    obtain ⟨f, rest, hl⟩ := List.exists_cons_of_ne_nil h
    exact ⟨f, by simp only [State.enterFrom, hl, Port.enter]⟩
  | gau =>
    simp only [State.offers, Bool.and_eq_true, Bool.not_eq_true', List.isEmpty_eq_false_iff] at h
    obtain ⟨⟨tag, f⟩, rest, hl⟩ := List.exists_cons_of_ne_nil h.2
    cases tag <;> exact ⟨_, by simp only [State.enterFrom, hl]; rfl⟩
  | psu =>
    simp only [State.offers, Bool.and_eq_true, Bool.not_eq_true', List.isEmpty_eq_false_iff] at h
    obtain ⟨⟨p, f⟩, rest, hl⟩ := List.exists_cons_of_ne_nil h.2
    exact ⟨f, by simp only [State.enterFrom, hl, Port.enter]⟩
  | tru =>
    simp only [State.offers, Bool.and_eq_true, Bool.not_eq_true', List.isEmpty_eq_false_iff] at h
    obtain ⟨f, rest, hl⟩ := List.exists_cons_of_ne_nil h.2
    exact ⟨f, by simp only [State.enterFrom, hl, Port.enter]⟩
  | clu =>
    simp only [State.offers, Bool.and_eq_true] at h
    obtain ⟨f, hf⟩ := Option.isSome_iff_exists.mp h.2
    exact ⟨f, by simp only [State.enterFrom, hf, Port.enter]⟩

/-- The source that is next may place a frame. -/
theorem State.mayEnter_of_nextSource {s : State} {src : Source} (h : s.nextSource = some src) : s.mayEnter src = true :=
  List.find?_some h

/-- One round of the arbiter: a frame enters, and the pointer moves past its source (R161). -/
def State.round (s : State) (src : Source) : State := { s.enterFrom src with port.pointer := src.next }

theorem State.arbitrate_succ {s : State} {src : Source} (h : s.nextSource = some src) (n : Nat) :
    s.arbitrate (n + 1) = (s.round src).arbitrate n := by
  rw [State.arbitrate, h]
  rfl

theorem State.round_insert {s : State} {src : Source} (h : s.offers src = true) :
    ∃ f, (s.round src).port.insert = s.port.insert ++ [f] := State.enterFrom_insert h

/-- A round takes a place, so that enough rounds leave nothing to place. -/
theorem State.arbitrate_settled (n : Nat) : ∀ s : State, 32 ≤ s.port.insert.length + n → (s.arbitrate n).Settled := by
  induction n with
  | zero =>
    intro s hn
    rw [State.arbitrate, State.settled_iff]
    intro src
    have hfull : ¬s.port.insert.length < 32 := by omega
    simp [State.mayEnter, Config.insertPlaces, hfull]
  | succ n ih =>
    intro s hn
    cases hnext : s.nextSource with
    | none => rwa [State.arbitrate_of_settled hnext]
    | some src =>
      obtain ⟨f, hf⟩ := State.round_insert ((s.mayEnter_iff src).mp (State.mayEnter_of_nextSource hnext)).2.1
      rw [State.arbitrate_succ hnext]
      exact ih _ (by rw [hf, List.length_append, List.length_singleton]; omega)

/-- After the arbiter has worked, no source has a frame that it may place (R161). -/
theorem State.settled_settle (s : State) : s.settle.Settled := s.arbitrate_settled 32 (by omega)

/-- A round more than is enough changes nothing. -/
theorem State.arbitrate_succ_of_settled (n : Nat) : ∀ {s : State}, (s.arbitrate n).Settled → s.arbitrate (n + 1) = s.arbitrate n := by
  induction n with
  | zero => exact fun h => State.arbitrate_of_settled h 1
  | succ n ih =>
    intro s h
    cases hnext : s.nextSource with
    | none => rw [State.arbitrate_of_settled hnext, State.arbitrate_of_settled hnext]
    | some src =>
      rw [State.arbitrate_succ hnext] at h
      rw [State.arbitrate_succ hnext, State.arbitrate_succ hnext, ih h]

/-- Settling is a round and settling, while a source has a frame that it may place. -/
theorem State.settle_eq_round {s : State} {src : Source} (h : s.nextSource = some src) : s.settle = (s.round src).settle := by
  obtain ⟨f, hf⟩ := State.round_insert ((s.mayEnter_iff src).mp (State.mayEnter_of_nextSource h)).2.1
  have hn : (State.arbitrate 31 (s.round src)).Settled :=
    State.arbitrate_settled 31 _ (by rw [hf, List.length_append, List.length_singleton]; omega)
  calc s.settle = (s.round src).arbitrate 31 := State.arbitrate_succ h 31
    _ = (s.round src).settle := (State.arbitrate_succ_of_settled 31 hn).symm

/-- The insert queue only grows at its tail, and not past 32 frames (R161). -/
theorem State.arbitrate_insert (n : Nat) : ∀ s : State, (∃ frames, (s.arbitrate n).port.insert = s.port.insert ++ frames)
    ∧ (s.arbitrate n).port.insert.length ≤ max 32 s.port.insert.length := by
  induction n with
  | zero => exact fun s => ⟨⟨[], (List.append_nil _).symm⟩, le_max_right _ _⟩
  | succ n ih =>
    intro s
    cases hnext : s.nextSource with
    | none =>
      rw [State.arbitrate_of_settled hnext]
      exact ⟨⟨[], (List.append_nil _).symm⟩, le_max_right _ _⟩
    | some src =>
      obtain ⟨hroom, hoffers, -⟩ := (s.mayEnter_iff src).mp (State.mayEnter_of_nextSource hnext)
      obtain ⟨f, hf⟩ := State.round_insert hoffers
      obtain ⟨⟨frames, hframes⟩, hlen⟩ := ih (s.round src)
      rw [State.arbitrate_succ hnext]
      rw [hf] at hframes hlen
      refine ⟨⟨f :: frames, by simp [hframes]⟩, ?_⟩
      rw [List.length_append, List.length_singleton] at hlen
      omega

/-- Where one source alone may place a frame, and offers none after it, settling is one round (R161). -/
theorem State.settle_of_only {t : State} {src : Source} (hmay : t.mayEnter src = true) (honly : ∀ x, x ≠ src → t.mayEnter x = false)
    (hlast : (t.enterFrom src).offers src = false) (hrest : ∀ x, x ≠ src → (t.enterFrom src).offers x = t.offers x) :
    t.settle = t.round src := by
  obtain ⟨hroom, hoffers, -⟩ := (t.mayEnter_iff src).mp hmay
  obtain ⟨f, hf⟩ := State.enterFrom_insert hoffers
  rw [State.settle_eq_round (State.nextSource_of_only hmay honly)]
  refine State.settle_of_settled ((State.settled_iff _).mpr fun x => ?_)
  have hoff : ∀ x, (t.round src).offers x = (t.enterFrom src).offers x := fun x => by cases x <;> rfl
  have hinsert : (t.round src).port.insert = t.port.insert ++ [f] := hf
  by_cases hx : x = src
  · subst hx
    simp [State.mayEnter, hoff, hlast]
  · by_contra hc
    obtain ⟨-, hoffx, hreports⟩ := ((t.round src).mayEnter_iff x).mp (by simpa using hc)
    rw [hoff, hrest x hx] at hoffx
    refine absurd ((t.mayEnter_iff x).mpr ⟨hroom, hoffx, fun hr => ?_⟩) (by simp [honly x hx])
    have := hreports hr
    rw [Port.reports, hinsert, List.countP_append] at this
    exact Nat.lt_of_le_of_lt (Nat.le_add_right _ _) this

/-! ### The statement on admission (R161, R162, R165) -/

theorem Port.enter_eq (p : Port) (f : Frame) :
    p.enter f = { p with insert := p.insert ++ [f], waitCount := if p.insert = [] then 0 else p.waitCount } := by
  simp only [Port.enter, List.isEmpty_iff]

theorem Port.enterNumbered_eq (p : Port) (f : Frame) : p.enterNumbered f =
    { p with
      insert := p.insert ++ [{ f with seq := p.noticeSeq }], waitCount := if p.insert = [] then 0 else p.waitCount
      noticeSeq := p.noticeSeq + 1 } := by
  simp only [Port.enterNumbered, Port.enter_eq]

/-- The deferral flag stays while records stay (R164). -/
theorem not_isEmpty_drop {α : Type} (l : List α) (n : Nat) : (!(l.drop n).isEmpty) = decide (n < l.length) := by
  rw [Bool.eq_iff_iff]
  simp [List.drop_eq_nil_iff]

theorem State.buildReport_eq (s : State) : s.buildReport = { s with port := { s.port with
    insert := s.port.insert ++ [{ reportFrame s.address s.meu.supervisor (s.port.buffer.take 4) with seq := s.port.noticeSeq }]
    waitCount := if s.port.insert = [] then 0 else s.port.waitCount
    buffer := s.port.buffer.drop 4
    deferralFlag := s.port.deferralFlag && decide (4 < s.port.buffer.length)
    noticeSeq := s.port.noticeSeq + 1
    counters.reportsSent := bump32 s.port.counters.reportsSent } } := by
  simp only [State.buildReport, Port.enterNumbered_eq, not_isEmpty_drop]

/-- The first source that may place a frame stands in the rotation behind sources that may not (R161). -/
theorem State.nextSource_split {s : State} {src : Source} (h : s.nextSource = some src) :
    ∃ before after, s.port.pointer.rotation = before ++ src :: after ∧ ∀ x ∈ before, s.mayEnter x = false := by
  obtain ⟨-, before, after, hsplit, hbefore⟩ := List.find?_eq_some_iff_append.mp h
  exact ⟨before, after, hsplit, fun x hx => by simpa using hbefore x hx⟩

theorem State.offers_iff_of_active (s : State) : s.active = true ↔ s.meu.mode ≠ .forwardOnly := by simp [State.active]

/-- Settles O21: enough rounds leave nothing to place, a round is as each source's rule says, and a source may place what the rules
offer. -/
theorem arbiterAdmitsInRotation : Obligations.ArbiterAdmitsInRotation := by
  refine ⟨fun s => ⟨s.settled_settle, s.arbitrate_insert 32⟩, fun s src hnext => ?_, fun s src => ?_⟩
  · obtain ⟨hroom, hoffers, -⟩ := (s.mayEnter_iff src).mp (State.mayEnter_of_nextSource hnext)
    refine ⟨hroom, State.enterFrom_insert hoffers, ?_, State.nextSource_split hnext, ?_⟩
    · intro holds next
      cases src with
      | report => exact s.buildReport_eq
      | meu =>
        intro f rest hl
        simp only [State.enterFrom, hl, Port.enter_eq, holds]
      | gau =>
        intro i rest hl
        refine ⟨fun ht => ?_, fun ht => ?_, fun g ht => ?_⟩
        · simp only [State.enterFrom, hl, ht, Port.enter_eq, holds]
        · simp only [State.enterFrom, hl, ht, Port.enterNumbered_eq, holds, next]
        · simp only [State.enterFrom, hl, ht, Port.enter_eq]
          rfl
      | psu =>
        intro p f rest hl
        simp only [State.enterFrom, hl, Port.enter_eq]
        rfl
      | tru =>
        intro f rest hl
        simp only [State.enterFrom, hl, Port.enter_eq, holds]
      | clu =>
        intro f hf
        simp only [State.enterFrom, hf, Port.enter_eq, holds]
    · have hround := State.settle_eq_round hnext
      cases src <;> exact hround
  · rw [s.mayEnter_iff]
    refine and_congr_right fun _ => ?_
    cases src with
    | report =>
      simp only [State.offers, Port.reportDue, Port.reports, reportKind, List.countP_eq_length_filter, Bool.and_eq_true, Bool.or_eq_true,
        Bool.not_eq_true', List.isEmpty_eq_false_iff, decide_eq_true_eq, List.any_eq_true, beq_iff_eq, forall_const, and_assoc, or_assoc]
    | meu => simp [State.offers]
    | gau => simp [State.offers, s.offers_iff_of_active]
    | psu => simp [State.offers, s.offers_iff_of_active]
    | tru => simp [State.offers, s.offers_iff_of_active]
    | clu => simp [State.offers, s.offers_iff_of_active, Option.isSome_iff_ne_none]

/-! ### Events on a settled part (R164, R171) -/

/-- While a REPORT could enter a settled part's insert queue, none is due. -/
theorem State.Settled.reportDue {s : State} (hs : s.Settled) (hi : s.port.insert.length < 32) (hr : s.port.reports < 24) :
    s.port.reportDue = false := by
  by_contra hdue
  have hmay : s.mayEnter .report = true := (s.mayEnter_iff .report).mpr ⟨hi, by simpa [State.offers] using hdue, fun _ => hr⟩
  exact absurd hmay (by simp [s.settled_iff.mp hs .report])

/-- Where the REPORT builder alone may place frames, the arbiter changes the ring port alone (R165). -/
theorem State.arbitrate_of_reports (n : Nat) : ∀ {s : State}, (∀ x, x ≠ .report → s.mayEnter x = false) →
    s.arbitrate n = { s with port := (s.arbitrate n).port } := by
  induction n with
  | zero => exact fun _ => rfl
  | succ n ih =>
    intro s h
    cases hnext : s.nextSource with
    | none => rw [State.arbitrate_of_settled hnext]
    | some src =>
      have hmay := State.mayEnter_of_nextSource hnext
      obtain rfl : src = .report := by
        by_contra hne
        exact absurd hmay (by simp [h src hne])
      have hround : ∀ x, x ≠ .report → (s.round .report).mayEnter x = false := by
        intro x hx
        have hroom := ((s.mayEnter_iff .report).mp hmay).1
        by_contra hc
        obtain ⟨-, hoffers, -⟩ := ((s.round .report).mayEnter_iff x).mp (by simpa using hc)
        have hoffers' : s.offers x = true := by cases x <;> first | exact absurd rfl hx | exact hoffers
        exact absurd ((s.mayEnter_iff x).mpr ⟨hroom, hoffers', fun hr => absurd hr hx⟩) (by simp [h x hx])
      rw [State.arbitrate_succ hnext, ih hround]
      rfl

/-- An event on a settled part changes the ring port and the event summary alone (R171). -/
theorem State.raise_of_settled {s : State} (hs : s.Settled) (k : EventKind) (subject a b : Nat) :
    s.raise k subject a b = { s with port := (s.raise k subject a b).port, meu := s.meu.takeEvent k } := by
  refine State.arbitrate_of_reports 32 fun x hx => ?_
  have hno := s.settled_iff.mp hs x
  have hinsert : ∀ r : EventRecord, (s.port.record s.time r).insert = s.port.insert := by
    intro r
    unfold Port.record Port.append
    split
    · rfl
    · split <;> rfl
  simp only [State.mayEnter, hinsert] at hno ⊢
  cases x with
  | report => exact absurd rfl hx
  | _ => exact hno

/-- A record that makes no REPORT due leaves the part settled. -/
theorem State.settled_of_insert {s t : State} (hs : s.Settled) (hinsert : t.port.insert = s.port.insert)
    (hoffers : ∀ x, t.offers x = true → s.offers x = true) : t.Settled := by
  rw [State.settled_iff] at hs ⊢
  intro x
  by_contra hc
  obtain ⟨hroom, hoff, hr⟩ := (t.mayEnter_iff x).mp (by simpa using hc)
  rw [Port.reports, hinsert] at hr
  exact absurd ((s.mayEnter_iff x).mpr ⟨hinsert ▸ hroom, hoffers x hoff, hr⟩) (by simp [hs x])

/-- Settles O23: a raise works the summary and settles, and on a settled part a REPORT alone can enter. -/
theorem raisedEventsMarkTheirKind : Obligations.RaisedEventsMarkTheirKind := by
  intro s k subject a b t r
  have hevents : t.meu.events = (s.meu.takeEvent k).events := by simp [t, State.raise]
  refine ⟨?_, fun j hj => ?_, s.raise_alarm k subject a b, fun hs => ?_, fun hs hb hf hk => ?_⟩
  · rw [hevents]
    simp [Meu.takeEvent, Meu.evaluateAlarm]
  · rw [hevents]
    have hne : k.index.val ≠ j.val := fun e => hj (Fin.ext e.symm)
    simp [Meu.takeEvent, Meu.evaluateAlarm, Vector.getElem_set_ne, hne]
  · have ht : t = _ := State.raise_of_settled hs k subject a b
    have hmeu : t.meu = s.meu.takeEvent k := by rw [ht]
    calc t = { s with port := t.port, meu := s.meu.takeEvent k } := ht
      _ = { s with port := t.port, meu := { s.meu with events := t.meu.events, alarm := t.meu.alarm } } := by rw [hmeu]; rfl
  · have hrecord : s.port.record s.time r = { s.port with buffer := [r], deferral := some (s.time + 250) } := by
      simp [Port.record, hb, Config.recordPlaces, Port.append, Config.deferralTime]
    have hset : State.Settled { s with meu := s.meu.takeEvent k, port := s.port.record s.time r } := by
      refine State.settled_of_insert hs (by rw [hrecord]) fun x hx => ?_
      cases x with
      | report =>
        have hurgent : (r.kind.level == .urgent) = false := by simpa [r] using hk
        simp [State.offers, hrecord, Port.reportDue, hf, hurgent] at hx
      | _ => exact hx
    have ht : t = { s with meu := s.meu.takeEvent k, port := s.port.record s.time r } := State.settle_of_settled hset
    rw [ht, hrecord]

/-! ### The deferral timer (R164, R165) -/

theorem exec_deferralTimerExpiry {s : State} {u : Nat} (hs : s.resetLow = false) (hd : s.port.deferral = some u) (hu : u ≤ s.time) :
    exec .deferralTimerExpiry s = .next s.deferralExpires :=
  congrArg Host.Outcome.next (if_pos ⟨hs, by simp [State.deferralDue, reached, hd, hu]⟩)

/-- Settles O24: with no record the part stays settled, and with records a REPORT alone may enter, and takes them all. -/
theorem deferralTimerSendsTheReport : Obligations.DeferralTimerSendsTheReport := by
  intro s u hs hset hd hu
  rw [exec_deferralTimerExpiry hs hd hu]
  refine ⟨fun hb => congrArg Host.Outcome.next ?_, fun hb hi hr => congrArg Host.Outcome.next ?_⟩
  · have hstill : State.Settled { s with port := { s.port with deferral := none, deferralFlag := s.port.deferralFlag || !s.port.buffer.isEmpty } } := by
      refine State.settled_of_insert hset rfl fun x hx => ?_
      cases x with
      | report => simp [State.offers, Port.reportDue, hb] at hx
      | _ => exact hx
    rw [State.deferralExpires, State.settle_of_settled hstill]
    simp [hb]
  · have hdue := hset.reportDue hi hr
    have hempty : s.port.buffer.isEmpty = false := by simpa using hb
    have hfew : s.port.buffer.length < 4 := by
      by_contra hc
      simp [Port.reportDue, hempty, Nat.not_lt.mp hc] at hdue
    have htake : s.port.buffer.take 4 = s.port.buffer := List.take_of_length_le (by omega)
    have hdrop : s.port.buffer.drop 4 = [] := List.drop_eq_nil_of_le (by omega)
    set t : State := { s with port := { s.port with deferral := none, deferralFlag := s.port.deferralFlag || !s.port.buffer.isEmpty } }
      with ht
    have hmay : t.mayEnter .report = true :=
      (t.mayEnter_iff .report).mpr ⟨hi, by simp [ht, State.offers, Port.reportDue, hempty], fun _ => hr⟩
    have honly : ∀ x, x ≠ .report → t.mayEnter x = false := by
      intro x hx
      have hno := s.settled_iff.mp hset x
      cases x with
      | report => exact absurd rfl hx
      | _ => exact hno
    have hlast : (t.enterFrom .report).offers .report = false := by
      simp [State.enterFrom, State.buildReport_eq, State.offers, Port.reportDue, ht, hdrop]
    have hrest : ∀ x, x ≠ .report → (t.enterFrom .report).offers x = t.offers x := by
      intro x hx
      cases x with
      | report => exact absurd rfl hx
      | _ => rfl
    have hround : s.deferralExpires = t.round .report := State.settle_of_only hmay honly hlast hrest
    have hnot : decide (4 < s.port.buffer.length) = false := by simp; omega
    rw [hround, State.round, State.enterFrom, State.buildReport_eq]
    simp only [ht, htake, hdrop, hnot, Bool.and_false, Source.next, reportFrame, reportKind]

end Sys2Proof.Machine
end

section
/-! The statements on the reset state: its values (R175 and the power-on tables of the blocks), and the laws it meets. -/

namespace Sys2Proof.Machine

/-! ### The reset state -/

@[simp] theorem State.pot_reset (p : Fin 384) : State.reset.pot p = {} := by simp [State.reset, State.pot, State.powerOn]

@[simp] theorem State.group_reset (g : Fin 8) : State.reset.group g = {} := by simp [State.reset, State.group, State.powerOn]

theorem events_reset (k : Fin 26) : State.reset.meu.events[k] = {} := by simp [State.reset, State.powerOn]

/-- Settles O5: each value is the default of its field; the entries of a table are those of a table filled with one. -/
theorem powerOnValues : Obligations.PowerOnValues := by
  refine ⟨⟨rfl, rfl, rfl, rfl, rfl, rfl, rfl, rfl, rfl, rfl, rfl, rfl, rfl, ?events, ?enables⟩, ?windows, ?potMap, rfl, rfl, ?pots, rfl, rfl, rfl,
    rfl, rfl, rfl, rfl, rfl, rfl, rfl, rfl, rfl, rfl, rfl, rfl, rfl, rfl, rfl, rfl, rfl, rfl, rfl, rfl, rfl, rfl, rfl, ?steps, ?profiles,
    rfl, rfl, rfl, ?groups, rfl, rfl, rfl, rfl, rfl, rfl, rfl, rfl, rfl, rfl, rfl, rfl, rfl, rfl, rfl, rfl, rfl, rfl, rfl, ?tariffWindows,
    rfl, rfl, rfl, rfl, ?cache, rfl, rfl, ?table, rfl, rfl, rfl, rfl, rfl, rfl, rfl, rfl, rfl, rfl, rfl, rfl, rfl, rfl, rfl⟩
  case events => exact fun k => by rw [events_reset]; exact ⟨rfl, rfl⟩
  case enables => exact fun k _ => by rw [events_reset]
  case windows | potMap | steps | profiles | tariffWindows | cache | table => simp [State.reset, State.powerOn]
  case pots => exact State.pot_reset
  case groups => exact State.group_reset

/-! ### The laws at reset -/

theorem availableSet_reset : State.reset.availableSet = [] := by
  simp [State.availableSet, Group.available]

theorem settled_reset : State.reset.Settled := by
  rw [State.settled_iff]
  intro src
  cases src <;> rfl

/-- Settles O6: every queue is empty, every pot and group is as it powers on, and no count is above 0. -/
theorem lawsHoldAfterPowerOn : Obligations.LawsHoldAfterPowerOn := by
  refine ⟨rfl, ?alarm, ⟨Nat.le_refl 0, fun _ => rfl⟩, ?allocation, ?player, ?heat, rfl, (counted_powerOn 0).1, (counted_powerOn 0).2, ?log,
    ?group, ?cache, ?bounds, ?address, settled_reset, ?regulated⟩
  case alarm => exact alarmHeld_powerOn.symm
  case allocation =>
    refine ⟨fun _ g => by rw [State.group_reset], fun h => absurd availableSet_reset h, fun g hg => ?_⟩
    rw [availableSet_reset] at hg
    exact absurd hg List.not_mem_nil
  case player => simp [playerLaw, State.reset, State.powerOn]
  case heat => exact ⟨fun h => absurd h (by decide), fun _ => rfl⟩
  case log =>
    have hlog : State.reset.aeu.log = [] := rfl
    have htrace : State.reset.aeu.trace = [] := rfl
    simp [logLaw, hlog, htrace]
  case group =>
    intro g
    have hlist : State.reset.gau.sendList = [] := rfl
    simp [hlist, Authority.watched]
  case cache =>
    refine ⟨?_, ?_, ?_⟩ <;> decide
  case bounds =>
    unfold boundsLaw
    decide
  case address =>
    unfold addressLaw
    decide
  case regulated =>
    intro g
    rw [State.group_reset]
    decide

end Sys2Proof.Machine
end

section
/-! SUPPORT. What the work of a command is made of, said once: a chain of changes (`Works`), each a named operation or a change of fields that no
law of the part reads, with what it leaves of the records that the laws do read. The laws that every step keeps (O9, O11 to O15) are
then read off the changes, one case for each, and not off the commands. -/

namespace Sys2Proof.Machine

/-! ### How deep a change goes into the group records -/

/-- How deep the changes of a chain may go: into fields of the group records that no law reads; into those that the law of authority does
not read; as far as that law allows; or, with a START, RESTART or STOP, into the part mode too. -/
inductive Depth where
  | still | loose | full | mode

/-- The group records may change as far as the law of authority allows. -/
def Depth.deep : Depth → Prop
  | .still | .loose => False
  | .full | .mode => True

/-- What the law of authority (R94, R100, R102, R107) reads of a group record. -/
def Group.bones (q : Group) : Bool × Authority × Option Addr × Bool × Form :=
  (q.order.isSome, q.authority, q.watcher, q.cfg.present, q.form)

/-- What the laws read of a group record, but for its step (R84, R94, R110). -/
def Group.core (q : Group) : Group :=
  { authority := q.authority, watcher := q.watcher, form := q.form, order := q.sentForm.order, confirmed := q.confirmed, wanted := q.wanted
    reported := q.reported, stale := q.stale, withdrawal := q.withdrawal, statusSince := q.statusSince, cap := q.cap
    cfg := { present := q.cfg.present, deadband := q.cfg.deadband } }

/-- A latch of 0 has step-open clear (R93). -/
def Group.latched (q : Group) : Prop := q.cfg.latch = 0 → q.stepOpen = false

/-- The law of authority on one record: pending order, watcher, presence and form. -/
def Group.Lawful (q : Group) : Prop :=
  (q.order.isSome ↔ q.authority = .pending ∨ q.authority = .pendingWatched) ∧ (q.watcher.isSome ↔ q.authority.watched = true)
    ∧ (q.cfg.present = false → q.authority = .released)
    ∧ (q.form = .basic → q.authority ≠ .pending ∧ q.authority ≠ .pendingWatched)

/-- From `q` to `r` a record changes no field that a law reads, but that a step may close. -/
def Group.Stands (q r : Group) : Prop :=
  r.core = q.core ∧ (r.stepOpen = true → q.stepOpen = true) ∧ (q.latched → r.latched)

/-- From `q` to `r` a record changes in what its authority does not rest on. -/
def Group.Moves (q r : Group) : Prop := r.bones = q.bones ∧ (q.latched → r.latched)

/-- From `q` to `r` a record changes within the law of authority, and a RELEASED one stays so. -/
def Group.Turns (q r : Group) : Prop :=
  (q.Lawful → r.Lawful ∧ (r.authority = .released → q.authority = .released))
    ∧ (q.authority = .released → r.authority = .released) ∧ (q.latched → r.latched)

/-- The change of a record that a depth allows. -/
def Depth.allows : Depth → Group → Group → Prop
  | .still => Group.Stands
  | .loose => Group.Moves
  | .full | .mode => Group.Turns

theorem Group.lawful_of_bones {q r : Group} (h : r.bones = q.bones) : r.Lawful ↔ q.Lawful := by
  simp only [Group.bones, Prod.mk.injEq] at h
  obtain ⟨ho, ha, hw, hp, hf⟩ := h
  simp only [Group.Lawful, ho, ha, hw, hp, hf]

/-- Where one of two orders stands, but for its unsent flag, the other does. -/
theorem Group.isSome_of_sentForm {q r : Group} (h : r.sentForm.order = q.sentForm.order) : r.order.isSome = q.order.isSome := by
  simpa [Group.sentForm] using congrArg Option.isSome h

theorem Group.bones_of_core {q r : Group} (h : r.core = q.core) : r.bones = q.bones := by
  simp only [Group.core, Group.mk.injEq, GroupConfig.mk.injEq] at h
  have horder := Group.isSome_of_sentForm (q := q) (r := r) (by simp only [h])
  simp only [Group.bones, h, horder]

/-- An unsent flag stands in no law. -/
theorem Group.core_of_sentForm {q r : Group} (h : r.sentForm = q.sentForm) : r.core = q.core := by
  have hr := Group.eq_of_sentForm h
  unfold Group.core
  rw [congrArg Group.order h, hr]

theorem Group.Stands.moves {q r : Group} (h : q.Stands r) : q.Moves r := ⟨Group.bones_of_core h.1, h.2.2⟩

theorem Group.Moves.authority {q r : Group} (h : q.Moves r) : r.authority = q.authority := congrArg (fun b => b.2.1) h.1

theorem Group.Moves.turns {q r : Group} (h : q.Moves r) : q.Turns r :=
  ⟨fun hq => ⟨(Group.lawful_of_bones h.1).mpr hq, h.authority.symm.trans⟩, h.authority.trans, h.2⟩

theorem Group.Stands.allowed {q r : Group} (h : q.Stands r) (d : Depth) : d.allows q r := by
  cases d with
  | still => exact h
  | loose => exact h.moves
  | full | mode => exact h.moves.turns

theorem Group.Moves.allowed {q r : Group} (h : q.Moves r) {d : Depth} (hd : d ≠ .still) : d.allows q r := by
  cases d with
  | still => exact absurd rfl hd
  | loose => exact h
  | full | mode => exact h.turns

theorem Depth.deep.ne_still {d : Depth} (h : d.deep) : d ≠ .still := by
  rintro rfl
  exact h

theorem Group.Turns.allowed {q r : Group} (h : q.Turns r) {d : Depth} (hd : d.deep) : d.allows q r := by
  cases d with
  | still | loose => exact hd.elim
  | full | mode => exact h

/-- A step that closes with the latch, or stays, stands (R93). -/
theorem Group.stands_setLatch (q : Group) (w : Nat) : q.Stands (q.setLatch w) :=
  ⟨rfl, fun h => (Bool.and_eq_true_iff.mp h).1, fun _ (hw : w = 0) => by simp [Group.setLatch, hw]⟩

/-! ### The changes -/

/-- From `s` to `t` no field changes that a law of the part reads. -/
def State.Unread (s t : State) : Prop :=
  t = { s with
    resetLow := t.resetLow, time := t.time, smap := t.smap
    port := { s.port with counters := t.port.counters, ringOut := t.port.ringOut }
    psu := { s.psu with seq := t.psu.seq, counters := t.psu.counters }
    aeu := { s.aeu with counters := t.aeu.counters }
    line := { t.line with
      cfg := { t.line.cfg with hl := s.line.cfg.hl }, ae := { t.line.ae with holdLimit := s.line.ae.holdLimit }
      it := s.line.it, ig := s.line.ig, state := s.line.state, hd := s.line.hd, heatRecovery := s.line.heatRecovery
      aeHold := s.line.aeHold, player := s.line.player }
    gau := { t.gau with groups := s.gau.groups, sendList := s.gau.sendList }
    clu := { t.clu with ic := s.clu.ic, orderFrame := s.clu.orderFrame }
    egu := { t.egu with queue := s.egu.queue }
    tru := { t.tru with
      cache := s.tru.cache, table := s.tru.table, waitList := s.tru.waitList, sendList := s.tru.sendList
      lookup := { t.tru.lookup with slot := s.tru.lookup.slot } }
    meu := { t.meu with
      mode := s.meu.mode, supervisor := s.meu.supervisor, server := s.meu.server, cooler := s.meu.cooler
      sendList := s.meu.sendList } }

/-- From `q` to `r` a pot keeps its log index, and is QUIET or SUSPECT only if it was or has none (R58). -/
def Pot.KeepsLog (q r : Pot) : Prop :=
  r.logIndex = q.logIndex ∧ (r.ae = .quiet ∨ r.ae = .suspect → (q.ae = .quiet ∨ q.ae = .suspect) ∨ q.logIndex = none)

/-- A change of a record that keeps what ties it to its pot and its runs (R58, R61). -/
def AeRecord.Keeps (f : AeRecord → AeRecord) : Prop :=
  ∀ r, (f r).place = r.place ∧ (f r).pot = r.pot ∧ (f r).closed = r.closed ∧ (f r).runCount = r.runCount

/-- The laws of the line record, on a state with the line record `x`. -/
def State.KeepsLine (s : State) (x : Line) : Prop :=
  (targetLaw s → targetLaw { s with line := x }) ∧ (playerLaw s → playerLaw { s with line := x })
    ∧ (holdLaw s → holdLaw { s with line := x })

/-- The record of an effect that opens: the first part of R46, up to the record's place. -/
def State.openEffect (s : State) (p : Fin 384) : State :=
  let s1 := s.modPot p fun q => q.opened s.time
  let s2 := s1.setAeCount (s1.aeu.count + 1)
  let placed := s2.aeu.place p (s2.pot p)
  let s3 : State := { s2 with aeu := { placed.1 with counters.onsets := bump32 placed.1.counters.onsets } }
  s3.modPot p fun q => { q with logIndex := placed.2 }

/-- A new Ic and what the line regulator makes of it (R119, R73). -/
def State.withCapacity (s : State) (c : Nat) : State := if c = s.clu.ic then s else State.takeCapacity { s with clu.ic := c }

/-- Ic of a START or RESTART, with the line regulator's record worked from it (R125, R86). -/
def State.restartCapacity (s : State) (c : Nat) : State :=
  (State.evaluateStage (State.workShortfall { s with clu.ic := c })).restartLine

/-- The chains of changes from `s`, to a depth. -/
inductive Works : State → Depth → State → Prop
  | refl {s : State} {d : Depth} : Works s d s
  -- fields that no law reads
  | unread {s t u : State} {d : Depth} (h : Works s d t) (hu : t.Unread u) : Works s d u
  -- the ring port
  | forward {s t : State} {d : Depth} (h : Works s d t) (f : Frame) : Works s d (t.forward f)
  | raise {s t : State} {d : Depth} (h : Works s d t) (k : EventKind) (j a b : Nat) : Works s d (t.raise k j a b)
  | sendNext {s t : State} {d : Depth} (h : Works s d t) : Works s d t.sendNext
  | deferralExpires {s t : State} {d : Depth} (h : Works s d t) : Works s d t.deferralExpires
  -- pots and effects
  | modPot {s t : State} {d : Depth} (h : Works s d t) (p : Fin 384) (f : Pot → Pot) (hf : (t.pot p).KeepsLog (f (t.pot p))) :
    Works s d (t.modPot p f)
  | dropPotFrames {s t : State} {d : Depth} (h : Works s d t) (p : Fin 384) :
    Works s d { t with psu.sendList := t.psu.sendList.filter fun e => e.1 != p }
  | sendPotOrder {s t : State} {d : Depth} (h : Works s d t) (p : Fin 384) (f : Frame) : Works s d (t.sendPotOrder p f)
  | closeRecord {s t : State} {d : Depth} (h : Works s d t) (p : Fin 384) (cause : EndCause) : Works s d (t.closeRecord p cause)
  | amend {s t : State} {d : Depth} (h : Works s d t) (p : Fin 384) (f : AeRecord → AeRecord) (hf : AeRecord.Keeps f) :
    Works s d (t.modOpenRecord p f)
  | traceReading {s t : State} {d : Depth} (h : Works s d t) (p : Fin 384) (vp : Nat) : Works s d (t.traceReading p vp)
  | openEffect {s t : State} {d : Depth} (h : Works s d t) (p : Fin 384) (hp : (t.pot p).ae = .suspect) : Works s d (t.openEffect p)
  | setAeCount {s t : State} {d : Depth} (h : Works s d t) (n : Nat) : Works s d (t.setAeCount n)
  -- the line record
  | line {s t : State} {d : Depth} (h : Works s d t) (x : Line) (hx : t.KeepsLine x) (hheat : heatLaw t → heatLaw { t with line := x })
    (hig : d = .still → x.ig = t.line.ig) : Works s d { t with line := x }
  | heat {s t : State} {d : Depth} (h : Works s d t) (x : Line) (hx : t.KeepsLine x) (hig : d = .still → x.ig = t.line.ig) :
    Works s d (State.workHeatRecovery { t with line := x })
  -- tariffs, energy and the cooling unit's order
  | tariff {s t : State} {d : Depth} (h : Works s d t) (u : Tru) (hu : cacheLaw s → cacheLaw { t with tru := u })
    (hl : u.sendList.Sublist t.tru.sendList) : Works s d { t with tru := u }
  | sendAsk {s t : State} {d : Depth} (h : Works s d t) (f : Frame) (hf : f.dest = t.meu.server) : Works s d (t.sendAsk f)
  | energy {s t : State} {d : Depth} (h : Works s d t) (u : Egu) (hu : u.queue.length ≤ max t.egu.queue.length Config.energyPlaces) :
    Works s d { t with egu := u }
  | sendCoolerOrder {s t : State} {d : Depth} (h : Works s d t) (f : Frame) (hf : f.dest = t.meu.cooler) : Works s d (t.sendCoolerOrder f)
  | clu {s t : State} {d : Depth} (h : Works s d t) (c : Clu) (hic : c.ic = t.clu.ic) (hframe : c.orderFrame = none) :
    Works s d { t with clu := c }
  -- groups
  | modGroup {s t : State} {d : Depth} (h : Works s d t) (g : Fin 8) (f : Group → Group) (hf : d.allows (t.group g) (f (t.group g))) :
    Works s d (t.modGroup g f)
  | mapGroups {s t : State} {d : Depth} (h : Works s d t) (f : Group → Group) (hf : ∀ g, d.allows (t.group g) (f (t.group g))) :
    Works s d { t with gau.groups := t.gau.groups.map f }
  | sendNotice {s t : State} {d : Depth} (h : Works s d t) (f : Frame) : Works s d (t.sendNotice f)
  | dropGroupFrames {s t : State} {d : Depth} (h : Works s d t) (g : Fin 8) : Works s d (t.dropGroupFrames g)
  | withCapacity {s t : State} {d : Depth} (h : Works s d t) (c : Nat) (hd : d ≠ .still) : Works s d (t.withCapacity c)
  | claim {s t : State} {d : Depth} (h : Works s d t) (g : Fin 8) (hg : t.claimable (t.group g) = true) (hd : d.deep) :
    Works s d (t.modGroup g Group.claimed)
  | sendGroupOrder {s t : State} {d : Depth} (h : Works s d t) (g : Fin 8) (f : Frame) (hg : (t.group g).authority ≠ .released)
    (hd : d.deep) : Works s d (t.sendGroupOrder g f)
  | releaseCore {s t : State} {d : Depth} (h : Works s d t) (g : Fin 8) (hd : d.deep) : Works s d (t.releaseCore g)
  | fallBack {s t u : State} {d : Depth} (h : Works s d t) (g : Fin 8) (f : Group → Group) (hd : d.deep)
    (hf : Group.bones (f (t.group g)) = { t.group g with form := .basic : Group }.bones)
    (hl : (t.group g).latched → (f (t.group g)).latched)
    (hu : Works (t.modGroup g f) .loose u) : Works s d (u.confirmPending g)
  -- the part mode and the addresses
  | address {s t : State} {d : Depth} (h : Works s d t) (supervisor server cooler : Addr)
    (hk : t.meu.supervisor ≠ Config.broadcast → t.meu.server ≠ Config.broadcast → t.meu.cooler ≠ Config.broadcast →
      supervisor ≠ Config.broadcast ∧ server ≠ Config.broadcast ∧ cooler ≠ Config.broadcast) :
    Works s d { t with meu := { t.meu with supervisor := supervisor, server := server, cooler := cooler } }
  | beginRestart {s t : State} (h : Works s .mode t) : Works s .mode t.beginRestart
  | restartCapacity {s t : State} (h : Works s .mode t) (c : Nat) : Works s .mode (t.restartCapacity c)
  | standDown {s t : State} (h : Works s .mode t) (o : Option Nat) :
    Works s .mode { t with meu := { t.meu with mode := .forwardOnly, observationEnd := o } }

end Sys2Proof.Machine
end

section
/-! SUPPORT. What an admission keeps of the send lists, and two ways to read a law off a chain of changes: a law of the records is kept by
all that passes the records by (`Works.keeps_records`), and a law of the queues and lists by all that brings no frame
(`Works.keeps_lists`). -/

namespace Sys2Proof.Machine

/-! ### Admission (R161) -/

/-- What each round of the arbiter keeps, settling keeps. -/
theorem State.settle_keeps {P : State → Prop} (hround : ∀ s src, s.mayEnter src = true → P s → P (s.round src)) {s : State} (h : P s) :
    P s.settle := by
  have hall : ∀ n s, P s → P (s.arbitrate n) := by
    intro n
    induction n with
    | zero => exact fun _ => id
    | succ n ih =>
      intro s h
      cases hnext : s.nextSource with
      | none => rwa [State.arbitrate_of_settled hnext]
      | some src =>
        rw [State.arbitrate_succ hnext]
        exact ih _ (hround s src (State.mayEnter_of_nextSource hnext) h)
  exact hall _ s h

/-- From `s` to `t` the send lists lose frames at most. -/
structure Drained (s t : State) : Prop where
  psu : t.psu.sendList.Sublist s.psu.sendList
  gau : t.gau.sendList.Sublist s.gau.sendList
  tru : t.tru.sendList.Sublist s.tru.sendList
  meu : t.meu.sendList.Sublist s.meu.sendList
  clu : t.clu.orderFrame = s.clu.orderFrame ∨ t.clu.orderFrame = none

theorem Drained.refl (s : State) : Drained s s := ⟨.refl _, .refl _, .refl _, .refl _, .inl rfl⟩

theorem Drained.trans {s t u : State} (h : Drained s t) (h' : Drained t u) : Drained s u :=
  ⟨h'.psu.trans h.psu, h'.gau.trans h.gau, h'.tru.trans h.tru, h'.meu.trans h.meu, by
    rcases h'.clu with hu | hu
    · rw [hu]
      exact h.clu
    · exact .inr hu⟩

/-- A frame that enters the insert queue leaves its source's list (R161). -/
theorem State.round_drained (s : State) (src : Source) : Drained s (s.round src) := by
  have h := Drained.refl s
  have htail : ∀ {α : Type} {x : α} {l rest : List α}, l = x :: rest → rest.Sublist l := fun hl => hl ▸ List.sublist_cons_self _ _
  cases src with
  | report => exact { h with }
  | meu =>
    unfold State.round State.enterFrom
    dsimp only
    split
    · exact { h with }
    · next hl => exact { h with meu := htail hl }
  | gau =>
    unfold State.round State.enterFrom
    dsimp only
    split
    · exact { h with }
    · next hl => split <;> exact { h with gau := htail hl }
  | psu =>
    unfold State.round State.enterFrom
    dsimp only
    split
    · exact { h with }
    · next hl => exact { h with psu := htail hl }
  | tru =>
    unfold State.round State.enterFrom
    dsimp only
    split
    · exact { h with }
    · next hl => exact { h with tru := htail hl }
  | clu =>
    unfold State.round State.enterFrom
    dsimp only
    split
    · exact { h with }
    · exact { h with clu := .inr rfl }

theorem State.settle_drained (s : State) : Drained s s.settle :=
  State.settle_keeps (P := Drained s) (fun t src _ h => h.trans (t.round_drained src)) (.refl s)

/-! ### Changes that pass the records by -/

/-- What the laws of the line, of the AE log and of the cache read, but for the pots (R58, R69, R75, R78, R81, R147, R149). -/
def State.records (s : State) :=
  (s.aeu.log, s.aeu.trace, s.aeu.count, (s.line.it, s.line.state, s.line.hd, s.line.cfg.hl, s.line.heatRecovery),
    (s.line.aeHold, s.line.ae.holdLimit, s.line.player, s.clu.ic),
    s.tru.cache, s.tru.waitList, s.tru.lookup.slot, s.tru.fetchSlots)

/-- From `s` to `t` the records stand, and every pot keeps its log index. -/
structure Aside (s t : State) : Prop where
  records : t.records = s.records
  pots : ∀ p, (s.pot p).KeepsLog (t.pot p)

theorem Pot.KeepsLog.refl (q : Pot) : q.KeepsLog q := ⟨rfl, .inl⟩

theorem Pot.KeepsLog.trans {q r x : Pot} (h : q.KeepsLog r) (h' : r.KeepsLog x) : q.KeepsLog x := by
  refine ⟨h'.1.trans h.1, fun hx => ?_⟩
  rcases h'.2 hx with hr | hr
  · exact h.2 hr
  · exact .inr (h.1.symm.trans hr)

theorem Aside.of_pots {s t : State} (hrecords : t.records = s.records) (hpots : t.psu.pots = s.psu.pots) : Aside s t :=
  ⟨hrecords, fun p => by
    have hp : t.pot p = s.pot p := congrArg (·[p]) hpots
    exact hp ▸ .refl _⟩

theorem Aside.refl (s : State) : Aside s s := .of_pots rfl rfl

theorem Aside.trans {s t u : State} (h : Aside s t) (h' : Aside t u) : Aside s u :=
  ⟨h'.records.trans h.records, fun p => (h.pots p).trans (h'.pots p)⟩

/-- An admission clears unsent flags, and those stand in no law of the records (R161). -/
theorem Admitted.aside {s t : State} (h : Admitted s t) : Aside s t := by
  have hslot : ∀ e : Option Fetch, (e.map Fetch.sentForm).map Fetch.slot = e.map Fetch.slot := fun e => by cases e <;> rfl
  have hfetches : t.tru.fetchSlots = s.tru.fetchSlots := by
    have ht : t.tru.table.toList.map (Option.map Fetch.sentForm) = s.tru.table.toList.map (Option.map Fetch.sentForm) := by
      refine List.ext_getElem (by simp) fun k hk _ => ?_
      have := h.table ⟨k, by simpa using hk⟩
      simpa using this
    have hall : ∀ u : Tru, u.fetchSlots = (u.table.toList.map (Option.map Fetch.sentForm)).filterMap (Option.map Fetch.slot) := by
      intro u
      simp [Tru.fetchSlots, List.filterMap_map, hslot]
    rw [hall, hall, ht]
  refine ⟨?_, fun p => ?_⟩
  · have hrest := h.rest
    unfold State.records
    rw [hfetches, hrest]
  · have hp := Pot.eq_of_sentForm (h.pots p)
    rw [hp]
    exact .refl _

/-- Work on other fields and then an admission pass the records by. -/
theorem Aside.settled {s t : State} (h : Aside s t) : Aside s t.settle := h.trans t.settle_admitted.aside

theorem State.aside_raise (s : State) (k : EventKind) (j a b : Nat) : Aside s (s.raise k j a b) :=
  Aside.settled (.of_pots rfl rfl)

theorem State.aside_sendNext (s : State) : Aside s s.sendNext := by
  unfold State.sendNext
  split
  · exact .refl s
  · exact .of_pots rfl rfl
  · exact Aside.settled (.of_pots rfl rfl)
  · split
    · exact .of_pots rfl rfl
    · exact Aside.settled (.of_pots rfl rfl)

theorem State.aside_forward (s : State) (f : Frame) : Aside s (s.forward f) := .of_pots rfl rfl

theorem State.aside_deferralExpires (s : State) : Aside s s.deferralExpires := Aside.settled (.of_pots rfl rfl)

theorem State.aside_sendPotOrder (s : State) (p : Fin 384) (f : Frame) : Aside s (s.sendPotOrder p f) := by
  unfold State.sendPotOrder
  dsimp only
  split
  · exact Aside.settled (.of_pots rfl rfl)
  · exact .of_pots rfl rfl

theorem State.aside_modPot (s : State) (p : Fin 384) {f : Pot → Pot} (hf : (s.pot p).KeepsLog (f (s.pot p))) :
    Aside s (s.modPot p f) := by
  refine ⟨rfl, fun k => ?_⟩
  by_cases hk : k = p
  · subst hk
    simpa using hf
  · rw [State.pot_modPot_of_ne _ _ hk]
    exact .refl _

theorem State.aside_sendAsk (s : State) (f : Frame) : Aside s (s.sendAsk f) := Aside.settled (.of_pots rfl rfl)

theorem State.aside_sendCoolerOrder (s : State) (f : Frame) : Aside s (s.sendCoolerOrder f) := Aside.settled (.of_pots rfl rfl)

theorem State.aside_sendNotice (s : State) (f : Frame) : Aside s (s.sendNotice f) := by
  unfold State.sendNotice
  dsimp only
  split
  · exact .refl s
  · split
    · exact .of_pots rfl rfl
    · exact Aside.settled (.of_pots rfl rfl)

theorem State.aside_notify (s : State) (g : Fin 8) : Aside s (s.notify g) := by
  unfold State.notify
  dsimp only
  split
  · exact .refl s
  · exact s.aside_sendNotice _

theorem State.aside_sendGroupOrder (s : State) (g : Fin 8) (f : Frame) : Aside s (s.sendGroupOrder g f) := by
  unfold State.sendGroupOrder
  dsimp only
  split
  · exact Aside.settled (.of_pots rfl rfl)
  · exact .of_pots rfl rfl

theorem State.aside_modGroup (s : State) (g : Fin 8) (f : Group → Group) : Aside s (s.modGroup g f) := .of_pots rfl rfl

theorem State.aside_dropGroupFrames (s : State) (g : Fin 8) : Aside s (s.dropGroupFrames g) := .of_pots rfl rfl

theorem State.aside_releaseCore (s : State) (g : Fin 8) : Aside s (s.releaseCore g) := by
  unfold State.releaseCore
  dsimp only
  split
  · exact (((s.aside_modGroup g _).trans (State.aside_dropGroupFrames _ g)).trans (State.aside_notify _ g)).trans
      (State.aside_modGroup _ g _)
  · exact .refl s

theorem State.aside_confirmPending (s : State) (g : Fin 8) : Aside s (s.confirmPending g) := by
  unfold State.confirmPending
  split
  · exact .refl s
  · exact (s.aside_modGroup g _).trans (State.aside_notify _ g)

theorem State.aside_beginRestart (s : State) : Aside s s.beginRestart := Aside.settled (.of_pots rfl rfl)

theorem State.Unread.aside {s t : State} (h : s.Unread t) : Aside s t := by
  rw [h]
  exact .of_pots rfl rfl

/-! ### The line record and Ic -/

/-- On `s` the laws of the line record are kept by an Ic of `c` with the line record `x`. -/
structure State.LineKept (s : State) (c : Nat) (x : Line) : Prop where
  target : targetLaw s → targetLaw { s with clu.ic := c, line := x }
  player : playerLaw s → playerLaw { s with clu.ic := c, line := x }
  hold : holdLaw s → holdLaw { s with clu.ic := c, line := x }
  heat : heatLaw s → heatLaw { s with clu.ic := c, line := x }

/-- The below-floor flag stands in no law (R74). -/
theorem State.aside_workBelowFloor (s : State) : Aside s s.workBelowFloor := by
  unfold State.workBelowFloor
  split_ifs
  · exact .refl s
  · refine Aside.trans ?_ (State.aside_raise _ _ _ _ _)
    exact .of_pots rfl rfl
  · exact .of_pots rfl rfl

/-- The heat recovery flag as R78 leaves it. -/
def Line.heatWorked (l : Line) : Line :=
  { l with heatRecovery := if l.cfg.hl ≤ l.hd then true else if l.hd < l.cfg.hl / 2 then false else l.heatRecovery }

theorem State.aside_workHeatRecovery (s : State) : Aside { s with line := s.line.heatWorked } s.workHeatRecovery := by
  have hflag : ∀ b : Bool, s.line.heatWorked.heatRecovery = b → Aside { s with line := s.line.heatWorked } { s with line.heatRecovery := b } :=
    fun b hb => hb ▸ .of_pots rfl rfl
  unfold State.workHeatRecovery
  dsimp only
  split_ifs with hset hclear
  · exact (hflag true (by simp [Line.heatWorked, hset.1])).trans (State.aside_raise _ _ _ _ _)
  · refine hflag false ?_
    have : ¬ s.line.cfg.hl ≤ s.line.hd := by omega
    simp [Line.heatWorked, hclear.1, this]
  · refine hflag s.line.heatRecovery ?_
    unfold Line.heatWorked
    dsimp only
    split_ifs with h h'
    · cases hr : s.line.heatRecovery
      · exact absurd ⟨h, hr⟩ hset
      · rfl
    · cases hr : s.line.heatRecovery
      · rfl
      · exact absurd ⟨h', hr⟩ hclear
    · rfl

/-- A line record with its heat recovery flag worked keeps the laws of the line that the record before keeps (R78). -/
theorem State.lineKept_heatWorked {s : State} {x : Line} (h : s.KeepsLine x) : s.LineKept s.clu.ic x.heatWorked := by
  obtain ⟨htarget, hplayer, hhold⟩ := h
  refine ⟨htarget, hplayer, hhold, fun _ => ?_⟩
  refine ⟨fun (hset : x.cfg.hl ≤ x.hd) => if_pos hset, fun (hclear : x.hd < x.cfg.hl / 2) => ?_⟩
  have : ¬ x.cfg.hl ≤ x.hd := by omega
  exact (if_neg this).trans (if_pos hclear)

/-- The line record that takes an Ic of `c` out of TRIPPED (R73; log 22). -/
def Line.taking (l : Line) (c : Nat) : Line := if l.state = .tripped then l else l.lowerTo c

theorem State.aside_withCapacity (s : State) (c : Nat) :
    Aside { s with clu.ic := c, line := if c = s.clu.ic then s.line else s.line.taking c } (s.withCapacity c) := by
  unfold State.withCapacity
  by_cases hc : c = s.clu.ic
  · rw [if_pos hc, if_pos hc]
    subst hc
    exact .refl s
  · rw [if_neg hc, if_neg hc]
    unfold State.takeCapacity Line.taking
    dsimp only
    split
    · exact .refl _
    · exact State.aside_workBelowFloor _

theorem Line.lowerTo_laws (l : Line) (c : Nat) :
    (l.lowerTo c).it = min l.it c ∧ (l.lowerTo c).state = l.state ∧ (l.lowerTo c).player = l.player ∧ (l.lowerTo c).aeHold = l.aeHold
      ∧ (l.lowerTo c).ae = l.ae ∧ (l.lowerTo c).cfg = l.cfg ∧ (l.lowerTo c).hd = l.hd ∧ (l.lowerTo c).heatRecovery = l.heatRecovery := by
  unfold Line.lowerTo
  split
  · next h => exact ⟨(min_eq_right h.le).symm, rfl, rfl, rfl, rfl, rfl, rfl, rfl⟩
  · next h => exact ⟨(min_eq_left (Nat.not_lt.mp h)).symm, rfl, rfl, rfl, rfl, rfl, rfl, rfl⟩

theorem State.lineKept_taking (s : State) (c : Nat) :
    s.LineKept c (if c = s.clu.ic then s.line else s.line.taking c) := by
  by_cases hc : c = s.clu.ic
  · rw [if_pos hc]
    subst hc
    exact ⟨id, id, id, id⟩
  · rw [if_neg hc]
    unfold Line.taking
    split
    · next ht => exact ⟨fun h => ⟨(h.2 ht).le.trans (Nat.zero_le c), h.2⟩, id, id, id⟩
    · next ht =>
      obtain ⟨hit, hstate, hplayer, haeHold, hae, hcfg, hhd, hheat⟩ := s.line.lowerTo_laws c
      refine ⟨fun _ => ⟨hit.trans_le (min_le_right _ _), fun h => absurd (hstate.symm.trans h) ht⟩, ?_, ?_, ?_⟩
      · unfold playerLaw
        dsimp only
        rw [hplayer]
        exact id
      · unfold holdLaw
        dsimp only
        rw [haeHold, hae]
        exact id
      · unfold heatLaw
        dsimp only
        rw [hcfg, hhd, hheat]
        exact id

/-- The line record of a START or RESTART for an Ic of `c` (R86). -/
def Line.prepared (l : Line) (c : Nat) : Line := { l.restarted c with player := l.player.stopped }

/-- One line record put in the place of both leaves the records standing. -/
theorem Aside.withLine {s t : State} (h : Aside s t) (x : Line) : Aside { s with line := x } { t with line := x } := by
  obtain ⟨hrecords, hpots⟩ := h
  refine ⟨?_, hpots⟩
  simp only [State.records, Prod.mk.injEq] at hrecords ⊢
  simp only [hrecords, and_self]

theorem State.aside_workShortfall (s : State) : Aside s s.workShortfall ∧ s.workShortfall.line = s.line := by
  unfold State.workShortfall
  split_ifs
  · exact ⟨.refl s, rfl⟩
  · refine ⟨Aside.trans ?_ (State.aside_raise _ _ _ _ _), State.raise_line _ _ _ _ _⟩
    exact .of_pots rfl rfl
  · exact ⟨.of_pots rfl rfl, rfl⟩

theorem State.aside_restartCapacity (s : State) (c : Nat) :
    Aside { s with clu.ic := c, line := s.line.prepared c } (s.restartCapacity c) := by
  obtain ⟨haside, hline⟩ := State.aside_workShortfall { s with clu.ic := c }
  have hic : (State.workShortfall { s with clu.ic := c }).clu.ic = c := by
    have h := haside.records
    simp only [State.records, Prod.mk.injEq] at h
    exact h.2.2.2.2.1.2.2.2
  have hrest : s.restartCapacity c
      = { State.evaluateStage (State.workShortfall { s with clu.ic := c }) with line := s.line.prepared c } := by
    have hprepared : s.line.prepared c
        = { (State.workShortfall { s with clu.ic := c }).line.restarted (State.workShortfall { s with clu.ic := c }).clu.ic with
            player := (State.workShortfall { s with clu.ic := c }).line.player.stopped } := by
      rw [hline, hic]
      rfl
    rw [hprepared]
    rfl
  rw [hrest]
  exact (haside.withLine _).trans (.of_pots rfl rfl)

theorem State.lineKept_prepared (s : State) (c : Nat) : s.LineKept c (s.line.prepared c) :=
  have hstate : (s.line.prepared c).state ≠ .tripped := by
    unfold Line.prepared Line.restarted
    dsimp only
    split <;> simp
  have hidle : (s.line.prepared c).player.state = .idle := rfl
  ⟨fun _ => ⟨min_le_right _ _, fun h => absurd h hstate⟩,
    fun _ => ⟨fun _ => ⟨rfl, rfl, rfl, rfl⟩, fun h => absurd (hidle.symm.trans h) (by simp), fun h => absurd (hidle.symm.trans h) (by simp)⟩,
    id, id⟩

/-! ### Reading a law of the records off a chain -/

/-- A property of the records is kept by a chain when it is kept by what passes them by, by the few changes of the AE log, by a line
record that keeps the laws of the line, and by the tariff unit's own work. -/
theorem Works.keeps_records {P : State → Prop} (haside : ∀ {t u : State}, P t → Aside t u → P u)
    (hclose : ∀ t p cause, P t → P (t.closeRecord p cause))
    (hamend : ∀ t p f, AeRecord.Keeps f → P t → P (t.modOpenRecord p f))
    (htrace : ∀ t p vp, P t → P (t.traceReading p vp))
    (hopen : ∀ t p, (t.pot p).ae = .suspect → P t → P (t.openEffect p))
    (hcount : ∀ t n, P t → P (t.setAeCount n))
    (hline : ∀ t c x, t.LineKept c x → P t → P { t with clu.ic := c, line := x })
    (htariff : ∀ s t u, (cacheLaw s → cacheLaw { t with tru := u }) → P s → P t → P { t with tru := u })
    {s t : State} {d : Depth} (h : Works s d t) (hs : P s) : P t := by
  induction h with
  | refl => exact hs
  | unread _ hu ih => exact haside (ih hs) hu.aside
  | forward _ f ih => exact haside (ih hs) (State.aside_forward _ f)
  | raise _ k j a b ih => exact haside (ih hs) (State.aside_raise _ k j a b)
  | sendNext _ ih => exact haside (ih hs) (State.aside_sendNext _)
  | deferralExpires _ ih => exact haside (ih hs) (State.aside_deferralExpires _)
  | modPot _ p f hf ih => exact haside (ih hs) (State.aside_modPot _ p hf)
  | dropPotFrames _ p ih => exact haside (ih hs) (.of_pots rfl rfl)
  | sendPotOrder _ p f ih => exact haside (ih hs) (State.aside_sendPotOrder _ p f)
  | closeRecord _ p cause ih => exact hclose _ p cause (ih hs)
  | amend _ p f hf ih => exact hamend _ p f hf (ih hs)
  | traceReading _ p vp ih => exact htrace _ p vp (ih hs)
  | openEffect _ p hp ih => exact hopen _ p hp (ih hs)
  | setAeCount _ n ih => exact hcount _ n (ih hs)
  | @line s t d _ x hx hheat _ ih =>
    obtain ⟨htarget, hplayer, hhold⟩ := hx
    exact hline t t.clu.ic x ⟨htarget, hplayer, hhold, hheat⟩ (ih hs)
  | @heat s t d _ x hx _ ih =>
    exact haside (hline t t.clu.ic _ (State.lineKept_heatWorked hx) (ih hs)) (State.aside_workHeatRecovery { t with line := x })
  | tariff _ u hu _ ih => exact htariff _ _ u hu hs (ih hs)
  | sendAsk _ f _ ih => exact haside (ih hs) (State.aside_sendAsk _ f)
  | energy _ u _ ih => exact haside (ih hs) (.of_pots rfl rfl)
  | sendCoolerOrder _ f _ ih => exact haside (ih hs) (State.aside_sendCoolerOrder _ f)
  | clu _ c hic _ ih => exact haside (ih hs) (.of_pots (by simp only [State.records, hic]) rfl)
  | modGroup _ g f _ ih => exact haside (ih hs) (State.aside_modGroup _ g f)
  | mapGroups _ f _ ih => exact haside (ih hs) (.of_pots rfl rfl)
  | sendNotice _ f ih => exact haside (ih hs) (State.aside_sendNotice _ f)
  | dropGroupFrames _ g ih => exact haside (ih hs) (State.aside_dropGroupFrames _ g)
  | withCapacity _ c _ ih => exact haside (hline _ c _ (State.lineKept_taking _ c) (ih hs)) (State.aside_withCapacity _ c)
  | claim _ g _ _ ih => exact haside (ih hs) (State.aside_modGroup _ g _)
  | sendGroupOrder _ g f _ _ ih => exact haside (ih hs) (State.aside_sendGroupOrder _ g f)
  | releaseCore _ g _ ih => exact haside (ih hs) (State.aside_releaseCore _ g)
  | fallBack _ g f _ _ _ _ ih ihu =>
    exact haside (ihu (haside (ih hs) (State.aside_modGroup _ g f))) (State.aside_confirmPending _ g)
  | address _ _ _ _ _ ih => exact haside (ih hs) (.of_pots rfl rfl)
  | beginRestart _ ih => exact haside (ih hs) (State.aside_beginRestart _)
  | restartCapacity _ c ih => exact haside (hline _ c _ (State.lineKept_prepared _ c) (ih hs)) (State.aside_restartCapacity _ c)
  | standDown _ o ih => exact haside (ih hs) (.of_pots rfl rfl)

end Sys2Proof.Machine
end

section
/-! SUPPORT. The laws of the line record and of the cache along a chain of changes (O9, O13). -/

namespace Sys2Proof.Machine

/-! ### Work on effects, as the other records see it -/

/-- From `s` to `t` pots and effects alone have changed, and the AE hold flag stands with the AE count or follows it (R56, R75). -/
def State.OnEffects (s t : State) : Prop :=
  t = { s with psu.pots := t.psu.pots, aeu := t.aeu, line.aeHold := t.line.aeHold }
    ∧ (t.line.aeHold = s.line.aeHold ∧ t.aeu.count = s.aeu.count ∨ holdLaw t)

theorem State.onEffects_modOpenRecord (s : State) (p : Fin 384) (f : AeRecord → AeRecord) : s.OnEffects (s.modOpenRecord p f) := by
  unfold State.modOpenRecord
  split <;> exact ⟨rfl, .inl ⟨rfl, rfl⟩⟩

theorem State.onEffects_closeRecord (s : State) (p : Fin 384) (cause : EndCause) : s.OnEffects (s.closeRecord p cause) := by
  unfold State.closeRecord State.modOpenRecord
  dsimp only
  split <;> exact ⟨rfl, .inl ⟨rfl, rfl⟩⟩

theorem State.onEffects_traceReading (s : State) (p : Fin 384) (vp : Nat) : s.OnEffects (s.traceReading p vp) := by
  unfold State.traceReading
  split
  · exact ⟨rfl, .inl ⟨rfl, rfl⟩⟩
  · exact ⟨rfl, .inl ⟨rfl, Aeu.enterTrace_count _ _ _⟩⟩

theorem State.onEffects_setAeCount (s : State) (n : Nat) : s.OnEffects (s.setAeCount n) := ⟨rfl, .inr rfl⟩

theorem State.onEffects_openEffect (s : State) (p : Fin 384) : s.OnEffects (s.openEffect p) := by
  refine ⟨rfl, .inr ?_⟩
  have hcount : (s.openEffect p).aeu.count = s.aeu.count + 1 := Aeu.place_count _ _ _
  unfold holdLaw
  rw [hcount]
  rfl

/-- A law that does not read pots and effects, or the AE hold flag with its count alone, is read off a chain so. -/
theorem Works.keeps_line {P : State → Prop} (haside : ∀ {t u : State}, P t → Aside t u → P u)
    (heffects : ∀ {t u : State}, t.OnEffects u → P t → P u)
    (hline : ∀ t c x, t.LineKept c x → P t → P { t with clu.ic := c, line := x })
    (htariff : ∀ s t u, (cacheLaw s → cacheLaw { t with tru := u }) → P s → P t → P { t with tru := u })
    {s t : State} {d : Depth} (h : Works s d t) (hs : P s) : P t :=
  h.keeps_records haside (fun t p cause => heffects (t.onEffects_closeRecord p cause))
    (fun t p f _ => heffects (t.onEffects_modOpenRecord p f)) (fun t p vp => heffects (t.onEffects_traceReading p vp))
    (fun t p _ => heffects (t.onEffects_openEffect p)) (fun t n => heffects (t.onEffects_setAeCount n)) hline htariff hs

/-! ### The laws -/

theorem Aside.targetLaw {s t : State} (h : Aside s t) (hs : targetLaw s) : targetLaw t := by
  have hrecords := h.records
  simp only [State.records, Prod.mk.injEq] at hrecords
  simpa only [Machine.targetLaw, hrecords] using hs

theorem Aside.playerLaw {s t : State} (h : Aside s t) (hs : playerLaw s) : playerLaw t := by
  have hrecords := h.records
  simp only [State.records, Prod.mk.injEq] at hrecords
  simpa only [Machine.playerLaw, hrecords] using hs

theorem Aside.heatLaw {s t : State} (h : Aside s t) (hs : heatLaw s) : heatLaw t := by
  have hrecords := h.records
  simp only [State.records, Prod.mk.injEq] at hrecords
  simpa only [Machine.heatLaw, hrecords] using hs

theorem Aside.holdLaw {s t : State} (h : Aside s t) (hs : holdLaw s) : holdLaw t := by
  have hrecords := h.records
  simp only [State.records, Prod.mk.injEq] at hrecords
  simpa only [Machine.holdLaw, hrecords] using hs

theorem Aside.cacheLaw {s t : State} (h : Aside s t) (hs : cacheLaw s) : cacheLaw t := by
  have hrecords := h.records
  simp only [State.records, Prod.mk.injEq] at hrecords
  simpa only [Machine.cacheLaw, hrecords] using hs

theorem Works.targetLaw {s t : State} {d : Depth} (h : Works s d t) (hs : targetLaw s) : targetLaw t := by
  refine h.keeps_line (P := Machine.targetLaw) (fun ht haside => ?_) (fun heffects ht => ?_) (fun t c x hx ht => hx.target ht)
    (fun _ _ _ _ _ ht => ht) hs
  · exact haside.targetLaw ht
  · rw [heffects.1]
    exact ht

theorem Works.playerLaw {s t : State} {d : Depth} (h : Works s d t) (hs : playerLaw s) : playerLaw t := by
  refine h.keeps_line (P := Machine.playerLaw) (fun ht haside => ?_) (fun heffects ht => ?_) (fun t c x hx ht => hx.player ht)
    (fun _ _ _ _ _ ht => ht) hs
  · exact haside.playerLaw ht
  · rw [heffects.1]
    exact ht

theorem Works.heatLaw {s t : State} {d : Depth} (h : Works s d t) (hs : heatLaw s) : heatLaw t := by
  refine h.keeps_line (P := Machine.heatLaw) (fun ht haside => ?_) (fun heffects ht => ?_) (fun t c x hx ht => hx.heat ht)
    (fun _ _ _ _ _ ht => ht) hs
  · exact haside.heatLaw ht
  · rw [heffects.1]
    exact ht

theorem Works.holdLaw {s t : State} {d : Depth} (h : Works s d t) (hs : holdLaw s) : holdLaw t := by
  refine h.keeps_line (P := Machine.holdLaw) (fun ht haside => ?_) (fun {t u} heffects ht => ?_) (fun t c x hx ht => hx.hold ht)
    (fun _ _ _ _ _ ht => ht) hs
  · exact haside.holdLaw ht
  · obtain ⟨hu, ⟨hflag, hcount⟩ | hlaw⟩ := heffects
    · have hlimit : u.line.ae = t.line.ae := by rw [hu]
      unfold Machine.holdLaw
      rw [hflag, hcount, hlimit]
      exact ht
    · exact hlaw

/-- The cache and the fetches keep their law along a chain (R147, R149). -/
theorem Works.cacheLaw {s t : State} {d : Depth} (h : Works s d t) (hs : cacheLaw s) : cacheLaw t := by
  refine h.keeps_line (P := Machine.cacheLaw) (fun ht haside => ?_) (fun heffects ht => ?_) (fun t c x hx ht => ht)
    (fun _ _ _ hu hs _ => hu hs) hs
  · exact haside.cacheLaw ht
  · rw [heffects.1]
    exact ht

end Sys2Proof.Machine
end

section
/-! SUPPORT. The AE log and the trace store agree along a chain of changes (O11). -/

namespace Sys2Proof.Machine

/-! ### The agreement, on the lists -/

/-- The AE log agrees with the trace store and with the pots' log indices (R58, R61). -/
structure LogAgrees (log : List AeRecord) (trace : List Run) (index : Fin 384 → Option Nat) : Prop where
  nodup : (log.map AeRecord.place).Nodup
  places : ∀ r ∈ log, r.place < Config.logPlaces
  owned : ∀ x ∈ trace, ∃ r ∈ log, r.place = x.place
  counts : ∀ r ∈ log, r.runCount = trace.countP (fun x => x.place == r.place) ∧ r.runCount ≤ Config.recordRuns
  opened : ∀ p pl, index p = some pl ↔ ∃ r ∈ log, r.place = pl ∧ r.pot = p ∧ r.closed = false

/-- The log indices of the pots. -/
def State.logIndices (s : State) (p : Fin 384) : Option Nat := (s.pot p).logIndex

theorem logLaw_iff {s : State} : logLaw s ↔ LogAgrees s.aeu.log s.aeu.trace s.logIndices
    ∧ ∀ p, (s.pot p).ae = .quiet ∨ (s.pot p).ae = .suspect → (s.pot p).logIndex = none := by
  constructor
  · rintro ⟨hnodup, hplaces, howned, hcounts, hquiet, hopened⟩
    exact ⟨⟨hnodup, hplaces, howned, hcounts, hopened⟩, hquiet⟩
  · rintro ⟨⟨hnodup, hplaces, howned, hcounts, hopened⟩, hquiet⟩
    exact ⟨hnodup, hplaces, howned, hcounts, hquiet, hopened⟩

/-- A record is found by its place (R58). -/
theorem eq_of_place {log : List AeRecord} (hnodup : (log.map AeRecord.place).Nodup) {r r' : AeRecord} (hr : r ∈ log) (hr' : r' ∈ log)
    (h : r.place = r'.place) : r = r' := List.inj_on_of_nodup_map hnodup hr hr' h

/-- Records whose places and pots stand agree with a store that their counts fit and with indices that their closings fit. -/
theorem LogAgrees.mapped {log : List AeRecord} {trace trace' : List Run} {index index' : Fin 384 → Option Nat}
    (h : LogAgrees log trace index) {g : AeRecord → AeRecord} (hg : ∀ r, (g r).place = r.place ∧ (g r).pot = r.pot)
    (howned : ∀ x ∈ trace', ∃ r ∈ log, r.place = x.place)
    (hcounts : ∀ r ∈ log, (g r).runCount = trace'.countP (fun x => x.place == r.place) ∧ (g r).runCount ≤ Config.recordRuns)
    (hopened : ∀ p pl, index' p = some pl ↔ ∃ r ∈ log, r.place = pl ∧ r.pot = p ∧ (g r).closed = false) :
    LogAgrees (log.map g) trace' index' := by
  have hplace : AeRecord.place ∘ g = AeRecord.place := funext fun r => (hg r).1
  refine ⟨?_, ?_, ?_, ?_, ?_⟩
  · rw [List.map_map, hplace]
    exact h.nodup
  · intro x hx
    obtain ⟨r, hr, rfl⟩ := List.mem_map.mp hx
    exact (hg r).1 ▸ h.places r hr
  · intro x hx
    obtain ⟨r, hr, hrx⟩ := howned x hx
    exact ⟨g r, List.mem_map_of_mem hr, (hg r).1.trans hrx⟩
  · intro x hx
    obtain ⟨r, hr, rfl⟩ := List.mem_map.mp hx
    rw [(hg r).1]
    exact hcounts r hr
  · intro p pl
    rw [hopened p pl]
    constructor
    · rintro ⟨r, hr, hpl, hpot, hclosed⟩
      exact ⟨g r, List.mem_map_of_mem hr, (hg r).1.trans hpl, (hg r).2.trans hpot, hclosed⟩
    · rintro ⟨x, hx, hpl, hpot, hclosed⟩
      obtain ⟨r, hr, rfl⟩ := List.mem_map.mp hx
      exact ⟨r, hr, (hg r).1.symm.trans hpl, (hg r).2.symm.trans hpot, hclosed⟩

/-- Records changed in other fields agree as before. -/
theorem LogAgrees.amended {log : List AeRecord} {trace : List Run} {index : Fin 384 → Option Nat} (h : LogAgrees log trace index)
    {f : AeRecord → AeRecord} (hf : AeRecord.Keeps f) : LogAgrees (log.map f) trace index :=
  h.mapped (fun r => ⟨(hf r).1, (hf r).2.1⟩) h.owned (fun r hr => (hf r).2.2.2 ▸ h.counts r hr) fun p pl => by
    simp only [(hf _).2.2.1]
    exact h.opened p pl

/-- A change at one place, of what ties no record, keeps every record tied. -/
theorem AeRecord.Keeps.at {f : AeRecord → AeRecord} (hf : AeRecord.Keeps f) (pl : Nat) :
    AeRecord.Keeps fun r => if r.place = pl then f r else r := by
  intro r
  by_cases h : r.place = pl
  · simpa only [if_pos h] using hf r
  · simp only [if_neg h, and_self]

/-- The record of a pot's effect is closed and the pot names none (R59). -/
theorem LogAgrees.closed {log : List AeRecord} {trace : List Run} {index : Fin 384 → Option Nat} (h : LogAgrees log trace index)
    {p : Fin 384} {pl : Nat} (hp : index p = some pl) {f : AeRecord → AeRecord}
    (hf : ∀ r, (f r).place = r.place ∧ (f r).pot = r.pot ∧ (f r).closed = true ∧ (f r).runCount = r.runCount) :
    LogAgrees (log.map fun r => if r.place = pl then f r else r) trace fun k => if k = p then none else index k := by
  obtain ⟨r0, hr0, hpl0, hpot0, -⟩ := (h.opened p pl).mp hp
  refine h.mapped (fun r => ?_) h.owned (fun r hr => ?_) fun k pk => ?_
  · split
    · exact ⟨(hf r).1, (hf r).2.1⟩
    · exact ⟨rfl, rfl⟩
  · split
    · rw [(hf r).2.2.2]
      exact h.counts r hr
    · exact h.counts r hr
  · constructor
    · intro hk
      have hne : k ≠ p := by
        rintro rfl
        simp at hk
      rw [if_neg hne] at hk
      obtain ⟨r, hr, hrpl, hrpot, hrclosed⟩ := (h.opened k pk).mp hk
      have hother : r.place ≠ pl := fun e =>
        hne (hrpot.symm.trans (eq_of_place h.nodup hr hr0 (e.trans hpl0.symm) ▸ hpot0))
      exact ⟨r, hr, hrpl, hrpot, by rwa [if_neg hother]⟩
    · rintro ⟨r, hr, hrpl, hrpot, hrclosed⟩
      have hother : r.place ≠ pl := by
        intro e
        rw [if_pos e, (hf r).2.2.1] at hrclosed
        exact nomatch hrclosed
      rw [if_neg hother] at hrclosed
      have hk : index k = some pk := (h.opened k pk).mpr ⟨r, hr, hrpl, hrpot, hrclosed⟩
      have hne : k ≠ p := by
        rintro rfl
        exact hother (hrpl.trans (Option.some.inj (hk.symm.trans hp)))
      rwa [if_neg hne]

/-! ### The trace store (R61) -/

/-- A run that takes one more reading keeps its place (R61). -/
theorem extendLast_places {pl level : Nat} : ∀ {l l' : List Run}, extendLast pl level l = some l' → l'.map Run.place = l.map Run.place := by
  intro l
  induction l with
  | nil => exact fun h => nomatch h
  | cons r rest ih =>
    intro l' h
    unfold extendLast at h
    split at h
    · obtain ⟨m, hm, rfl⟩ := Option.map_eq_some_iff.mp h
      rw [List.map_cons, List.map_cons, ih hm]
    · split at h
      · cases h
        rfl
      · exact nomatch h

/-- The agreement reads the places of the runs alone. -/
theorem LogAgrees.of_places {log : List AeRecord} {trace trace' : List Run} {index : Fin 384 → Option Nat}
    (h : LogAgrees log trace index) (ht : trace'.map Run.place = trace.map Run.place) : LogAgrees log trace' index := by
  have hcount : ∀ pl, trace'.countP (fun x => x.place == pl) = trace.countP (fun x => x.place == pl) := by
    intro pl
    have := congrArg (List.countP fun n => n == pl) ht
    simpa [List.countP_map, Function.comp_def] using this
  refine ⟨h.nodup, h.places, ?_, ?_, h.opened⟩
  · intro x hx
    have : x.place ∈ trace.map Run.place := ht ▸ List.mem_map_of_mem hx
    obtain ⟨y, hy, hyx⟩ := List.mem_map.mp this
    obtain ⟨r, hr, hry⟩ := h.owned y hy
    exact ⟨r, hr, hry.trans hyx⟩
  · intro r hr
    rw [hcount]
    exact h.counts r hr

/-- The first run leaves the store and its record counts one less (R61). -/
theorem LogAgrees.tail {log : List AeRecord} {x : Run} {rest : List Run} {index : Fin 384 → Option Nat}
    (h : LogAgrees log (x :: rest) index) {f : AeRecord → AeRecord}
    (hf : ∀ r, (f r).place = r.place ∧ (f r).pot = r.pot ∧ (f r).closed = r.closed ∧ (f r).runCount = r.runCount - 1) :
    LogAgrees (log.map fun r => if r.place = x.place then f r else r) rest index := by
  refine h.mapped (fun r => ?_) (fun y hy => h.owned y (List.mem_cons_of_mem _ hy)) (fun r hr => ?_) fun p pl => ?_
  · split
    · exact ⟨(hf r).1, (hf r).2.1⟩
    · exact ⟨rfl, rfl⟩
  · obtain ⟨hcount, hle⟩ := h.counts r hr
    rw [List.countP_cons] at hcount
    by_cases e : r.place = x.place
    · have hx : (x.place == r.place) = true := by simp [e]
      rw [if_pos hx] at hcount
      rw [if_pos e, (hf r).2.2.2]
      omega
    · have hx : ¬ (x.place == r.place) = true := by simpa using Ne.symm e
      rw [if_neg hx] at hcount
      rw [if_neg e]
      omega
  · have hclosed : ∀ r, (if r.place = x.place then f r else r).closed = r.closed := fun r => by
      split
      · exact (hf r).2.2.1
      · rfl
    simp only [hclosed]
    exact h.opened p pl

/-- A new run enters the store and its record, which has room, counts one more (R61). -/
theorem LogAgrees.entered {log : List AeRecord} {trace : List Run} {index : Fin 384 → Option Nat} (h : LogAgrees log trace index) {x : Run}
    (hx : ∃ r ∈ log, r.place = x.place) (hroom : ∀ r ∈ log, r.place = x.place → r.runCount < Config.recordRuns)
    {f : AeRecord → AeRecord}
    (hf : ∀ r, (f r).place = r.place ∧ (f r).pot = r.pot ∧ (f r).closed = r.closed ∧ (f r).runCount = r.runCount + 1) :
    LogAgrees (log.map fun r => if r.place = x.place then f r else r) (trace ++ [x]) index := by
  refine h.mapped (fun r => ?_) (fun y hy => ?_) (fun r hr => ?_) fun p pl => ?_
  · split
    · exact ⟨(hf r).1, (hf r).2.1⟩
    · exact ⟨rfl, rfl⟩
  · rcases List.mem_append.mp hy with hy | hy
    · exact h.owned y hy
    · rw [List.mem_singleton.mp hy]
      exact hx
  · obtain ⟨hcount, hle⟩ := h.counts r hr
    rw [List.countP_append, List.countP_singleton]
    by_cases e : r.place = x.place
    · have := hroom r hr e
      have hx : (x.place == r.place) = true := by simp [e]
      rw [if_pos e, (hf r).2.2.2, if_pos hx]
      omega
    · have hx : ¬ (x.place == r.place) = true := by simpa using Ne.symm e
      rw [if_neg e, if_neg hx]
      omega
  · have hclosed : ∀ r, (if r.place = x.place then f r else r).closed = r.closed := fun r => by
      split
      · exact (hf r).2.2.1
      · rfl
    simp only [hclosed]
    exact h.opened p pl

/-- A full store loses its first run, and another loses none (R61). -/
theorem LogAgrees.discardFirst {u : Aeu} {index : Fin 384 → Option Nat} (h : LogAgrees u.log u.trace index) :
    LogAgrees u.discardFirst.log u.discardFirst.trace index := by
  unfold Aeu.discardFirst
  split
  · exact h
  · split
    · exact h
    · next x rest hx => exact LogAgrees.tail (hx ▸ h) fun r => ⟨rfl, rfl, rfl, rfl⟩

/-- The records stand in their places, with counts that a discarded run can only lower. -/
theorem Aeu.discardFirst_log (u : Aeu) : ∀ r ∈ u.discardFirst.log, ∃ r' ∈ u.log, r'.place = r.place ∧ r.runCount ≤ r'.runCount := by
  have hself : ∀ r ∈ u.log, ∃ r' ∈ u.log, r'.place = r.place ∧ r.runCount ≤ r'.runCount := fun r hr => ⟨r, hr, rfl, le_rfl⟩
  unfold Aeu.discardFirst
  split
  · exact hself
  · split
    · exact hself
    · intro r hr
      obtain ⟨r', hr', rfl⟩ := List.mem_map.mp hr
      refine ⟨r', hr', ?_⟩
      split
      · exact ⟨rfl, Nat.sub_le _ _⟩
      · exact ⟨rfl, le_rfl⟩

theorem Aeu.mem_discardFirst_log {u : Aeu} {r : AeRecord} (hr : r ∈ u.log) : ∃ r' ∈ u.discardFirst.log, r'.place = r.place := by
  unfold Aeu.discardFirst
  split
  · exact ⟨r, hr, rfl⟩
  · split
    · exact ⟨r, hr, rfl⟩
    · refine ⟨_, List.mem_map_of_mem hr, ?_⟩
      split <;> rfl

/-- A reading entered in the trace of a record leaves the log and the store in agreement (R61). -/
theorem LogAgrees.enterTrace {u : Aeu} {index : Fin 384 → Option Nat} (h : LogAgrees u.log u.trace index) {pl : Nat}
    (hpl : ∃ r ∈ u.log, r.place = pl) (vp : Nat) : LogAgrees (u.enterTrace pl vp).log (u.enterTrace pl vp).trace index := by
  have hsamples : AeRecord.Keeps fun r => { r with samples := min (r.samples + 1) 65535 } := fun r => ⟨rfl, rfl, rfl, rfl⟩
  have hfull : AeRecord.Keeps fun r => { r with truncated := true } := fun r => ⟨rfl, rfl, rfl, rfl⟩
  have hlonger : AeRecord.Keeps (AeRecord.enter vp false) := fun r => ⟨rfl, rfl, rfl, rfl⟩
  set u1 : Aeu := { u with log := u.log.map fun r => if r.place = pl then { r with samples := min (r.samples + 1) 65535 } else r } with hu1
  have h1 : LogAgrees u1.log u1.trace index := h.amended (hsamples.at pl)
  have hpl1 : ∃ r ∈ u1.log, r.place = pl := by
    obtain ⟨r, hr, hrpl⟩ := hpl
    exact ⟨_, List.mem_map_of_mem hr, ((hsamples.at pl) r).1.trans hrpl⟩
  unfold Aeu.enterTrace
  simp only
  rw [← hu1]
  split
  · next t ht => exact (h1.of_places (extendLast_places ht)).amended (hlonger.at pl)
  · split
    · exact h1.amended (hfull.at pl)
    · next hroom =>
      have hroom1 : ∀ r ∈ u1.log, r.place = pl → r.runCount < Config.recordRuns := by
        intro r hr hrpl
        by_contra hc
        exact hroom (List.any_eq_true.mpr ⟨r, hr, by simp [hrpl, Nat.not_lt.mp hc]⟩)
      refine (h1.discardFirst).entered (x := { place := pl, level := levelOf vp, count := 1 }) ?_ ?_ fun r => ⟨rfl, rfl, rfl, rfl⟩
      · obtain ⟨r, hr, hrpl⟩ := hpl1
        obtain ⟨r', hr', hplace⟩ := Aeu.mem_discardFirst_log hr
        exact ⟨r', hr', hplace.trans hrpl⟩
      · intro r hr hrpl
        obtain ⟨r', hr', hplace, hle⟩ := u1.discardFirst_log r hr
        exact Nat.lt_of_le_of_lt hle (hroom1 r' hr' (hplace.trans hrpl))

/-! ### A place for a new record (R58) -/

/-- A new OPEN record at a place that no record holds. -/
theorem LogAgrees.appended {log : List AeRecord} {trace : List Run} {index : Fin 384 → Option Nat} (h : LogAgrees log trace index)
    {p : Fin 384} (hp : index p = none) {pl : Nat} (hfree : ∀ r ∈ log, r.place ≠ pl) (hlt : pl < Config.logPlaces) (q : Pot) :
    LogAgrees (log ++ [newRecord pl p q]) trace fun k => if k = p then some pl else index k := by
  refine ⟨?_, ?_, ?_, ?_, ?_⟩
  · rw [List.map_append, List.map_singleton, List.nodup_append]
    refine ⟨h.nodup, List.nodup_singleton _, fun a ha b hb => ?_⟩
    obtain ⟨r, hr, rfl⟩ := List.mem_map.mp ha
    rw [List.mem_singleton.mp hb]
    exact hfree r hr
  · intro r hr
    rcases List.mem_append.mp hr with hr | hr
    · exact h.places r hr
    · rw [List.mem_singleton.mp hr]
      exact hlt
  · intro x hx
    obtain ⟨r, hr, hrx⟩ := h.owned x hx
    exact ⟨r, List.mem_append_left _ hr, hrx⟩
  · intro r hr
    rcases List.mem_append.mp hr with hr | hr
    · exact h.counts r hr
    · rw [List.mem_singleton.mp hr]
      refine ⟨(List.countP_eq_zero.mpr fun x hx => ?_).symm, Nat.zero_le _⟩
      obtain ⟨r', hr', hrx⟩ := h.owned x hx
      simpa [newRecord, ← hrx] using hfree r' hr'
  · intro k pk
    by_cases hk : k = p
    · subst hk
      rw [if_pos rfl, Option.some.injEq]
      constructor
      · rintro rfl
        exact ⟨_, List.mem_append_right _ (List.mem_singleton_self _), rfl, rfl, rfl⟩
      · rintro ⟨r, hr, hrpl, hrpot, hrclosed⟩
        rcases List.mem_append.mp hr with hr | hr
        · exact absurd ((h.opened k pk).mpr ⟨r, hr, hrpl, hrpot, hrclosed⟩) (by simp [hp])
        · rw [List.mem_singleton.mp hr] at hrpl
          exact hrpl
    · rw [if_neg hk, h.opened k pk]
      constructor
      · rintro ⟨r, hr, hrest⟩
        exact ⟨r, List.mem_append_left _ hr, hrest⟩
      · rintro ⟨r, hr, hrpl, hrpot, hrclosed⟩
        rcases List.mem_append.mp hr with hr | hr
        · exact ⟨r, hr, hrpl, hrpot, hrclosed⟩
        · rw [List.mem_singleton.mp hr] at hrpot
          exact absurd hrpot.symm hk

/-- A CLOSED record leaves the log with its runs. -/
theorem LogAgrees.removed {before after : List AeRecord} {old : AeRecord} {trace : List Run} {index : Fin 384 → Option Nat}
    (h : LogAgrees (before ++ old :: after) trace index) (hold : old.closed = true) :
    LogAgrees (before ++ after) (trace.filter fun x => x.place != old.place) index
      ∧ ∀ r ∈ before ++ after, r.place ≠ old.place := by
  have hsub : (before ++ after).Sublist (before ++ old :: after) := (List.sublist_cons_self _ _).append_left _
  have hother : ∀ r ∈ before ++ after, r.place ≠ old.place := by
    have hnodup := h.nodup
    rw [List.map_append, List.map_cons, List.nodup_middle, List.nodup_cons, ← List.map_append] at hnodup
    exact fun r hr e => hnodup.1 (e ▸ List.mem_map_of_mem hr)
  have hmem : ∀ r ∈ before ++ old :: after, r ≠ old → r ∈ before ++ after := by
    intro r hr hne
    simp only [List.mem_append, List.mem_cons] at hr ⊢
    tauto
  refine ⟨⟨h.nodup.sublist (hsub.map _), fun r hr => h.places r (hsub.subset hr), ?_, ?_, ?_⟩, hother⟩
  · intro x hx
    obtain ⟨hx, hne⟩ := List.mem_filter.mp hx
    obtain ⟨r, hr, hrx⟩ := h.owned x hx
    exact ⟨r, hmem r hr (by rintro rfl; simp [hrx] at hne), hrx⟩
  · intro r hr
    obtain ⟨hcount, hle⟩ := h.counts r (hsub.subset hr)
    refine ⟨hcount.trans ?_, hle⟩
    rw [List.countP_filter]
    refine List.countP_congr fun x _ => ?_
    have := hother r hr
    by_cases e : x.place = r.place
    · simp [e, this]
    · simp [e]
  · intro k pk
    rw [h.opened k pk]
    constructor
    · rintro ⟨r, hr, hrpl, hrpot, hrclosed⟩
      exact ⟨r, hmem r hr (by rintro rfl; simp [hold] at hrclosed), hrpl, hrpot, hrclosed⟩
    · rintro ⟨r, hr, hrest⟩
      exact ⟨r, hsub.subset hr, hrest⟩

theorem LogAgrees.congr {log : List AeRecord} {trace : List Run} {index index' : Fin 384 → Option Nat} (h : LogAgrees log trace index)
    (hi : ∀ p, index' p = index p) : LogAgrees log trace index' := (funext hi : index' = index) ▸ h

/-- The record of an effect that opens takes a free place, or that of the oldest CLOSED record, or none (R58). -/
theorem LogAgrees.place {u : Aeu} {index : Fin 384 → Option Nat} (h : LogAgrees u.log u.trace index) {p : Fin 384} (hp : index p = none)
    (q : Pot) : LogAgrees (u.place p q).1.log (u.place p q).1.trace fun k => if k = p then (u.place p q).2 else index k := by
  have hunlogged : LogAgrees u.log u.trace fun k => if k = p then none else index k := h.congr fun k => by
    split
    · next hk => exact (hk ▸ hp).symm
    · rfl
  unfold Aeu.place
  split
  · split
    · next pl rest hfree =>
      have hmem : pl ∈ u.freePlaces := hfree ▸ List.mem_cons_self
      simp only [Aeu.freePlaces, List.mem_filter, List.mem_range, Bool.not_eq_true', List.any_eq_false, beq_iff_eq] at hmem
      exact h.appended hp hmem.2 hmem.1 q
    · exact hunlogged
  · split
    · next old hfind =>
      obtain ⟨hold, before, after, hlog, hbefore⟩ := List.find?_eq_some_iff_append.mp hfind
      have herase : u.log.eraseP (·.closed) = before ++ after := by
        rw [hlog, List.eraseP_append_right _ (by simpa using hbefore), List.eraseP_cons_of_pos (by simpa using hold)]
      obtain ⟨hremoved, hfree⟩ := LogAgrees.removed (hlog ▸ h) hold
      simp only [herase]
      exact hremoved.appended hp hfree (h.places old (by simp [hlog])) q
    · exact hunlogged

/-! ### The law along a chain -/

/-- A change of one pot's record, as its log index shows. -/
theorem State.logIndices_modPot (s : State) (p : Fin 384) (f : Pot → Pot) :
    (s.modPot p f).logIndices = fun k => if k = p then (f (s.pot p)).logIndex else s.logIndices k := by
  funext k
  by_cases hk : k = p
  · subst hk
    simp [State.logIndices]
  · simp [State.logIndices, hk, State.pot_modPot_of_ne _ _ hk]

/-- A pot that is QUIET or SUSPECT has no log index after a change of one that leaves none, or leaves the pot in an effect. -/
theorem State.quiet_modPot {s : State} (h : ∀ p, (s.pot p).ae = .quiet ∨ (s.pot p).ae = .suspect → (s.pot p).logIndex = none)
    {p : Fin 384} {f : Pot → Pot}
    (hf : (f (s.pot p)).ae = .quiet ∨ (f (s.pot p)).ae = .suspect → (f (s.pot p)).logIndex = none) (k : Fin 384) :
    ((s.modPot p f).pot k).ae = .quiet ∨ ((s.modPot p f).pot k).ae = .suspect → ((s.modPot p f).pot k).logIndex = none := by
  by_cases hk : k = p
  · subst hk
    simpa using hf
  · rw [State.pot_modPot_of_ne _ _ hk]
    exact h k

theorem logLaw_closeRecord {s : State} (h : logLaw s) (p : Fin 384) (cause : EndCause) : logLaw (s.closeRecord p cause) := by
  obtain ⟨hagrees, hquiet⟩ := logLaw_iff.mp h
  unfold State.closeRecord State.modOpenRecord
  dsimp only
  split
  · next hnone =>
    refine logLaw_iff.mpr ⟨?_, State.quiet_modPot hquiet fun _ => rfl⟩
    rw [State.logIndices_modPot]
    refine hagrees.congr fun k => ?_
    split
    · next hk => exact (hk ▸ hnone.symm)
    · rfl
  · next pl hpl =>
    refine logLaw_iff.mpr ⟨?_, State.quiet_modPot (s := s.modRecord pl _) hquiet fun _ => rfl⟩
    rw [State.logIndices_modPot]
    exact hagrees.closed hpl fun r => ⟨rfl, rfl, rfl, rfl⟩

theorem logLaw_modOpenRecord {s : State} (h : logLaw s) (p : Fin 384) {f : AeRecord → AeRecord} (hf : AeRecord.Keeps f) :
    logLaw (s.modOpenRecord p f) := by
  obtain ⟨hagrees, hquiet⟩ := logLaw_iff.mp h
  unfold State.modOpenRecord
  split
  · exact h
  · next pl _ => exact logLaw_iff.mpr ⟨hagrees.amended (hf.at pl), hquiet⟩

theorem logLaw_traceReading {s : State} (h : logLaw s) (p : Fin 384) (vp : Nat) : logLaw (s.traceReading p vp) := by
  obtain ⟨hagrees, hquiet⟩ := logLaw_iff.mp h
  unfold State.traceReading
  split
  · exact h
  · next pl hpl =>
    obtain ⟨r, hr, hrpl, -⟩ := (hagrees.opened p pl).mp hpl
    exact logLaw_iff.mpr ⟨hagrees.enterTrace ⟨r, hr, hrpl⟩ vp, hquiet⟩

theorem logLaw_openEffect {s : State} (h : logLaw s) {p : Fin 384} (hp : (s.pot p).ae = .suspect) : logLaw (s.openEffect p) := by
  obtain ⟨hagrees, hquiet⟩ := logLaw_iff.mp h
  have hnone : s.logIndices p = none := hquiet p (.inr hp)
  have hactive : ∀ q : Pot, q.ae = .active → ∀ o : Option Nat, q.ae = .quiet ∨ q.ae = .suspect → o = none := by
    intro q hq o h
    rw [hq] at h
    simp at h
  set s1 := s.modPot p fun q => q.opened s.time with hs1
  have hopened : s1.pot p = (s.pot p).opened s.time := s.pot_modPot p _
  have hindices : s1.logIndices = s.logIndices := by
    rw [hs1, State.logIndices_modPot]
    funext k
    split
    · next hk => exact hk ▸ rfl
    · rfl
  have hquiet1 : ∀ k, (s1.pot k).ae = .quiet ∨ (s1.pot k).ae = .suspect → (s1.pot k).logIndex = none :=
    State.quiet_modPot hquiet fun _ => hnone
  refine logLaw_iff.mpr ⟨?_, State.quiet_modPot (s := { s1.setAeCount _ with aeu := _ }) hquiet1 (hactive _ (congrArg Pot.ae hopened) _)⟩
  have hagrees1 : LogAgrees s1.aeu.log s1.aeu.trace s1.logIndices := hindices.symm ▸ hagrees
  have hindex : (s.openEffect p).logIndices = _ := State.logIndices_modPot { s1.setAeCount _ with aeu := _ } p _
  rw [hindex]
  exact LogAgrees.place (u := (s1.setAeCount (s1.aeu.count + 1)).aeu) hagrees1 ((congrFun hindices p).trans hnone) (s1.pot p)

theorem Aside.logLaw {s t : State} (h : Aside s t) (hs : logLaw s) : logLaw t := by
  obtain ⟨hagrees, hquiet⟩ := logLaw_iff.mp hs
  have hrecords := h.records
  simp only [State.records, Prod.mk.injEq] at hrecords
  refine logLaw_iff.mpr ⟨?_, fun p hp => ?_⟩
  · rw [hrecords.1, hrecords.2.1]
    exact hagrees.congr fun p => (h.pots p).1
  · rw [(h.pots p).1]
    rcases (h.pots p).2 hp with hp | hp
    · exact hquiet p hp
    · exact hp

theorem Works.logLaw {s t : State} {d : Depth} (h : Works s d t) (hs : logLaw s) : logLaw t := by
  refine h.keeps_records (P := Machine.logLaw) (fun {t u} ht haside => ?_) (fun t p cause ht => ?_) (fun t p f hf ht => ?_)
    (fun t p vp ht => ?_) (fun t p hsuspect ht => ?_) (fun t n ht => ht) (fun t c x hx ht => ht) (fun _ _ _ _ _ ht => ht) hs
  · exact haside.logLaw ht
  · exact logLaw_closeRecord ht p cause
  · exact logLaw_modOpenRecord ht p hf
  · exact logLaw_traceReading ht p vp
  · exact logLaw_openEffect ht hsuspect

end Sys2Proof.Machine
end

section
/-! SUPPORT. The laws of the queues and lists along a chain of changes: their places and the addresses (O14), and the arbiter (O15). -/

namespace Sys2Proof.Machine

/-! ### Changes that bring no frame -/

/-- What the laws of the queues and lists read beside the send lists and the stores, and what no work changes at all. -/
def State.fixtures (s : State) :=
  (s.pending, s.address, (s.port.forward, s.port.insert, s.port.buffer, s.port.deferralFlag, s.port.waitCount),
    s.meu.supervisor, s.meu.server, s.meu.cooler)

/-- From `s` to `t` no frame comes into a queue or list, and no store goes past its places. -/
structure Quiet (s t : State) : Prop where
  drained : Drained s t
  fixtures : t.fixtures = s.fixtures
  active : t.active = true → s.active = true
  queue : t.egu.queue.length ≤ max s.egu.queue.length Config.energyPlaces
  log : t.aeu.log.length ≤ max s.aeu.log.length Config.logPlaces
  trace : t.aeu.trace.length ≤ max s.aeu.trace.length Config.storeRuns

theorem Quiet.refl (s : State) : Quiet s s := ⟨.refl s, rfl, id, le_max_left _ _, le_max_left _ _, le_max_left _ _⟩

theorem Quiet.trans {s t u : State} (h : Quiet s t) (h' : Quiet t u) : Quiet s u where
  drained := h.drained.trans h'.drained
  fixtures := h'.fixtures.trans h.fixtures
  active := fun hu => h.active (h'.active hu)
  queue := h'.queue.trans (max_le h.queue (le_max_right _ _))
  log := h'.log.trans (max_le h.log (le_max_right _ _))
  trace := h'.trace.trans (max_le h.trace (le_max_right _ _))

/-- Work that leaves the send lists and the stores alone. -/
theorem Quiet.of_eq {s t : State} (hfixtures : t.fixtures = s.fixtures) (hactive : t.active = s.active)
    (hpsu : t.psu.sendList = s.psu.sendList) (hgau : t.gau.sendList = s.gau.sendList) (htru : t.tru.sendList = s.tru.sendList)
    (hmeu : t.meu.sendList = s.meu.sendList) (hclu : t.clu.orderFrame = s.clu.orderFrame) (hegu : t.egu.queue = s.egu.queue)
    (haeu : t.aeu.log = s.aeu.log ∧ t.aeu.trace = s.aeu.trace) : Quiet s t where
  drained := ⟨hpsu ▸ .refl _, hgau ▸ .refl _, htru ▸ .refl _, hmeu ▸ .refl _, .inl hclu⟩
  fixtures := hfixtures
  active := fun h => hactive ▸ h
  queue := hegu ▸ le_max_left _ _
  log := haeu.1 ▸ le_max_left _ _
  trace := haeu.2 ▸ le_max_left _ _

theorem State.Unread.quiet {s t : State} (h : s.Unread t) : Quiet s t := by
  rw [h]
  exact .of_eq rfl rfl rfl rfl rfl rfl rfl rfl ⟨rfl, rfl⟩

/-- Work on pots and effects is quiet when the log and the store keep to their places. -/
theorem State.OnEffects.quiet {s t : State} (h : s.OnEffects t) (hlog : t.aeu.log.length ≤ max s.aeu.log.length Config.logPlaces)
    (htrace : t.aeu.trace.length ≤ max s.aeu.trace.length Config.storeRuns) : Quiet s t := by
  have hrest := h.1
  refine ⟨?_, ?_, ?_, ?_, hlog, htrace⟩
  · rw [hrest]
    exact ⟨.refl _, .refl _, .refl _, .refl _, .inl rfl⟩
  · rw [hrest]
    rfl
  · rw [hrest]
    exact id
  · rw [hrest]
    exact le_max_left _ _

theorem State.quiet_modOpenRecord (s : State) (p : Fin 384) (f : AeRecord → AeRecord) : Quiet s (s.modOpenRecord p f) := by
  refine (s.onEffects_modOpenRecord p f).quiet ?_ ?_
  all_goals
    unfold State.modOpenRecord
    split
    · exact le_max_left _ _
    · simp [State.modRecord]

theorem State.quiet_closeRecord (s : State) (p : Fin 384) (cause : EndCause) : Quiet s (s.closeRecord p cause) :=
  (s.quiet_modOpenRecord p _).trans (.of_eq rfl rfl rfl rfl rfl rfl rfl rfl ⟨rfl, rfl⟩)

theorem extendLast_length {pl level : Nat} {l l' : List Run} (h : extendLast pl level l = some l') : l'.length = l.length := by
  simpa using congrArg List.length (extendLast_places h)

/-- The store keeps to its places, and a full one makes room (R61). -/
theorem Aeu.discardFirst_lengths (u : Aeu) :
    u.discardFirst.log.length = u.log.length ∧ u.discardFirst.trace.length < max (u.trace.length + 1) Config.storeRuns
      ∧ u.discardFirst.trace.length + 1 ≤ max u.trace.length Config.storeRuns := by
  unfold Aeu.discardFirst
  split
  · next h => exact ⟨rfl, by omega, by omega⟩
  · split
    · next hnil => simp [hnil, Config.storeRuns]
    · next hcons => simp [hcons]

theorem Aeu.enterTrace_lengths (u : Aeu) (pl vp : Nat) :
    (u.enterTrace pl vp).log.length = u.log.length ∧ (u.enterTrace pl vp).trace.length ≤ max u.trace.length Config.storeRuns := by
  unfold Aeu.enterTrace
  dsimp only
  split
  · next h => exact ⟨by simp, by simp [extendLast_length h]⟩
  · split
    · simp
    · obtain ⟨hlog, -, htrace⟩ := Aeu.discardFirst_lengths { u with log := u.log.map fun r => if r.place = pl then { r with samples := min (r.samples + 1) 65535 } else r }
      refine ⟨?_, ?_⟩
      · rw [List.length_map, hlog, List.length_map]
      · rw [List.length_append, List.length_singleton]
        exact htrace

theorem State.quiet_traceReading (s : State) (p : Fin 384) (vp : Nat) : Quiet s (s.traceReading p vp) := by
  have hlengths : (s.traceReading p vp).aeu.log.length = s.aeu.log.length
      ∧ (s.traceReading p vp).aeu.trace.length ≤ max s.aeu.trace.length Config.storeRuns := by
    unfold State.traceReading
    split
    · exact ⟨rfl, le_max_left _ _⟩
    · exact Aeu.enterTrace_lengths _ _ _
  exact (s.onEffects_traceReading p vp).quiet (hlengths.1.le.trans (le_max_left _ _)) hlengths.2

theorem Aeu.place_lengths (u : Aeu) (p : Fin 384) (q : Pot) :
    (u.place p q).1.log.length ≤ max u.log.length Config.logPlaces ∧ (u.place p q).1.trace.length ≤ u.trace.length := by
  unfold Aeu.place
  split
  · split
    · refine ⟨?_, le_rfl⟩
      simp
      omega
    · exact ⟨le_max_left _ _, le_rfl⟩
  · split
    · next old hold =>
      refine ⟨?_, List.length_filter_le _ _⟩
      have hmem := List.mem_of_find?_eq_some hold
      have hlen := List.length_eraseP_of_mem hmem (List.find?_some hold)
      have := List.length_pos_of_mem hmem
      simp only [List.length_append, List.length_singleton, hlen]
      omega
    · exact ⟨le_max_left _ _, le_rfl⟩

theorem State.quiet_openEffect (s : State) (p : Fin 384) : Quiet s (s.openEffect p) := by
  set u := ((s.modPot p fun q => q.opened s.time).setAeCount (s.aeu.count + 1)).aeu
  set q := (s.modPot p fun q => q.opened s.time).pot p
  obtain ⟨hlog, htrace⟩ := u.place_lengths p q
  exact (s.onEffects_openEffect p).quiet hlog (htrace.trans (le_max_left _ _))

/-- Wanted setpoints and other fields of the groups stand in no queue. -/
theorem State.quiet_modGroup (s : State) (g : Fin 8) (f : Group → Group) : Quiet s (s.modGroup g f) :=
  .of_eq rfl rfl rfl rfl rfl rfl rfl rfl ⟨rfl, rfl⟩

/-- Send lists that lose frames. -/
theorem Quiet.of_drained {s t : State} (h : Drained s t) (hfixtures : t.fixtures = s.fixtures) (hactive : t.active = true → s.active = true)
    (hegu : t.egu.queue = s.egu.queue) (haeu : t.aeu.log = s.aeu.log ∧ t.aeu.trace = s.aeu.trace) : Quiet s t where
  drained := h
  fixtures := hfixtures
  active := hactive
  queue := hegu ▸ le_max_left _ _
  log := haeu.1 ▸ le_max_left _ _
  trace := haeu.2 ▸ le_max_left _ _

theorem State.quiet_dropGroupFrames (s : State) (g : Fin 8) : Quiet s (s.dropGroupFrames g) :=
  .of_drained { Drained.refl s with gau := List.filter_sublist } rfl id rfl ⟨rfl, rfl⟩

/-- What a list of a property's cases along a chain comes to: the operations that bring frames, or take places, and the quiet rest. -/
structure ListsKept (P : State → Prop) : Prop where
  quiet : ∀ {t u : State}, P t → Quiet t u → P u
  forward : ∀ (t : State) (f : Frame), P t → P (t.forward f)
  raise : ∀ (t : State) (k : EventKind) (j a b : Nat), P t → P (t.raise k j a b)
  sendNext : ∀ t : State, P t → P t.sendNext
  deferralExpires : ∀ t : State, P t → P t.deferralExpires
  sendPotOrder : ∀ (t : State) (p : Fin 384) (f : Frame), P t → P (t.sendPotOrder p f)
  sendAsk : ∀ (t : State) (f : Frame), f.dest = t.meu.server → P t → P (t.sendAsk f)
  sendCoolerOrder : ∀ (t : State) (f : Frame), f.dest = t.meu.cooler → P t → P (t.sendCoolerOrder f)
  sendNotice : ∀ (t : State) (f : Frame), P t → P (t.sendNotice f)
  sendGroupOrder : ∀ (t : State) (g : Fin 8) (f : Frame), P t → P (t.sendGroupOrder g f)
  address : ∀ (t : State) (supervisor server cooler : Addr),
    (t.meu.supervisor ≠ Config.broadcast → t.meu.server ≠ Config.broadcast → t.meu.cooler ≠ Config.broadcast →
      supervisor ≠ Config.broadcast ∧ server ≠ Config.broadcast ∧ cooler ≠ Config.broadcast) →
    P t → P { t with meu := { t.meu with supervisor := supervisor, server := server, cooler := cooler } }
  beginRestart : ∀ t : State, P t → P t.beginRestart

section
variable {P : State → Prop} (k : ListsKept P) {t : State}
include k

theorem ListsKept.workHeatRecovery (h : P t) : P t.workHeatRecovery := by
  unfold State.workHeatRecovery
  dsimp only
  split_ifs
  · exact k.raise _ _ _ _ _ (k.quiet h (.of_eq rfl rfl rfl rfl rfl rfl rfl rfl ⟨rfl, rfl⟩))
  · exact k.quiet h (.of_eq rfl rfl rfl rfl rfl rfl rfl rfl ⟨rfl, rfl⟩)
  · exact h

theorem ListsKept.workBelowFloor (h : P t) : P t.workBelowFloor := by
  unfold State.workBelowFloor
  split_ifs
  · exact h
  · exact k.raise _ _ _ _ _ (k.quiet h (.of_eq rfl rfl rfl rfl rfl rfl rfl rfl ⟨rfl, rfl⟩))
  · exact k.quiet h (.of_eq rfl rfl rfl rfl rfl rfl rfl rfl ⟨rfl, rfl⟩)

theorem ListsKept.withCapacity (h : P t) (c : Nat) : P (t.withCapacity c) := by
  have hic : P { t with clu.ic := c } := k.quiet h (.of_eq rfl rfl rfl rfl rfl rfl rfl rfl ⟨rfl, rfl⟩)
  unfold State.withCapacity State.takeCapacity
  split_ifs
  · exact h
  · exact hic
  · exact k.workBelowFloor (k.quiet hic (.of_eq rfl rfl rfl rfl rfl rfl rfl rfl ⟨rfl, rfl⟩))

theorem ListsKept.restartCapacity (h : P t) (c : Nat) : P (t.restartCapacity c) := by
  have hshort : P (State.workShortfall { t with clu.ic := c }) := by
    unfold State.workShortfall
    split_ifs
    · exact k.quiet h (.of_eq rfl rfl rfl rfl rfl rfl rfl rfl ⟨rfl, rfl⟩)
    · exact k.raise _ _ _ _ _ (k.quiet h (.of_eq rfl rfl rfl rfl rfl rfl rfl rfl ⟨rfl, rfl⟩))
    · exact k.quiet h (.of_eq rfl rfl rfl rfl rfl rfl rfl rfl ⟨rfl, rfl⟩)
  exact k.quiet hshort (.of_eq rfl rfl rfl rfl rfl rfl rfl rfl ⟨rfl, rfl⟩)

theorem ListsKept.notify (h : P t) (g : Fin 8) : P (t.notify g) := by
  unfold State.notify
  dsimp only
  split
  · exact h
  · exact k.sendNotice _ _ h

theorem ListsKept.releaseCore (h : P t) (g : Fin 8) : P (t.releaseCore g) := by
  unfold State.releaseCore
  dsimp only
  split
  · exact k.quiet (k.notify (k.quiet (k.quiet h (t.quiet_modGroup g _)) (State.quiet_dropGroupFrames _ g)) g) (State.quiet_modGroup _ g _)
  · exact h

theorem ListsKept.confirmPending (h : P t) (g : Fin 8) : P (t.confirmPending g) := by
  unfold State.confirmPending
  split
  · exact h
  · exact k.notify (k.quiet h (t.quiet_modGroup g _)) g

/-- Such a property is kept by every chain. -/
theorem ListsKept.works {s : State} {d : Depth} (h : Works s d t) (hs : P s) : P t := by
  induction h with
  | refl => exact hs
  | unread _ hu ih => exact k.quiet (ih hs) hu.quiet
  | forward _ f ih => exact k.forward _ f (ih hs)
  | raise _ e j a b ih => exact k.raise _ e j a b (ih hs)
  | sendNext _ ih => exact k.sendNext _ (ih hs)
  | deferralExpires _ ih => exact k.deferralExpires _ (ih hs)
  | modPot _ p f _ ih => exact k.quiet (ih hs) (.of_eq rfl rfl rfl rfl rfl rfl rfl rfl ⟨rfl, rfl⟩)
  | dropPotFrames _ p ih => exact k.quiet (ih hs) (.of_drained ⟨List.filter_sublist, .refl _, .refl _, .refl _, .inl rfl⟩ rfl id rfl ⟨rfl, rfl⟩)
  | sendPotOrder _ p f ih => exact k.sendPotOrder _ p f (ih hs)
  | closeRecord _ p cause ih => exact k.quiet (ih hs) (State.quiet_closeRecord _ p cause)
  | amend _ p f _ ih => exact k.quiet (ih hs) (State.quiet_modOpenRecord _ p f)
  | traceReading _ p vp ih => exact k.quiet (ih hs) (State.quiet_traceReading _ p vp)
  | openEffect _ p _ ih => exact k.quiet (ih hs) (State.quiet_openEffect _ p)
  | setAeCount _ n ih => exact k.quiet (ih hs) (.of_eq rfl rfl rfl rfl rfl rfl rfl rfl ⟨rfl, rfl⟩)
  | line _ x _ _ _ ih => exact k.quiet (ih hs) (.of_eq rfl rfl rfl rfl rfl rfl rfl rfl ⟨rfl, rfl⟩)
  | heat _ x _ _ ih => exact k.workHeatRecovery (k.quiet (ih hs) (.of_eq rfl rfl rfl rfl rfl rfl rfl rfl ⟨rfl, rfl⟩))
  | tariff _ u _ hl ih => exact k.quiet (ih hs) (.of_drained ⟨.refl _, .refl _, hl, .refl _, .inl rfl⟩ rfl id rfl ⟨rfl, rfl⟩)
  | sendAsk _ f hf ih => exact k.sendAsk _ f hf (ih hs)
  | energy _ u hu ih => exact k.quiet (ih hs) ⟨⟨.refl _, .refl _, .refl _, .refl _, .inl rfl⟩, rfl, id, hu, le_max_left _ _, le_max_left _ _⟩
  | sendCoolerOrder _ f hf ih => exact k.sendCoolerOrder _ f hf (ih hs)
  | clu _ c _ hframe ih => exact k.quiet (ih hs) (.of_drained ⟨.refl _, .refl _, .refl _, .refl _, .inr hframe⟩ rfl id rfl ⟨rfl, rfl⟩)
  | modGroup _ g f _ ih => exact k.quiet (ih hs) (State.quiet_modGroup _ g f)
  | mapGroups _ f _ ih => exact k.quiet (ih hs) (.of_eq rfl rfl rfl rfl rfl rfl rfl rfl ⟨rfl, rfl⟩)
  | sendNotice _ f ih => exact k.sendNotice _ f (ih hs)
  | dropGroupFrames _ g ih => exact k.quiet (ih hs) (State.quiet_dropGroupFrames _ g)
  | withCapacity _ c _ ih => exact k.withCapacity (ih hs) c
  | claim _ g _ _ ih => exact k.quiet (ih hs) (State.quiet_modGroup _ g _)
  | sendGroupOrder _ g f _ _ ih => exact k.sendGroupOrder _ g f (ih hs)
  | releaseCore _ g _ ih => exact k.releaseCore (ih hs) g
  | fallBack _ g f _ _ _ _ ih ihu => exact k.confirmPending (ihu (k.quiet (ih hs) (State.quiet_modGroup _ g f))) g
  | address _ a b c hk ih => exact k.address _ a b c hk (ih hs)
  | beginRestart _ ih => exact k.beginRestart _ (ih hs)
  | restartCapacity _ c ih => exact k.restartCapacity (ih hs) c
  | standDown _ o ih =>
    exact k.quiet (ih hs) (.of_drained ⟨.refl _, .refl _, .refl _, .refl _, .inl rfl⟩ rfl (fun h => nomatch h) rfl ⟨rfl, rfl⟩)

end

end Sys2Proof.Machine
end

section
/-! SUPPORT. The arbiter, the places of the queues and the addresses along a chain of changes (O14, O15), and what no work changes. -/

namespace Sys2Proof.Machine

/-! ### The arbiter (R161) -/

/-- Quiet work on a settled part leaves it settled. -/
theorem Quiet.settled {s t : State} (h : Quiet s t) (hs : s.Settled) : t.Settled := by
  have hfixtures := h.fixtures
  simp only [State.fixtures, Prod.mk.injEq] at hfixtures
  obtain ⟨-, -, ⟨-, hinsert, hbuffer, hflag, -⟩, -⟩ := hfixtures
  have hempty : ∀ {α : Type} {l l' : List α}, l'.Sublist l → l' ≠ [] → l ≠ [] := by
    rintro α l l' hl hne rfl
    exact hne (List.sublist_nil.mp hl)
  refine State.settled_of_insert hs hinsert fun src hsrc => ?_
  cases src with
  | report => simpa only [State.offers, Port.reportDue, hbuffer, hflag] using hsrc
  | meu =>
    simp only [State.offers, Bool.not_eq_true', List.isEmpty_eq_false_iff] at hsrc ⊢
    exact hempty h.drained.meu hsrc
  | gau =>
    simp only [State.offers, Bool.and_eq_true, Bool.not_eq_true', List.isEmpty_eq_false_iff] at hsrc ⊢
    exact ⟨h.active hsrc.1, hempty h.drained.gau hsrc.2⟩
  | psu =>
    simp only [State.offers, Bool.and_eq_true, Bool.not_eq_true', List.isEmpty_eq_false_iff] at hsrc ⊢
    exact ⟨h.active hsrc.1, hempty h.drained.psu hsrc.2⟩
  | tru =>
    simp only [State.offers, Bool.and_eq_true, Bool.not_eq_true', List.isEmpty_eq_false_iff] at hsrc ⊢
    exact ⟨h.active hsrc.1, hempty h.drained.tru hsrc.2⟩
  | clu =>
    simp only [State.offers, Bool.and_eq_true] at hsrc ⊢
    refine ⟨h.active hsrc.1, ?_⟩
    rcases h.drained.clu with hclu | hclu
    · exact hclu ▸ hsrc.2
    · simp [hclu] at hsrc

/-- Work that touches neither the insert queue nor what the sources offer leaves a settled part settled. -/
theorem State.Settled.of_offers {s t : State} (hs : s.Settled) (hinsert : t.port.insert = s.port.insert)
    (hoffers : ∀ src, t.offers src = s.offers src) : t.Settled :=
  State.settled_of_insert hs hinsert fun src h => hoffers src ▸ h

theorem listsKept_settled : ListsKept State.Settled where
  quiet := fun hs h => h.settled hs
  forward := fun t f hs => by
    have hport : (t.port.forwardFrame f).insert = t.port.insert ∧ (t.port.forwardFrame f).reportDue = t.port.reportDue := by
      unfold Port.forwardFrame
      split <;> exact ⟨rfl, rfl⟩
    refine hs.of_offers hport.1 fun src => ?_
    cases src with
    | report => exact hport.2
    | _ => rfl
  raise := fun _ _ _ _ _ _ => State.settled_settle _
  sendNext := fun t hs => by
    have hsend : ∀ f rest, State.Settled { t with port := t.port.sendForward f rest } := fun f rest => by
      refine hs.of_offers rfl fun src => ?_
      cases src <;> rfl
    unfold State.sendNext
    split
    · exact hs
    · exact hsend _ _
    · exact State.settled_settle _
    · split
      · exact hsend _ _
      · exact State.settled_settle _
  deferralExpires := fun _ _ => State.settled_settle _
  sendPotOrder := fun t p f hs => by
    unfold State.sendPotOrder
    dsimp only
    split
    · exact State.settled_settle _
    · exact Quiet.settled (.of_drained ⟨List.filter_sublist, .refl _, .refl _, .refl _, .inl rfl⟩ rfl id rfl ⟨rfl, rfl⟩) hs
  sendAsk := fun _ _ _ _ => State.settled_settle _
  sendCoolerOrder := fun _ _ _ _ => State.settled_settle _
  sendNotice := fun t f hs => by
    unfold State.sendNotice
    dsimp only
    split
    · exact hs
    · split
      · exact Quiet.settled (.of_eq rfl rfl rfl rfl rfl rfl rfl rfl ⟨rfl, rfl⟩) hs
      · exact State.settled_settle _
  sendGroupOrder := fun t g f hs => by
    unfold State.sendGroupOrder
    dsimp only
    split
    · exact State.settled_settle _
    · exact (t.quiet_dropGroupFrames g).settled hs
  address := fun t _ _ _ _ hs => by
    refine hs.of_offers rfl fun src => ?_
    cases src <;> rfl
  beginRestart := fun _ _ => State.settled_settle _

/-! ### The places of the queues (R31, R58, R61, R95, R138, R160, R161, R163, R164, R167) -/

theorem Quiet.boundsLaw {s t : State} (h : Quiet s t) (hs : boundsLaw s) : boundsLaw t := by
  have hfixtures := h.fixtures
  simp only [State.fixtures, Prod.mk.injEq] at hfixtures
  obtain ⟨-, -, ⟨hforward, hinsert, hbuffer, -, hwait⟩, -⟩ := hfixtures
  obtain ⟨h1, h2, h3, h4, h5, h6, h7, h8, h9, h10⟩ := hs
  refine ⟨hforward ▸ h1, hinsert ▸ h2, hbuffer ▸ h3, hwait ▸ h4, h.drained.meu.length_le.trans h5, h.queue.trans (max_le h6 le_rfl),
    h.log.trans (max_le h7 le_rfl), h.trace.trans (max_le h8 le_rfl), (h.drained.gau.countP_le).trans h9, h10.sublist (h.drained.psu.map _)⟩

/-- What a round of the arbiter does to the ring port beside the insert queue, and what it leaves (R161, R163, R165). -/
theorem State.round_rest (s : State) (src : Source) :
    (s.round src).port.forward = s.port.forward ∧ (s.round src).port.buffer.Sublist s.port.buffer
      ∧ ((s.round src).port.waitCount = s.port.waitCount ∨ (s.round src).port.waitCount = 0)
      ∧ (s.round src).egu = s.egu ∧ (s.round src).aeu = s.aeu := by
  have hself : s.port.forward = s.port.forward ∧ s.port.buffer.Sublist s.port.buffer
      ∧ (s.port.waitCount = s.port.waitCount ∨ s.port.waitCount = 0) ∧ s.egu = s.egu ∧ s.aeu = s.aeu :=
    ⟨rfl, .refl _, .inl rfl, rfl, rfl⟩
  have hwait : ∀ n : Nat, ((if s.port.insert.isEmpty = true then 0 else n) = n ∨ (if s.port.insert.isEmpty = true then 0 else n) = 0) := by
    intro n
    split
    · exact .inr rfl
    · exact .inl rfl
  cases src with
  | report => exact ⟨rfl, List.drop_sublist 4 _, hwait _, rfl, rfl⟩
  | meu =>
    unfold State.round State.enterFrom
    dsimp only
    split
    · exact hself
    · exact ⟨rfl, .refl _, hwait _, rfl, rfl⟩
  | gau =>
    unfold State.round State.enterFrom
    dsimp only
    split
    · exact hself
    · split <;> exact ⟨rfl, .refl _, hwait _, rfl, rfl⟩
  | psu =>
    unfold State.round State.enterFrom
    dsimp only
    split
    · exact hself
    · exact ⟨rfl, .refl _, hwait _, rfl, rfl⟩
  | tru =>
    unfold State.round State.enterFrom
    dsimp only
    split
    · exact hself
    · exact ⟨rfl, .refl _, hwait _, rfl, rfl⟩
  | clu =>
    unfold State.round State.enterFrom
    dsimp only
    split
    · exact hself
    · exact ⟨rfl, .refl _, hwait _, rfl, rfl⟩

theorem boundsLaw_settle {s : State} (h : boundsLaw s) : boundsLaw s.settle := by
  refine State.settle_keeps (P := boundsLaw) (fun t src hmay ht => ?_) h
  obtain ⟨hroom, hoffers, -⟩ := (t.mayEnter_iff src).mp hmay
  obtain ⟨f, hinsert⟩ := State.round_insert hoffers
  obtain ⟨hforward, hbuffer, hwait, hegu, haeu⟩ := t.round_rest src
  obtain ⟨h1, h2, h3, h4, h5, h6, h7, h8, h9, h10⟩ := ht
  have hdrained := t.round_drained src
  refine ⟨hforward ▸ h1, ?_, hbuffer.length_le.trans h3, ?_, hdrained.meu.length_le.trans h5, hegu ▸ h6, haeu ▸ h7, haeu ▸ h8,
    hdrained.gau.countP_le.trans h9, h10.sublist (hdrained.psu.map _)⟩
  · rw [hinsert, List.length_append, List.length_singleton]
    exact hroom
  · omega

/-- The report buffer keeps to its places (R164). -/
theorem Port.record_buffer (p : Port) (now : Nat) (r : EventRecord) (h : p.buffer.length ≤ Config.recordPlaces) :
    (p.record now r).buffer.length ≤ Config.recordPlaces := by
  unfold Port.record
  split
  · next hroom =>
    simp only [Port.append, List.length_append, List.length_singleton]
    omega
  · split
    · exact h
    · next hinfo =>
      simp only [Bool.or_eq_true, Bool.not_eq_true', not_or, Bool.not_eq_true, Bool.not_eq_false] at hinfo
      obtain ⟨x, hx, hxinfo⟩ := List.any_eq_true.mp hinfo.2
      have hlen := List.length_eraseP_of_mem hx hxinfo
      have := List.length_pos_of_mem hx
      simp only [Port.append, List.length_append, List.length_singleton, hlen]
      omega

theorem Port.record_rest (p : Port) (now : Nat) (r : EventRecord) :
    (p.record now r).forward = p.forward ∧ (p.record now r).insert = p.insert ∧ (p.record now r).waitCount = p.waitCount := by
  unfold Port.record Port.append
  split
  · exact ⟨rfl, rfl, rfl⟩
  · split <;> exact ⟨rfl, rfl, rfl⟩

/-- Room for a notice leaves at most 15 answers and notices, unless answers have all the places (R95). -/
theorem Gau.makeRoom_notices {u : Gau} (h : u.notices ≤ Config.noticePlaces) (ha : u.answers < Config.noticePlaces) :
    u.makeRoom.notices < Config.noticePlaces := by
  unfold Gau.makeRoom
  split
  · next h => exact h
  · next hfull =>
    have hfull : u.notices = Config.noticePlaces := le_antisymm h (Nat.not_lt.mp hfull)
    have hex : ∃ i ∈ u.sendList, (i.tag == .notice) = true := by
      by_contra hnone
      push Not at hnone
      refine absurd ha (Nat.not_lt.mpr ?_)
      rw [← hfull]
      refine List.countP_mono_left fun i hi hin => ?_
      have := hnone i hi
      cases hg : i.tag <;> simp_all [GauItem.isOrder]
    obtain ⟨i, hi, hnotice⟩ := hex
    have hsplit := List.exists_of_eraseP (p := fun i => i.tag == .notice) hi hnotice
    obtain ⟨a, before, after, -, ha', hl, hl'⟩ := hsplit
    have hcount : u.notices = before.countP (fun i => !i.isOrder) + (after.countP (fun i => !i.isOrder) + 1) := by
      have : (!a.isOrder) = true := by
        have hg : a.tag = .notice := by simpa using ha'
        simp [GauItem.isOrder, hg]
      rw [Gau.notices, hl, List.countP_append, List.countP_cons_of_pos (p := fun i => !GauItem.isOrder i) this]
    have hcount' : (before ++ after).countP (fun i => !i.isOrder) = before.countP (fun i => !i.isOrder) + after.countP (fun i => !i.isOrder) :=
      List.countP_append
    show List.countP _ (u.sendList.eraseP _) < _
    rw [hl', hcount']
    omega

/-- An answer or notice that is placed in the room made for it (R95). -/
theorem boundsLaw_placed {s : State} (h : boundsLaw s) (ha : s.gau.answers < Config.noticePlaces) (i : GauItem) (hi : i.isOrder = false) :
    boundsLaw { s with gau := { s.gau.makeRoom with sendList := s.gau.makeRoom.sendList ++ [i] } } := by
  obtain ⟨h1, h2, h3, h4, h5, h6, h7, h8, h9, h10⟩ := h
  have hroom := Gau.makeRoom_notices h9 ha
  refine ⟨h1, h2, h3, h4, h5, h6, h7, h8, ?_, h10⟩
  unfold Gau.notices at hroom ⊢
  rw [List.countP_append, List.countP_singleton, hi]
  exact hroom

theorem listsKept_bounds : ListsKept boundsLaw where
  quiet := fun ht h => h.boundsLaw ht
  forward := fun t f ht => by
    obtain ⟨h1, h2, h3, h4, h5⟩ := ht
    unfold State.forward Port.forwardFrame
    split
    · next hroom => exact ⟨by simpa using hroom, h2, h3, h4, h5⟩
    · exact ⟨h1, h2, h3, h4, h5⟩
  raise := fun t k j a b ht => by
    obtain ⟨h1, h2, h3, h4, h5⟩ := ht
    obtain ⟨hforward, hinsert, hwait⟩ := t.port.record_rest t.time { kind := k, day := t.stamp.1, ms := t.stamp.2, subject := j, a := a, b := b }
    exact boundsLaw_settle ⟨hforward ▸ h1, hinsert ▸ h2, Port.record_buffer _ _ _ h3, hwait ▸ h4, h5⟩
  sendNext := fun t ht => by
    obtain ⟨h1, h2, h3, h4, h5⟩ := ht
    unfold State.sendNext
    split
    · exact ⟨h1, h2, h3, h4, h5⟩
    · next f rest hf hi =>
      rw [hf, List.length_cons] at h1
      refine ⟨(Nat.le_succ _).trans h1, h2, h3, ?_, h5⟩
      simpa [Port.sendForward, hi] using h4
    · next f rest hf hi =>
      rw [hi, List.length_cons] at h2
      exact boundsLaw_settle ⟨h1, (Nat.le_succ _).trans h2, h3, Nat.zero_le _, h5⟩
    · next f restF g restI hf hi =>
      split
      · next hwait =>
        rw [hf, List.length_cons] at h1
        refine ⟨(Nat.le_succ _).trans h1, h2, h3, ?_, h5⟩
        simpa [Port.sendForward, hi] using hwait
      · rw [hi, List.length_cons] at h2
        exact boundsLaw_settle ⟨h1, (Nat.le_succ _).trans h2, h3, Nat.zero_le _, h5⟩
  deferralExpires := fun t ht => boundsLaw_settle (s := { t with port := _ }) ht
  sendPotOrder := fun t p f ht => by
    obtain ⟨h1, h2, h3, h4, h5, h6, h7, h8, h9, h10⟩ := ht
    have hfiltered : ((t.psu.sendList.filter fun e => e.1 != p).map Prod.fst).Nodup := h10.sublist (List.filter_sublist.map _)
    unfold State.sendPotOrder
    dsimp only
    split
    · refine boundsLaw_settle ⟨h1, h2, h3, h4, h5, h6, h7, h8, h9, ?_⟩
      rw [List.map_append, List.map_singleton, List.nodup_append]
      refine ⟨hfiltered, List.nodup_singleton _, fun a ha b hb => ?_⟩
      obtain ⟨e, he, rfl⟩ := List.mem_map.mp ha
      rw [List.mem_singleton.mp hb]
      simpa using (List.mem_filter.mp he).2
    · exact ⟨h1, h2, h3, h4, h5, h6, h7, h8, h9, hfiltered⟩
  sendAsk := fun t f _ ht => boundsLaw_settle (s := { t with tru := _ }) ht
  sendCoolerOrder := fun t f _ ht => boundsLaw_settle (s := { t with clu := _ }) ht
  sendNotice := fun t f ht => by
    unfold State.sendNotice
    dsimp only
    split
    · exact ht
    · split
      · exact ht
      · next ha => exact boundsLaw_settle (boundsLaw_placed ht (Nat.not_le.mp ha) _ rfl)
  sendGroupOrder := fun t g f ht => by
    have hdropped := (t.quiet_dropGroupFrames g).boundsLaw ht
    obtain ⟨h1, h2, h3, h4, h5, h6, h7, h8, h9, h10⟩ := ht
    unfold State.sendGroupOrder
    dsimp only
    split
    · refine boundsLaw_settle ⟨h1, h2, h3, h4, h5, h6, h7, h8, le_trans (le_of_eq ?_) h9, h10⟩
      unfold Gau.notices
      dsimp only
      split
      · rw [List.countP_map]
        refine List.countP_congr fun i _ => ?_
        by_cases hi : i.isOrderOf g = true
        · have htag : i.tag = .order g := by simpa [GauItem.isOrderOf] using hi
          simp [hi, GauItem.isOrder, htag]
        · simp [hi]
      · rw [List.countP_append, List.countP_singleton]
        rfl
    · exact hdropped
  address := fun t a b c _ ht => ht
  beginRestart := fun t ht => by
    obtain ⟨h1, h2, h3, h4, h5, h6, h7, h8, h9, h10⟩ := ht
    exact boundsLaw_settle ⟨h1, h2, h3, h4, h5, h6, h7, h8, List.filter_sublist.countP_le.trans h9, List.nodup_nil⟩

theorem Works.boundsLaw {s t : State} {d : Depth} (h : Works s d t) (hs : boundsLaw s) : boundsLaw t := listsKept_bounds.works h hs

theorem Works.settled {s t : State} {d : Depth} (h : Works s d t) (hs : s.Settled) : t.Settled := listsKept_settled.works h hs

end Sys2Proof.Machine
end

section
/-! SUPPORT. The addresses along a chain of changes (O14), and what no work changes: the queue of commands, the part's address, and
with no reply or answer of its own. -/

namespace Sys2Proof.Machine

/-! ### No frame for 0xFFFF (R157, R169) -/

theorem Quiet.addressLaw {s t : State} (h : Quiet s t) (hs : addressLaw s) : addressLaw t := by
  have hfixtures := h.fixtures
  simp only [State.fixtures, Prod.mk.injEq] at hfixtures
  obtain ⟨-, -, ⟨-, hinsert, -⟩, hsupervisor, hserver, hcooler⟩ := hfixtures
  obtain ⟨h1, h2, h3, h4, h5, h6, h7, h8, h9⟩ := hs
  have hd := h.drained
  refine ⟨hinsert ▸ h1, fun f hf => h2 f (hd.meu.subset hf), fun e he => h3 e (hd.psu.subset he), fun i hi => h4 i (hd.gau.subset hi),
    fun f hf => h5 f (hd.tru.subset hf), ?_, hsupervisor ▸ h7, hserver ▸ h8, hcooler ▸ h9⟩
  rcases hd.clu with hclu | hclu
  · exact hclu ▸ h6
  · simp [hclu]

/-- The frame that enters the insert queue is for no broadcast (R161). -/
theorem State.round_addressed {s : State} {src : Source} (h : addressLaw s) : ∀ f ∈ (s.round src).port.insert, f.dest ≠ Config.broadcast := by
  obtain ⟨h1, h2, h3, h4, h5, h6, h7, -⟩ := h
  have hentered : ∀ x : Frame, x.dest ≠ Config.broadcast → ∀ f ∈ s.port.insert ++ [x], f.dest ≠ Config.broadcast := by
    intro x hx f hf
    rcases List.mem_append.mp hf with hf | hf
    · exact h1 f hf
    · exact List.mem_singleton.mp hf ▸ hx
  cases src with
  | report => exact hentered _ h7
  | meu =>
    unfold State.round State.enterFrom
    dsimp only
    split
    · exact h1
    · next x rest hl => exact hentered x (h2 x (hl ▸ List.mem_cons_self))
  | gau =>
    unfold State.round State.enterFrom
    dsimp only
    split
    · exact h1
    · next i rest hl =>
      have hi := h4 i (hl ▸ List.mem_cons_self)
      split
      · exact hentered _ hi
      · exact hentered _ hi
      · exact hentered _ hi
  | psu =>
    unfold State.round State.enterFrom
    dsimp only
    split
    · exact h1
    · next p x rest hl => exact hentered x (h3 (p, x) (hl ▸ List.mem_cons_self))
  | tru =>
    unfold State.round State.enterFrom
    dsimp only
    split
    · exact h1
    · next x rest hl => exact hentered x (h5 x (hl ▸ List.mem_cons_self))
  | clu =>
    unfold State.round State.enterFrom
    dsimp only
    split
    · exact h1
    · next x hx => exact hentered x (h6 x hx)

theorem State.round_addresses (s : State) (src : Source) :
    (s.round src).meu.supervisor = s.meu.supervisor ∧ (s.round src).meu.server = s.meu.server ∧ (s.round src).meu.cooler = s.meu.cooler
      ∧ (s.round src).pending = s.pending ∧ (s.round src).address = s.address := by
  have h := (s.enterFrom_admitted src).withPointer src.next
  have hrest := h.rest
  unfold State.round
  rw [hrest]
  exact ⟨rfl, rfl, rfl, rfl, rfl⟩

theorem addressLaw_settle {s : State} (h : addressLaw s) : addressLaw s.settle := by
  refine State.settle_keeps (P := addressLaw) (fun t src _ ht => ?_) h
  have hinsert := State.round_addressed (src := src) ht
  have hd := t.round_drained src
  obtain ⟨hsupervisor, hserver, hcooler, -⟩ := t.round_addresses src
  obtain ⟨-, h2, h3, h4, h5, h6, h7, h8, h9⟩ := ht
  refine ⟨hinsert, fun f hf => h2 f (hd.meu.subset hf), fun e he => h3 e (hd.psu.subset he), fun i hi => h4 i (hd.gau.subset hi),
    fun f hf => h5 f (hd.tru.subset hf), ?_, hsupervisor ▸ h7, hserver ▸ h8, hcooler ▸ h9⟩
  rcases hd.clu with hclu | hclu
  · exact hclu ▸ h6
  · simp [hclu]

theorem sendable_iff (f : Frame) : sendable f = true ↔ f.dest ≠ Config.broadcast := by simp [sendable]

theorem mem_appended {α : Type} {P : α → Prop} {l : List α} {x : α} (hl : ∀ y ∈ l, P y) (hx : P x) : ∀ y ∈ l ++ [x], P y := by
  intro y hy
  rcases List.mem_append.mp hy with hy | hy
  · exact hl y hy
  · exact List.mem_singleton.mp hy ▸ hx

/-- Room for a notice is made by a frame that leaves (R95). -/
theorem Gau.makeRoom_sublist (u : Gau) : u.makeRoom.sendList.Sublist u.sendList := by
  unfold Gau.makeRoom
  split
  · exact .refl _
  · exact List.eraseP_sublist

theorem listsKept_address : ListsKept addressLaw where
  quiet := fun ht h => h.addressLaw ht
  forward := fun t f ht => by
    unfold State.forward Port.forwardFrame
    split <;> exact ht
  raise := fun t k j a b ht => by
    obtain ⟨-, hinsert, -⟩ := t.port.record_rest t.time { kind := k, day := t.stamp.1, ms := t.stamp.2, subject := j, a := a, b := b }
    obtain ⟨h1, hrest⟩ := ht
    exact addressLaw_settle ⟨hinsert ▸ h1, hrest⟩
  sendNext := fun t ht => by
    have hsent : ∀ f rest, t.port.insert = f :: rest → addressLaw { t with port := t.port.sendInsert f rest } := by
      intro f rest hl
      obtain ⟨h1, hrest⟩ := ht
      exact ⟨fun x hx => h1 x (hl ▸ List.mem_cons_of_mem _ hx), hrest⟩
    unfold State.sendNext
    split
    · exact ht
    · exact ht
    · next hi => exact addressLaw_settle (hsent _ _ hi)
    · next hi =>
      split
      · exact ht
      · exact addressLaw_settle (hsent _ _ hi)
  deferralExpires := fun t ht => addressLaw_settle (s := { t with port := _ }) ht
  sendPotOrder := fun t p f ht => by
    obtain ⟨h1, h2, h3, hrest⟩ := ht
    have hfiltered : ∀ e ∈ t.psu.sendList.filter fun e => e.1 != p, e.2.dest ≠ Config.broadcast := fun e he => h3 e (List.mem_filter.mp he).1
    unfold State.sendPotOrder
    dsimp only
    split
    · next hf => exact addressLaw_settle ⟨h1, h2, mem_appended hfiltered ((sendable_iff f).mp hf), hrest⟩
    · exact ⟨h1, h2, hfiltered, hrest⟩
  sendAsk := fun t f hf ht => by
    obtain ⟨h1, h2, h3, h4, h5, h6, h7, h8, h9⟩ := ht
    exact addressLaw_settle ⟨h1, h2, h3, h4, mem_appended h5 (hf ▸ h8), h6, h7, h8, h9⟩
  sendCoolerOrder := fun t f hf ht => by
    obtain ⟨h1, h2, h3, h4, h5, h6, h7, h8, h9⟩ := ht
    refine addressLaw_settle ⟨h1, h2, h3, h4, h5, fun x hx => ?_, h7, h8, h9⟩
    obtain rfl : f = x := by simpa using hx
    exact hf ▸ h9
  sendNotice := fun t f ht => by
    unfold State.sendNotice
    dsimp only
    split
    · exact ht
    · next hf =>
      split
      · exact ht
      · obtain ⟨h1, h2, h3, h4, hrest⟩ := ht
        exact addressLaw_settle ⟨h1, h2, h3,
          mem_appended (fun i hi => h4 i (t.gau.makeRoom_sublist.subset hi)) ((sendable_iff f).mp (by simpa using hf)), hrest⟩
  sendGroupOrder := fun t g f ht => by
    have hdropped := (t.quiet_dropGroupFrames g).addressLaw ht
    obtain ⟨h1, h2, h3, h4, hrest⟩ := ht
    unfold State.sendGroupOrder
    dsimp only
    split
    · next hf =>
      have hf := (sendable_iff f).mp hf
      refine addressLaw_settle ⟨h1, h2, h3, ?_, hrest⟩
      dsimp only
      split
      · intro i hi
        obtain ⟨x, hx, rfl⟩ := List.mem_map.mp hi
        split
        · exact hf
        · exact h4 x hx
      · exact mem_appended h4 hf
    · exact hdropped
  address := fun t a b c hk ht => by
    obtain ⟨h1, h2, h3, h4, h5, h6, h7, h8, h9⟩ := ht
    exact ⟨h1, h2, h3, h4, h5, h6, hk h7 h8 h9⟩
  beginRestart := fun t ht => by
    obtain ⟨h1, h2, -, h4, -, -, h7⟩ := ht
    have hnil : ∀ {α : Type} {P : α → Prop}, ∀ x ∈ ([] : List α), P x := fun _ hx => absurd hx List.not_mem_nil
    have hnone : ∀ {P : Frame → Prop}, ∀ x ∈ (none : Option Frame), P x := fun _ hx => absurd hx (by simp)
    exact addressLaw_settle ⟨h1, h2, hnil, fun i hi => h4 i (List.mem_filter.mp hi).1, hnil, hnone, h7⟩

theorem Works.addressLaw {s t : State} {d : Depth} (h : Works s d t) (hs : addressLaw s) : addressLaw t := listsKept_address.works h hs

/-! ### What stands through every chain -/

/-- From `s` to `t` the queue of commands and the part's address stand, and no reply and no answer has come to wait. -/
structure Outlined (s t : State) : Prop where
  pending : t.pending = s.pending
  address : t.address = s.address
  replies : t.meu.sendList.length ≤ s.meu.sendList.length
  answers : t.gau.answers ≤ s.gau.answers

theorem Outlined.refl (s : State) : Outlined s s := ⟨rfl, rfl, le_rfl, le_rfl⟩

theorem Outlined.settle {s t : State} (h : Outlined s t) : Outlined s t.settle :=
  ⟨t.settle_pending.trans h.pending, t.settle_address.trans h.address, t.settle_drained.meu.length_le.trans h.replies,
    t.settle_drained.gau.countP_le.trans h.answers⟩

theorem Outlined.quiet {s t u : State} (h : Outlined s t) (hu : Quiet t u) : Outlined s u := by
  have hfixtures := hu.fixtures
  simp only [State.fixtures, Prod.mk.injEq] at hfixtures
  exact ⟨hfixtures.1.trans h.pending, hfixtures.2.1.trans h.address, hu.drained.meu.length_le.trans h.replies,
    hu.drained.gau.countP_le.trans h.answers⟩

/-- A frame that is no answer adds none. -/
theorem Gau.answers_append (l : List GauItem) (i : GauItem) (hi : (i.tag == .answer) = false) :
    (l ++ [i]).countP (fun i => i.tag == .answer) = l.countP fun i => i.tag == .answer := by
  rw [List.countP_append, List.countP_singleton, hi]
  rfl

theorem listsKept_outlined (s : State) : ListsKept (Outlined s) where
  quiet := fun h hu => h.quiet hu
  forward := fun t f h => by
    unfold State.forward
    exact ⟨h.pending, h.address, h.replies, h.answers⟩
  raise := fun t k j a b h => Outlined.settle ⟨h.pending, h.address, h.replies, h.answers⟩
  sendNext := fun t h => by
    unfold State.sendNext
    split
    · exact h
    · exact ⟨h.pending, h.address, h.replies, h.answers⟩
    · exact Outlined.settle ⟨h.pending, h.address, h.replies, h.answers⟩
    · split
      · exact ⟨h.pending, h.address, h.replies, h.answers⟩
      · exact Outlined.settle ⟨h.pending, h.address, h.replies, h.answers⟩
  deferralExpires := fun t h => Outlined.settle ⟨h.pending, h.address, h.replies, h.answers⟩
  sendPotOrder := fun t p f h => by
    unfold State.sendPotOrder
    dsimp only
    split
    · exact Outlined.settle ⟨h.pending, h.address, h.replies, h.answers⟩
    · exact ⟨h.pending, h.address, h.replies, h.answers⟩
  sendAsk := fun t f _ h => Outlined.settle ⟨h.pending, h.address, h.replies, h.answers⟩
  sendCoolerOrder := fun t f _ h => Outlined.settle ⟨h.pending, h.address, h.replies, h.answers⟩
  sendNotice := fun t f h => by
    unfold State.sendNotice
    dsimp only
    split
    · exact h
    · split
      · exact ⟨h.pending, h.address, h.replies, h.answers⟩
      · refine Outlined.settle ⟨h.pending, h.address, h.replies, le_trans (le_of_eq ?_) (t.gau.makeRoom_sublist.countP_le.trans h.answers)⟩
        exact Gau.answers_append _ _ rfl
  sendGroupOrder := fun t g f h => by
    have hdropped := h.quiet (t.quiet_dropGroupFrames g)
    unfold State.sendGroupOrder
    dsimp only
    split
    · refine Outlined.settle ⟨h.pending, h.address, h.replies, le_trans (le_of_eq ?_) h.answers⟩
      unfold Gau.answers
      dsimp only
      split
      · rw [List.countP_map]
        refine List.countP_congr fun i _ => ?_
        by_cases hi : i.isOrderOf g = true
        · have htag : i.tag = .order g := by simpa [GauItem.isOrderOf] using hi
          simp [hi, htag]
        · simp [hi]
      · exact Gau.answers_append _ _ rfl
    · exact hdropped
  address := fun t a b c _ h => ⟨h.pending, h.address, h.replies, h.answers⟩
  beginRestart := fun t h => Outlined.settle ⟨h.pending, h.address, h.replies, List.filter_sublist.countP_le.trans h.answers⟩

theorem Works.outlined {s t : State} {d : Depth} (h : Works s d t) : Outlined s t := (listsKept_outlined s).works h (.refl s)

end Sys2Proof.Machine
end

section
/-! SUPPORT. A third way to read a law off a chain of changes: a law of the groups is kept by all that passes the groups by
(`Works.keeps_groups`). -/

namespace Sys2Proof.Machine

/-! ### Changes that pass the groups by -/

/-- From `s` to `t` the group records stand but for unsent flags, their send list loses frames at most, and the part mode, Ig and Ic
stand. -/
structure GroupsAside (s t : State) : Prop where
  groups : ∀ g, (t.group g).sentForm = (s.group g).sentForm
  list : t.gau.sendList.Sublist s.gau.sendList
  mode : t.meu.mode = s.meu.mode
  ig : t.line.ig = s.line.ig
  ic : t.clu.ic = s.clu.ic

theorem GroupsAside.trans {s t u : State} (h : GroupsAside s t) (h' : GroupsAside t u) : GroupsAside s u :=
  ⟨fun g => (h'.groups g).trans (h.groups g), h'.list.trans h.list, h'.mode.trans h.mode, h'.ig.trans h.ig, h'.ic.trans h.ic⟩

theorem GroupsAside.of_gau {s t : State} (hgroups : t.gau.groups = s.gau.groups) (hlist : t.gau.sendList.Sublist s.gau.sendList)
    (hmode : t.meu.mode = s.meu.mode) (hig : t.line.ig = s.line.ig) (hic : t.clu.ic = s.clu.ic) : GroupsAside s t :=
  ⟨fun g => congrArg Group.sentForm (congrArg (·[g]) hgroups), hlist, hmode, hig, hic⟩

theorem GroupsAside.refl (s : State) : GroupsAside s s := .of_gau rfl (.refl _) rfl rfl rfl

theorem GroupsAside.settle {s t : State} (h : GroupsAside s t) : GroupsAside s t.settle :=
  h.trans ⟨t.settle_admitted.groups, t.settle_drained.gau, t.settle_mode, congrArg Line.ig t.settle_line, t.settle_ic⟩

theorem State.groupsAside_raise (s : State) (k : EventKind) (j a b : Nat) : GroupsAside s (s.raise k j a b) :=
  GroupsAside.settle (.of_gau rfl (.refl _) rfl rfl rfl)

theorem State.groupsAside_sendNext (s : State) : GroupsAside s s.sendNext := by
  unfold State.sendNext
  split
  · exact .refl s
  · exact .of_gau rfl (.refl _) rfl rfl rfl
  · exact GroupsAside.settle (.of_gau rfl (.refl _) rfl rfl rfl)
  · split
    · exact .of_gau rfl (.refl _) rfl rfl rfl
    · exact GroupsAside.settle (.of_gau rfl (.refl _) rfl rfl rfl)

theorem State.groupsAside_sendPotOrder (s : State) (p : Fin 384) (f : Frame) : GroupsAside s (s.sendPotOrder p f) := by
  unfold State.sendPotOrder
  dsimp only
  split
  · exact GroupsAside.settle (.of_gau rfl (.refl _) rfl rfl rfl)
  · exact .of_gau rfl (.refl _) rfl rfl rfl

theorem State.OnEffects.groupsAside {s t : State} (h : s.OnEffects t) : GroupsAside s t := by
  rw [h.1]
  exact .of_gau rfl (.refl _) rfl rfl rfl

theorem State.Unread.groupsAside {s t : State} (h : s.Unread t) : GroupsAside s t := by
  rw [h]
  exact .of_gau rfl (.refl _) rfl rfl rfl

theorem State.groupsAside_workHeatRecovery (s : State) : GroupsAside s s.workHeatRecovery := by
  unfold State.workHeatRecovery
  dsimp only
  split_ifs
  · refine GroupsAside.trans ?_ (State.groupsAside_raise _ _ _ _ _)
    exact .of_gau rfl (.refl _) rfl rfl rfl
  · exact .of_gau rfl (.refl _) rfl rfl rfl
  · exact .refl s

theorem State.groupsAside_workBelowFloor (s : State) : GroupsAside s s.workBelowFloor := by
  unfold State.workBelowFloor
  split_ifs
  · exact .refl s
  · refine GroupsAside.trans ?_ (State.groupsAside_raise _ _ _ _ _)
    exact .of_gau rfl (.refl _) rfl rfl rfl
  · exact .of_gau rfl (.refl _) rfl rfl rfl

/-- What passes the groups by, put on one line record and Ic. -/
theorem State.groupsAside_withCapacity (s : State) (c : Nat) :
    ∃ x, GroupsAside { s with clu.ic := c, line := x } (s.withCapacity c) := by
  unfold State.withCapacity State.takeCapacity
  split_ifs with h
  · subst h
    exact ⟨s.line, .refl s⟩
  · exact ⟨s.line, .refl _⟩
  · exact ⟨_, State.groupsAside_workBelowFloor _⟩

theorem State.groupsAside_workShortfall (s : State) : GroupsAside s s.workShortfall := by
  unfold State.workShortfall
  split_ifs
  · exact .refl s
  · refine GroupsAside.trans ?_ (State.groupsAside_raise _ _ _ _ _)
    exact .of_gau rfl (.refl _) rfl rfl rfl
  · exact .of_gau rfl (.refl _) rfl rfl rfl

theorem State.groupsAside_restartCapacity (s : State) (c : Nat) :
    ∃ x, GroupsAside { s with clu.ic := c, line := x } (s.restartCapacity c) := by
  obtain ⟨hgroups, hlist, hmode, -, hic⟩ := State.groupsAside_workShortfall { s with clu.ic := c }
  exact ⟨(s.restartCapacity c).line, hgroups, hlist, hmode, rfl, hic⟩

/-! ### Reading a law of the groups off a chain -/

/-- The cases of a property of a chain from `s` to `t` of some depth: the changes of the groups, and what passes them by. -/
structure GroupsKept (P : State → Depth → State → Prop) : Prop where
  refl : ∀ s d, P s d s
  aside : ∀ {s : State} {d : Depth} {t u : State}, P s d t → GroupsAside t u → P s d u
  line : ∀ {s : State} {d : Depth} {t : State} (c : Nat) (x : Line), (d = .still → x.ig = t.line.ig ∧ c = t.clu.ic) → P s d t →
    P s d { t with clu.ic := c, line := x }
  modGroup : ∀ {s : State} {d : Depth} {t : State} (g : Fin 8) (f : Group → Group), d.allows (t.group g) (f (t.group g)) → P s d t →
    P s d (t.modGroup g f)
  mapGroups : ∀ {s : State} {d : Depth} {t : State} (f : Group → Group), (∀ g, d.allows (t.group g) (f (t.group g))) → P s d t →
    P s d { t with gau.groups := t.gau.groups.map f }
  sendNotice : ∀ {s : State} {d : Depth} {t : State} (f : Frame), P s d t → P s d (t.sendNotice f)
  claim : ∀ {s : State} {d : Depth} {t : State} (g : Fin 8), t.claimable (t.group g) = true → d.deep → P s d t →
    P s d (t.modGroup g Group.claimed)
  sendGroupOrder : ∀ {s : State} {d : Depth} {t : State} (g : Fin 8) (f : Frame), (t.group g).authority ≠ .released → d.deep → P s d t →
    P s d (t.sendGroupOrder g f)
  releaseCore : ∀ {s : State} {d : Depth} {t : State} (g : Fin 8), d.deep → P s d t → P s d (t.releaseCore g)
  fallBack : ∀ {s : State} {d : Depth} {t u : State} (g : Fin 8) (f : Group → Group), d.deep →
    Group.bones (f (t.group g)) = { t.group g with form := .basic : Group }.bones → ((t.group g).latched → (f (t.group g)).latched) →
    P s d t → P (t.modGroup g f) .loose u → P s d (u.confirmPending g)
  beginRestart : ∀ {s t : State}, P s .mode t → P s .mode t.beginRestart
  standDown : ∀ {s t : State} (o : Option Nat), P s .mode t →
    P s .mode { t with meu := { t.meu with mode := .forwardOnly, observationEnd := o } }

/-- Such a property holds of every chain. -/
theorem GroupsKept.works {P : State → Depth → State → Prop} (k : GroupsKept P) {s t : State} {d : Depth} (h : Works s d t) : P s d t := by
  induction h with
  | refl => exact k.refl _ _
  | unread _ hu ih => exact k.aside ih hu.groupsAside
  | forward _ f ih => exact k.aside ih (.of_gau rfl (.refl _) rfl rfl rfl)
  | raise _ e j a b ih => exact k.aside ih (State.groupsAside_raise _ e j a b)
  | sendNext _ ih => exact k.aside ih (State.groupsAside_sendNext _)
  | deferralExpires _ ih => exact k.aside ih (GroupsAside.settle (.of_gau rfl (.refl _) rfl rfl rfl))
  | modPot _ p f _ ih => exact k.aside ih (.of_gau rfl (.refl _) rfl rfl rfl)
  | dropPotFrames _ p ih => exact k.aside ih (.of_gau rfl (.refl _) rfl rfl rfl)
  | sendPotOrder _ p f ih => exact k.aside ih (State.groupsAside_sendPotOrder _ p f)
  | closeRecord _ p cause ih => exact k.aside ih (State.onEffects_closeRecord _ p cause).groupsAside
  | amend _ p f _ ih => exact k.aside ih (State.onEffects_modOpenRecord _ p f).groupsAside
  | traceReading _ p vp ih => exact k.aside ih (State.onEffects_traceReading _ p vp).groupsAside
  | openEffect _ p _ ih => exact k.aside ih (State.onEffects_openEffect _ p).groupsAside
  | setAeCount _ n ih => exact k.aside ih (State.onEffects_setAeCount _ n).groupsAside
  | @line s t d _ x _ _ hig ih => exact k.line t.clu.ic x (fun hd => ⟨hig hd, rfl⟩) ih
  | @heat s t d _ x _ hig ih =>
    exact k.aside (k.line t.clu.ic x (fun hd => ⟨hig hd, rfl⟩) ih) (State.groupsAside_workHeatRecovery _)
  | tariff _ u _ _ ih => exact k.aside ih (.of_gau rfl (.refl _) rfl rfl rfl)
  | sendAsk _ f _ ih => exact k.aside ih (GroupsAside.settle (.of_gau rfl (.refl _) rfl rfl rfl))
  | energy _ u _ ih => exact k.aside ih (.of_gau rfl (.refl _) rfl rfl rfl)
  | sendCoolerOrder _ f _ ih => exact k.aside ih (GroupsAside.settle (.of_gau rfl (.refl _) rfl rfl rfl))
  | clu _ c hic _ ih => exact k.aside ih (.of_gau rfl (.refl _) rfl rfl hic)
  | modGroup _ g f hf ih => exact k.modGroup g f hf ih
  | mapGroups _ f hf ih => exact k.mapGroups f hf ih
  | sendNotice _ f ih => exact k.sendNotice f ih
  | dropGroupFrames _ g ih => exact k.aside ih (.of_gau rfl List.filter_sublist rfl rfl rfl)
  | withCapacity _ c hd ih =>
    obtain ⟨x, hx⟩ := State.groupsAside_withCapacity _ c
    exact k.aside (k.line c x (fun h => absurd h hd) ih) hx
  | claim _ g hg hd ih => exact k.claim g hg hd ih
  | sendGroupOrder _ g f hg hd ih => exact k.sendGroupOrder g f hg hd ih
  | releaseCore _ g hd ih => exact k.releaseCore g hd ih
  | fallBack _ g f hd hf hl _ ih ihu => exact k.fallBack g f hd hf hl ih ihu
  | address _ a b c _ ih => exact k.aside ih (.of_gau rfl (.refl _) rfl rfl rfl)
  | beginRestart _ ih => exact k.beginRestart ih
  | restartCapacity _ c ih =>
    obtain ⟨x, hx⟩ := State.groupsAside_restartCapacity _ c
    exact k.aside (k.line c x (fun h => nomatch h) ih) hx
  | standDown _ o ih => exact k.standDown o ih

end Sys2Proof.Machine
end

section
/-! SUPPORT. The groups along a chain of changes: the part mode, the latch, the law of authority (O12), RELEASED groups, and what a chain of
no depth leaves. -/

namespace Sys2Proof.Machine

/-! ### Groups and frames after single operations -/

/-- The order frames of group `g` that wait. -/
def State.orderFrames (s : State) (g : Fin 8) : Nat := s.gau.sendList.countP (GauItem.isOrderOf g)

/-- One group's record has changed. -/
theorem State.group_modGroup_cases {s : State} {g : Fin 8} {f : Group → Group} {R : Fin 8 → Group → Prop}
    (hg : R g (f (s.group g))) (hother : ∀ k, k ≠ g → R k (s.group k)) (k : Fin 8) : R k ((s.modGroup g f).group k) := by
  by_cases hk : k = g
  · subst hk
    simpa using hg
  · rw [State.group_modGroup_of_ne _ _ hk]
    exact hother k hk

@[simp] theorem State.group_mapGroups (s : State) (f : Group → Group) (g : Fin 8) :
    ({ s with gau.groups := s.gau.groups.map f } : State).group g = f (s.group g) := by
  simp [State.group]

/-- The group records stand but for unsent flags, with the part mode, Ig and Ic. -/
structure GroupsStand (s t : State) : Prop where
  groups : ∀ g, (t.group g).sentForm = (s.group g).sentForm
  mode : t.meu.mode = s.meu.mode
  ig : t.line.ig = s.line.ig
  ic : t.clu.ic = s.clu.ic

theorem GroupsAside.stand {s t : State} (h : GroupsAside s t) : GroupsStand s t := ⟨h.groups, h.mode, h.ig, h.ic⟩

theorem GroupsStand.refl (s : State) : GroupsStand s s := ⟨fun _ => rfl, rfl, rfl, rfl⟩

/-- A send list filled, and then an admission. -/
theorem GroupsStand.of_placed {s t : State} (hgroups : t.gau.groups = s.gau.groups) (hmode : t.meu.mode = s.meu.mode)
    (hig : t.line.ig = s.line.ig) (hic : t.clu.ic = s.clu.ic) : GroupsStand s t.settle :=
  ⟨fun g => (t.settle_admitted.groups g).trans (congrArg Group.sentForm (congrArg (·[g]) hgroups)), t.settle_mode.trans hmode,
    (congrArg Line.ig t.settle_line).trans hig, t.settle_ic.trans hic⟩

theorem Gau.makeRoom_groups (u : Gau) : u.makeRoom.groups = u.groups := by
  unfold Gau.makeRoom
  split <;> rfl

theorem State.groupsStand_sendNotice (s : State) (f : Frame) : GroupsStand s (s.sendNotice f) := by
  unfold State.sendNotice
  dsimp only
  split
  · exact .refl s
  · split
    · exact ⟨fun _ => rfl, rfl, rfl, rfl⟩
    · exact .of_placed (Gau.makeRoom_groups _) rfl rfl rfl

theorem State.groupsStand_notify (s : State) (g : Fin 8) : GroupsStand s (s.notify g) := by
  unfold State.notify
  dsimp only
  split
  · exact .refl s
  · exact s.groupsStand_sendNotice _

theorem State.groupsStand_sendGroupOrder (s : State) (g : Fin 8) (f : Frame) : GroupsStand s (s.sendGroupOrder g f) := by
  unfold State.sendGroupOrder
  dsimp only
  split
  · exact .of_placed rfl rfl rfl rfl
  · exact ⟨fun _ => rfl, rfl, rfl, rfl⟩

theorem State.groupsStand_beginRestart (s : State) (g : Fin 8) : (s.beginRestart.group g).sentForm = (s.group g).sentForm :=
  State.settle_admitted _ |>.groups g

theorem State.sendNotice_frames (s : State) (f : Frame) (g : Fin 8) : (s.sendNotice f).orderFrames g ≤ s.orderFrames g := by
  unfold State.sendNotice
  dsimp only
  split
  · exact le_rfl
  · split
    · exact le_rfl
    · refine (State.settle_drained _).gau.countP_le.trans ?_
      dsimp only
      rw [List.countP_append]
      exact s.gau.makeRoom_sublist.countP_le

theorem State.notify_frames (s : State) (g k : Fin 8) : (s.notify g).orderFrames k ≤ s.orderFrames k := by
  unfold State.notify
  dsimp only
  split
  · exact le_rfl
  · exact s.sendNotice_frames _ k

/-- A GROUP-ORDER takes the place of the group's own frame (R95). -/
theorem State.sendGroupOrder_frames (s : State) (g : Fin 8) (f : Frame) (k : Fin 8) :
    (s.sendGroupOrder g f).orderFrames k ≤ if k = g then max 1 (s.orderFrames g) else s.orderFrames k := by
  have hitem : k ≠ g → GauItem.isOrderOf k { tag := .order g, frame := f } = false := by
    intro hk
    simpa [GauItem.isOrderOf] using Ne.symm hk
  unfold State.sendGroupOrder
  dsimp only
  split
  · refine (State.settle_drained _).gau.countP_le.trans ?_
    dsimp only
    split
    · have hsame : ∀ k, (s.gau.sendList.map fun i => if i.isOrderOf g then { tag := .order g, frame := f } else i).countP (GauItem.isOrderOf k)
          = s.orderFrames k := by
        intro k
        rw [List.countP_map]
        refine List.countP_congr fun i _ => ?_
        by_cases hi : i.isOrderOf g = true
        · have htag : i.tag = .order g := by simpa [GauItem.isOrderOf] using hi
          simp [GauItem.isOrderOf, htag]
        · simp [hi]
      rw [hsame]
      split
      · next hk => exact hk ▸ le_max_right _ _
      · exact le_rfl
    · next hnone =>
      have hzero : s.orderFrames g = 0 := by
        rw [State.orderFrames, List.countP_eq_zero]
        intro i hi hg
        exact hnone (List.any_eq_true.mpr ⟨i, hi, hg⟩)
      rw [List.countP_append, List.countP_singleton]
      change s.orderFrames k + _ ≤ _
      by_cases hk : k = g
      · subst hk
        rw [hzero, if_pos rfl]
        split <;> simp
      · rw [hitem hk, if_neg hk]
        simp
  · have hle : (s.dropGroupFrames g).orderFrames k ≤ s.orderFrames k := List.filter_sublist.countP_le
    split
    · next hk =>
      subst hk
      exact hle.trans (le_max_right _ _)
    · exact hle

theorem State.dropGroupFrames_frames (s : State) (g : Fin 8) : (s.dropGroupFrames g).orderFrames g = 0 := by
  refine List.countP_eq_zero.mpr fun i hi => ?_
  simpa using (List.mem_filter.mp hi).2

/-! ### The part mode -/

theorem groupsKept_mode : GroupsKept fun s d t => (d ≠ .mode → t.meu.mode = s.meu.mode) ∧ (t.supervising = true → s.supervising = true) where
  refl := fun _ _ => ⟨fun _ => rfl, id⟩
  aside := fun h hu => ⟨fun hd => hu.mode.trans (h.1 hd), fun hs => h.2 (by rwa [State.supervising, hu.mode] at hs)⟩
  line := fun _ _ _ h => h
  modGroup := fun _ _ _ h => h
  mapGroups := fun _ _ h => h
  sendNotice := fun {s d t} f h => by
    have hmode := (t.groupsStand_sendNotice f).mode
    exact ⟨fun hd => hmode.trans (h.1 hd), fun hs => h.2 (by rwa [State.supervising, hmode] at hs)⟩
  claim := fun _ _ _ h => h
  sendGroupOrder := fun {s d t} g f _ _ h => by
    have hmode := (t.groupsStand_sendGroupOrder g f).mode
    exact ⟨fun hd => hmode.trans (h.1 hd), fun hs => h.2 (by rwa [State.supervising, hmode] at hs)⟩
  releaseCore := fun {s d t} g _ h => by
    have hmode : (t.releaseCore g).meu.mode = t.meu.mode := by
      unfold State.releaseCore
      dsimp only
      split
      · exact (State.groupsStand_notify _ g).mode
      · rfl
    exact ⟨fun hd => hmode.trans (h.1 hd), fun hs => h.2 (by rwa [State.supervising, hmode] at hs)⟩
  fallBack := fun {s d t u} g f _ _ _ h hu => by
    have hmode : (u.confirmPending g).meu.mode = t.meu.mode := by
      have hloose : u.meu.mode = t.meu.mode := hu.1 (by simp)
      unfold State.confirmPending
      split
      · exact hloose
      · exact (State.groupsStand_notify _ g).mode.trans hloose
    exact ⟨fun hd => hmode.trans (h.1 hd), fun hs => h.2 (by rwa [State.supervising, hmode] at hs)⟩
  beginRestart := fun {s t} _ => ⟨fun hd => absurd rfl hd, fun hs => by simp [State.supervising, State.beginRestart] at hs⟩
  standDown := fun o _ => ⟨fun hd => absurd rfl hd, fun hs => nomatch hs⟩

/-- Only the depth of a START, RESTART or STOP changes the part mode. -/
theorem Works.mode {s t : State} {d : Depth} (h : Works s d t) (hd : d ≠ .mode) : t.meu.mode = s.meu.mode := (groupsKept_mode.works h).1 hd

/-- No chain brings the part into SUPERVISING. -/
theorem Works.supervising {s t : State} {d : Depth} (h : Works s d t) (ht : t.supervising = true) : s.supervising = true :=
  (groupsKept_mode.works h).2 ht

/-! ### The latch (R93) -/

theorem Group.latched_of_sentForm {q r : Group} (h : r.sentForm = q.sentForm) : q.latched → r.latched := by
  rw [Group.eq_of_sentForm h]
  exact id

theorem Depth.allows.latched {d : Depth} {q r : Group} (h : d.allows q r) : q.latched → r.latched := by
  cases d with
  | loose => exact h.2
  | still | full | mode => exact h.2.2

theorem State.latched_modGroup {s : State} {g : Fin 8} {f : Group → Group} (hf : (s.group g).latched → (f (s.group g)).latched) {k : Fin 8}
    (h : (s.group k).latched) : ((s.modGroup g f).group k).latched :=
  State.group_modGroup_cases (R := fun j r => (s.group j).latched → r.latched) hf (fun _ _ => id) k h

theorem State.latched_releaseCore {s : State} (g k : Fin 8) (h : (s.group k).latched) : ((s.releaseCore g).group k).latched := by
  unfold State.releaseCore
  dsimp only
  split
  · set s1 := (s.modGroup g fun q => { q with order := none, authority := .released, streak := 0 }).dropGroupFrames g with hs1
    have h1 : (s1.group k).latched := by
      rw [hs1, State.group_dropGroupFrames]
      exact State.latched_modGroup (fun h => h) h
    exact State.latched_modGroup (fun h => h) (Group.latched_of_sentForm ((s1.groupsStand_notify g).groups k) h1)
  · exact h

theorem State.latched_confirmPending {s : State} (g k : Fin 8) (h : (s.group k).latched) : ((s.confirmPending g).group k).latched := by
  unfold State.confirmPending
  split
  · exact h
  · refine Group.latched_of_sentForm ((State.groupsStand_notify _ g).groups k) ?_
    exact State.latched_modGroup (fun h => h) h

theorem groupsKept_latched : GroupsKept fun s _ t => ∀ g, (s.group g).latched → (t.group g).latched where
  refl := fun _ _ _ => id
  aside := fun h hu g hg => Group.latched_of_sentForm (hu.groups g) (h g hg)
  line := fun _ _ _ h => h
  modGroup := fun {s d t} g f hf h k hk =>
    State.latched_modGroup hf.latched (h k hk)
  mapGroups := fun f hf h g hg => State.group_mapGroups _ f g ▸ (hf g).latched (h g hg)
  sendNotice := fun {s d t} f h g hg => Group.latched_of_sentForm ((t.groupsStand_sendNotice f).groups g) (h g hg)
  claim := fun {s d t} g _ _ h k hk =>
    State.latched_modGroup (fun _ _ => rfl) (h k hk)
  sendGroupOrder := fun {s d t} g f _ _ h k hk => Group.latched_of_sentForm ((t.groupsStand_sendGroupOrder g f).groups k) (h k hk)
  releaseCore := fun g _ h k hk => State.latched_releaseCore g k (h k hk)
  fallBack := fun {s d t u} g f _ _ hl h hu k hk => State.latched_confirmPending g k (hu k (State.latched_modGroup hl (h k hk)))
  beginRestart := fun {s t} h g hg => Group.latched_of_sentForm (t.groupsStand_beginRestart g) (h g hg)
  standDown := fun _ h => h

/-- A latch of 0 keeps step-open clear along a chain (R93). -/
theorem Works.latched {s t : State} {d : Depth} (h : Works s d t) {g : Fin 8} (hg : (s.group g).latched) : (t.group g).latched :=
  groupsKept_latched.works h g hg

/-! ### The law of authority (R94, R100, R102, R107) -/

theorem groupLaw_iff {s : State} : groupLaw s ↔ ∀ g, (s.group g).Lawful
    ∧ ((s.group g).authority = .released → s.orderFrames g = 0) ∧ s.orderFrames g ≤ 1 := by
  refine forall_congr' fun g => ⟨?_, ?_⟩
  · rintro ⟨horder, hwatcher, hreleased, hone, hpresent, hbasic⟩
    exact ⟨⟨horder, hwatcher, hpresent, hbasic⟩, hreleased, hone⟩
  · rintro ⟨⟨horder, hwatcher, hpresent, hbasic⟩, hreleased, hone⟩
    exact ⟨horder, hwatcher, hreleased, hone, hpresent, hbasic⟩

theorem Group.authority_of_bones {q r : Group} (h : r.bones = q.bones) : r.authority = q.authority := congrArg (fun b => b.2.1) h

theorem Group.bones_of_sentForm {q r : Group} (h : r.sentForm = q.sentForm) : r.bones = q.bones :=
  Group.bones_of_core (Group.core_of_sentForm h)

/-- From `s` to `t` the groups stand as the law of authority reads them, and no order frame has come. -/
def State.BonesStand (s t : State) : Prop := ∀ g, (t.group g).bones = (s.group g).bones ∧ t.orderFrames g ≤ s.orderFrames g

theorem State.BonesStand.trans {s t u : State} (h : s.BonesStand t) (h' : t.BonesStand u) : s.BonesStand u :=
  fun g => ⟨(h' g).1.trans (h g).1, (h' g).2.trans (h g).2⟩

theorem State.BonesStand.groupLaw {s t : State} (h : s.BonesStand t) (hs : groupLaw s) : groupLaw t := by
  rw [groupLaw_iff] at hs ⊢
  intro g
  obtain ⟨hlawful, hreleased, hone⟩ := hs g
  obtain ⟨hbones, hframes⟩ := h g
  refine ⟨(Group.lawful_of_bones hbones).mpr hlawful, fun hr => ?_, hframes.trans hone⟩
  have := hreleased ((Group.authority_of_bones hbones).symm.trans hr)
  omega

/-- One group's record changes within the law. -/
theorem groupLaw_modGroup {s : State} (hs : groupLaw s) {g : Fin 8} {f : Group → Group}
    (hf : (s.group g).Lawful → (f (s.group g)).Lawful ∧ ((f (s.group g)).authority = .released → (s.group g).authority = .released)) :
    groupLaw (s.modGroup g f) := by
  rw [groupLaw_iff] at hs ⊢
  refine State.group_modGroup_cases (s := s) (R := fun k r => r.Lawful ∧ (r.authority = .released → s.orderFrames k = 0) ∧ s.orderFrames k ≤ 1)
    ?_ fun k _ => hs k
  obtain ⟨hlawful, hreleased, hone⟩ := hs g
  obtain ⟨hl, hr⟩ := hf hlawful
  exact ⟨hl, fun h => hreleased (hr h), hone⟩

theorem Depth.allows.turns {d : Depth} {q r : Group} (h : d.allows q r) (hd : d.deep) : q.Turns r := by
  cases d with
  | still | loose => exact hd.elim
  | full | mode => exact h

theorem Depth.allows.moves {d : Depth} {q r : Group} (h : d.allows q r) (hd : ¬ d.deep) : q.Moves r := by
  cases d with
  | still => exact Group.Stands.moves h
  | loose => exact h
  | full | mode => exact absurd trivial hd

theorem State.bonesStand_notify (s : State) (g : Fin 8) : s.BonesStand (s.notify g) :=
  fun k => ⟨Group.bones_of_sentForm ((s.groupsStand_notify g).groups k), s.notify_frames g k⟩

/-- A release leaves no order, no watcher and no frame (R100). -/
theorem groupLaw_releaseCore {s : State} (hs : groupLaw s) (g : Fin 8) : groupLaw (s.releaseCore g) := by
  unfold State.releaseCore
  dsimp only
  split
  · set s1 := (s.modGroup g fun q => { q with order := none, authority := .released, streak := 0 }).dropGroupFrames g with hs1
    have hstand := s1.bonesStand_notify g
    rw [groupLaw_iff] at hs ⊢
    have hframes : (s1.notify g).orderFrames g = 0 :=
      Nat.le_zero.mp ((hstand g).2.trans (State.dropGroupFrames_frames _ g).le)
    have hbones := (hstand g).1
    have hgroup : s1.group g = { s.group g with order := none, authority := .released, streak := 0 } := by
      rw [hs1, State.group_dropGroupFrames, State.group_modGroup]
    simp only [hgroup, Group.bones, Prod.mk.injEq, Option.isSome_none, Option.isSome_eq_false_iff, Option.isNone_iff_eq_none] at hbones
    obtain ⟨horder, hauthority, -⟩ := hbones
    refine State.group_modGroup_cases (s := s1.notify g)
      (R := fun k r => r.Lawful ∧ (r.authority = .released → (s1.notify g).orderFrames k = 0) ∧ (s1.notify g).orderFrames k ≤ 1) ?_ ?_
    · refine ⟨?_, fun _ => hframes, by omega⟩
      simp [Group.Lawful, horder, hauthority, Authority.watched]
    · intro k hk
      obtain ⟨hlawful, hreleased, hone⟩ := hs k
      have hle : (s1.notify g).orderFrames k ≤ s.orderFrames k := (hstand k).2.trans (List.filter_sublist.countP_le)
      have hbones' : ((s1.notify g).group k).bones = (s.group k).bones := by
        rw [(hstand k).1, hs1, State.group_dropGroupFrames, State.group_modGroup_of_ne _ _ hk]
      refine ⟨(Group.lawful_of_bones hbones').mpr hlawful, fun hr => ?_, hle.trans hone⟩
      have := hreleased ((Group.authority_of_bones hbones').symm.trans hr)
      omega
  · exact hs

end Sys2Proof.Machine
end

section
/-! SUPPORT. The groups along a chain of changes, continued: the law of authority (O12), RELEASED groups outside SUPERVISING, and what a
chain of no depth leaves. -/

namespace Sys2Proof.Machine

/-! ### The law of authority along a chain (R94, R100, R102, R107) -/

/-- The move back from PENDING keeps the watcher's law and ends the order's (R96). -/
theorem Group.lawful_fromPending {q : Group} (h : (q.watcher.isSome ↔ q.authority.watched = true))
    (hpresent : q.cfg.present = false → q.authority = .released) (c streak : Nat) :
    Group.Lawful { q with confirmed := c, order := none, authority := q.authority.fromPending, streak := streak } := by
  unfold Group.Lawful Authority.fromPending at *
  cases ha : q.authority <;> simp_all [Authority.watched]

theorem Authority.fromPending_eq_released (a : Authority) : a.fromPending = .released ↔ a = .released := by
  cases a <;> simp [Authority.fromPending]

/-- The fallback to BASIC form takes a pending order as confirmed, so that no group is PENDING in it (R107). -/
theorem groupLaw_fallBack {t u : State} (ht : groupLaw t) {g : Fin 8} {f : Group → Group}
    (hf : Group.bones (f (t.group g)) = { t.group g with form := .basic : Group }.bones) (hu : (t.modGroup g f).BonesStand u) :
    groupLaw (u.confirmPending g) := by
  rw [groupLaw_iff] at ht
  have hframes : ∀ k, u.orderFrames k ≤ t.orderFrames k := fun k => (hu k).2
  have hother : ∀ k, k ≠ g → (u.group k).Lawful ∧ ((u.group k).authority = .released → u.orderFrames k = 0) ∧ u.orderFrames k ≤ 1 := by
    intro k hk
    have hbones : (u.group k).bones = (t.group k).bones := (hu k).1.trans (by rw [State.group_modGroup_of_ne _ _ hk])
    obtain ⟨hlawful, hreleased, hone⟩ := ht k
    refine ⟨(Group.lawful_of_bones hbones).mpr hlawful, fun hr => ?_, (hframes k).trans hone⟩
    exact Nat.le_zero.mp ((hframes k).trans (hreleased ((Group.authority_of_bones hbones).symm.trans hr)).le)
  obtain ⟨⟨horder, hwatcher, hpresent, -⟩, hreleased, hone⟩ := ht g
  have hbones : (u.group g).bones = { t.group g with form := .basic : Group }.bones := (hu g).1.trans (by rw [State.group_modGroup, hf])
  simp only [Group.bones, Prod.mk.injEq] at hbones
  obtain ⟨ho, ha, hw, hp, -⟩ := hbones
  have hzero : (u.group g).authority = .released → u.orderFrames g = 0 := fun hr =>
    Nat.le_zero.mp ((hframes g).trans (hreleased (ha.symm.trans hr)).le)
  unfold State.confirmPending
  split
  · next hnone =>
    refine groupLaw_iff.mpr fun k => ?_
    by_cases hk : k = g
    · subst hk
      refine ⟨⟨?_, ?_, ?_, fun _ => ?_⟩, hzero, (hframes k).trans hone⟩
      · rw [ho, ha]
        exact horder
      · rw [hw, ha]
        exact hwatcher
      · rw [hp, ha]
        exact hpresent
      · have hno : (t.group k).order.isSome = false := by rw [← ho, hnone, Option.isSome_none]
        rw [hno] at horder
        rw [ha]
        simpa [not_or] using horder
    · exact hother k hk
  · refine State.BonesStand.groupLaw (State.bonesStand_notify _ g) (groupLaw_iff.mpr ?_)
    refine State.group_modGroup_cases (s := u)
      (R := fun k r => r.Lawful ∧ (r.authority = .released → u.orderFrames k = 0) ∧ u.orderFrames k ≤ 1) ?_ hother
    refine ⟨Group.lawful_fromPending ?_ ?_ _ _, fun hr => hzero ?_, (hframes g).trans hone⟩
    · rw [hw, ha]
      exact hwatcher
    · rw [hp, ha]
      exact hpresent
    · exact (Authority.fromPending_eq_released _).mp hr

/-- A claim is lawful: the group was RELEASED, and so without order, watcher and frame (R91). -/
theorem groupLaw_claim {t : State} (ht : groupLaw t) {g : Fin 8} (hg : t.claimable (t.group g) = true) :
    groupLaw (t.modGroup g Group.claimed) := by
  refine groupLaw_modGroup ht fun hlawful => ⟨?_, fun h => nomatch h⟩
  simp only [State.claimable, Bool.and_eq_true, beq_iff_eq] at hg
  obtain ⟨⟨⟨⟨hpresent, hreleased⟩, -⟩, -⟩, -⟩ := hg
  obtain ⟨-, hwatcher, -, -⟩ := hlawful
  rw [hreleased] at hwatcher
  refine ⟨by simp [Group.claimed], ?_, fun h => ?_, fun _ => by simp [Group.claimed]⟩
  · simpa [Group.claimed, Authority.watched] using hwatcher
  · exact absurd (hpresent.symm.trans h) (by simp)

/-- An order frame of a held group (R95). -/
theorem groupLaw_sendGroupOrder {t : State} (ht : groupLaw t) {g : Fin 8} (f : Frame) (hg : (t.group g).authority ≠ .released) :
    groupLaw (t.sendGroupOrder g f) := by
  rw [groupLaw_iff] at ht ⊢
  intro k
  obtain ⟨hlawful, hreleased, hone⟩ := ht k
  have hbones := Group.bones_of_sentForm ((t.groupsStand_sendGroupOrder g f).groups k)
  have hframes := t.sendGroupOrder_frames g f k
  refine ⟨(Group.lawful_of_bones hbones).mpr hlawful, fun hr => ?_, ?_⟩
  · have hr' := (Group.authority_of_bones hbones).symm.trans hr
    have hk : k ≠ g := by
      rintro rfl
      exact hg hr'
    rw [if_neg hk, hreleased hr'] at hframes
    exact Nat.le_zero.mp hframes
  · by_cases hk : k = g
    · subst hk
      rw [if_pos rfl] at hframes
      omega
    · rw [if_neg hk] at hframes
      omega

theorem GroupsAside.bonesStand {s t : State} (h : GroupsAside s t) : s.BonesStand t :=
  fun g => ⟨Group.bones_of_sentForm (h.groups g), h.list.countP_le⟩

theorem State.bonesStand_modGroup {s : State} {g : Fin 8} {f : Group → Group} (hf : (f (s.group g)).bones = (s.group g).bones) :
    s.BonesStand (s.modGroup g f) := fun k =>
  ⟨State.group_modGroup_cases (R := fun k r => r.bones = (s.group k).bones) hf (fun _ _ => rfl) k, le_rfl⟩

theorem groupsKept_law : GroupsKept fun s d t => (¬ d.deep → s.BonesStand t) ∧ (groupLaw s → groupLaw t) where
  refl := fun _ _ => ⟨fun _ _ => ⟨rfl, le_rfl⟩, id⟩
  aside := fun h hu => ⟨fun hd => (h.1 hd).trans hu.bonesStand, fun hs => hu.bonesStand.groupLaw (h.2 hs)⟩
  line := fun _ _ _ h => h
  modGroup := fun {_ d _} _ _ hf h =>
    ⟨fun hd => (h.1 hd).trans (State.bonesStand_modGroup (hf.moves hd).1), fun hs => by
      by_cases hd : d.deep
      · exact groupLaw_modGroup (h.2 hs) (hf.turns hd).1
      · exact (State.bonesStand_modGroup (hf.moves hd).1).groupLaw (h.2 hs)⟩
  mapGroups := fun {_ d t} f hf h => by
    have hstand : ¬ d.deep → t.BonesStand { t with gau.groups := t.gau.groups.map f } := fun hd g =>
      ⟨by rw [State.group_mapGroups]; exact ((hf g).moves hd).1, le_rfl⟩
    refine ⟨fun hd => (h.1 hd).trans (hstand hd), fun hs => ?_⟩
    by_cases hd : d.deep
    · have ht := groupLaw_iff.mp (h.2 hs)
      refine groupLaw_iff.mpr fun g => ?_
      obtain ⟨hlawful, hreleased, hone⟩ := ht g
      obtain ⟨hl, hr⟩ := ((hf g).turns hd).1 hlawful
      rw [State.group_mapGroups]
      exact ⟨hl, fun h => hreleased (hr h), hone⟩
    · exact (hstand hd).groupLaw (h.2 hs)
  sendNotice := fun {_ _ t} f h => by
    have hstand : t.BonesStand (t.sendNotice f) := fun k =>
      ⟨Group.bones_of_sentForm ((t.groupsStand_sendNotice f).groups k), t.sendNotice_frames f k⟩
    exact ⟨fun hd => (h.1 hd).trans hstand, fun hs => hstand.groupLaw (h.2 hs)⟩
  claim := fun _ hg hd h => ⟨fun hn => absurd hd hn, fun hs => groupLaw_claim (h.2 hs) hg⟩
  sendGroupOrder := fun _ f hg hd h => ⟨fun hn => absurd hd hn, fun hs => groupLaw_sendGroupOrder (h.2 hs) f hg⟩
  releaseCore := fun g hd h => ⟨fun hn => absurd hd hn, fun hs => groupLaw_releaseCore (h.2 hs) g⟩
  fallBack := fun _ _ hd hf _ h hu => ⟨fun hn => absurd hd hn, fun hs => groupLaw_fallBack (h.2 hs) hf (hu.1 not_false)⟩
  beginRestart := fun {_ t} h => by
    have hstand : t.BonesStand t.beginRestart := fun k =>
      ⟨Group.bones_of_sentForm (t.groupsStand_beginRestart k),
        ((State.settle_drained _).gau.trans List.filter_sublist).countP_le⟩
    exact ⟨fun hd => (h.1 hd).trans hstand, fun hs => hstand.groupLaw (h.2 hs)⟩
  standDown := fun _ h => h

/-- Every chain keeps the law of authority. -/
theorem Works.groupLaw {s t : State} {d : Depth} (h : Works s d t) (hs : groupLaw s) : groupLaw t := (groupsKept_law.works h).2 hs

/-! ### RELEASED groups (R84, R178) -/

/-- Every group is RELEASED. -/
def State.AllReleased (s : State) : Prop := ∀ g, (s.group g).authority = .released

theorem Group.authority_of_sentForm {q r : Group} (h : r.sentForm = q.sentForm) : r.authority = q.authority :=
  Group.authority_of_bones (Group.bones_of_sentForm h)

theorem Depth.allows.released {d : Depth} {q r : Group} (h : d.allows q r) (hq : q.authority = .released) : r.authority = .released := by
  by_cases hd : d.deep
  · exact (h.turns hd).2.1 hq
  · exact (h.moves hd).authority.trans hq

theorem State.AllReleased.of_sentForm {s t : State} (hs : s.AllReleased) (h : ∀ g, (t.group g).sentForm = (s.group g).sentForm) :
    t.AllReleased := fun g => (Group.authority_of_sentForm (h g)).trans (hs g)

theorem State.AllReleased.modGroup {s : State} (hs : s.AllReleased) {g : Fin 8} {f : Group → Group}
    (hf : (s.group g).authority = .released → (f (s.group g)).authority = .released) : (s.modGroup g f).AllReleased :=
  State.group_modGroup_cases (R := fun _ r => r.authority = .released) (hf (hs g)) fun k _ => hs k

theorem State.AllReleased.releaseCore {s : State} (hs : s.AllReleased) (g : Fin 8) : (s.releaseCore g).AllReleased := by
  unfold State.releaseCore
  dsimp only
  rw [if_neg (by simp [hs g, Authority.isHeld])]
  exact hs

theorem groupsKept_released : GroupsKept fun s _ t =>
    s.supervising = false → s.AllReleased → t.supervising = false ∧ t.AllReleased where
  refl := fun _ _ hs hr => ⟨hs, hr⟩
  aside := fun h hu hs hr => by
    obtain ⟨ht, hr⟩ := h hs hr
    exact ⟨by rwa [State.supervising, hu.mode], hr.of_sentForm hu.groups⟩
  line := fun _ _ _ h => h
  modGroup := fun _ _ hf h hs hr => ⟨(h hs hr).1, (h hs hr).2.modGroup hf.released⟩
  mapGroups := fun f hf h hs hr => ⟨(h hs hr).1, fun g => State.group_mapGroups _ f g ▸ (hf g).released ((h hs hr).2 g)⟩
  sendNotice := fun {_ _ t} f h hs hr => by
    have hstand := t.groupsStand_sendNotice f
    obtain ⟨ht, hr⟩ := h hs hr
    exact ⟨by rwa [State.supervising, hstand.mode], hr.of_sentForm hstand.groups⟩
  claim := fun _ hg _ h hs hr => by
    simp only [State.claimable, (h hs hr).1, Bool.and_false, Bool.false_eq_true] at hg
  sendGroupOrder := fun g _ hg _ h hs hr => absurd ((h hs hr).2 g) hg
  releaseCore := fun {_ _ t} g _ h hs hr => by
    obtain ⟨ht, hr⟩ := h hs hr
    have hself : t.releaseCore g = t := if_neg (by simp [hr g, Authority.isHeld])
    rw [hself]
    exact ⟨ht, hr⟩
  fallBack := fun {_ _ t u} g f _ hf _ h hu hs hr => by
    obtain ⟨ht, hr⟩ := h hs hr
    obtain ⟨hut, hur⟩ := hu ht (hr.modGroup fun hq => (Group.authority_of_bones hf).trans hq)
    unfold State.confirmPending
    split
    · exact ⟨hut, hur⟩
    · refine ⟨?_, State.AllReleased.of_sentForm ?_ (State.groupsStand_notify _ g).groups⟩
      · rw [State.supervising, (State.groupsStand_notify _ g).mode]
        exact hut
      · exact hur.modGroup (Authority.fromPending_eq_released _).mpr
  beginRestart := fun {_ t} h hs hr =>
    ⟨by simp [State.supervising, State.beginRestart], (h hs hr).2.of_sentForm t.groupsStand_beginRestart⟩
  standDown := fun _ h hs hr => ⟨rfl, (h hs hr).2⟩

/-- Where every group is RELEASED and the mode is not SUPERVISING, a chain leaves it so. -/
theorem Works.released {s t : State} {d : Depth} (h : Works s d t) (hs : s.supervising = false) (hr : s.AllReleased) :
    t.supervising = false ∧ t.AllReleased := groupsKept_released.works h hs hr

/-! ### A chain of no depth -/

theorem groupsKept_still : GroupsKept fun s d t => d = .still →
    (∀ g, (t.group g).core = (s.group g).core ∧ ((t.group g).stepOpen = true → (s.group g).stepOpen = true)
      ∧ ((s.group g).latched → (t.group g).latched))
    ∧ t.line.ig = s.line.ig ∧ t.clu.ic = s.clu.ic where
  refl := fun _ _ _ => ⟨fun _ => ⟨rfl, id, id⟩, rfl, rfl⟩
  aside := fun h hu hd => by
    obtain ⟨hg, hig, hic⟩ := h hd
    refine ⟨fun g => ?_, hu.ig.trans hig, hu.ic.trans hic⟩
    obtain ⟨hcore, hstep, hlatch⟩ := hg g
    have heq := Group.eq_of_sentForm (hu.groups g)
    exact ⟨(Group.core_of_sentForm (hu.groups g)).trans hcore, fun ho => hstep (by rwa [heq] at ho),
      fun hl => Group.latched_of_sentForm (hu.groups g) (hlatch hl)⟩
  line := fun c x hx h hd => ⟨(h hd).1, (hx hd).1.trans (h hd).2.1, (hx hd).2.trans (h hd).2.2⟩
  modGroup := fun {s _ t} g f hf h hd => by
    subst hd
    obtain ⟨hg, hrest⟩ := h rfl
    refine ⟨State.group_modGroup_cases (s := t) (R := fun k r => r.core = (s.group k).core ∧ (r.stepOpen = true → (s.group k).stepOpen = true)
      ∧ ((s.group k).latched → r.latched)) ?_ fun k _ => hg k, hrest⟩
    obtain ⟨hcore, hstep, hlatch⟩ := hg g
    exact ⟨hf.1.trans hcore, fun ho => hstep (hf.2.1 ho), fun hl => hf.2.2 (hlatch hl)⟩
  mapGroups := fun {s _ t} f hf h hd => by
    subst hd
    obtain ⟨hg, hrest⟩ := h rfl
    refine ⟨fun g => ?_, hrest⟩
    obtain ⟨hcore, hstep, hlatch⟩ := hg g
    rw [State.group_mapGroups]
    exact ⟨(hf g).1.trans hcore, fun ho => hstep ((hf g).2.1 ho), fun hl => (hf g).2.2 (hlatch hl)⟩
  sendNotice := fun {_ _ t} f h hd => by
    have hstand := t.groupsStand_sendNotice f
    obtain ⟨hg, hig, hic⟩ := h hd
    refine ⟨fun g => ?_, hstand.ig.trans hig, hstand.ic.trans hic⟩
    obtain ⟨hcore, hstep, hlatch⟩ := hg g
    have heq := Group.eq_of_sentForm (hstand.groups g)
    exact ⟨(Group.core_of_sentForm (hstand.groups g)).trans hcore, fun ho => hstep (by rwa [heq] at ho),
      fun hl => Group.latched_of_sentForm (hstand.groups g) (hlatch hl)⟩
  claim := fun _ _ hd _ h => (h ▸ hd : Depth.still.deep).elim
  sendGroupOrder := fun _ _ _ hd _ h => (h ▸ hd : Depth.still.deep).elim
  releaseCore := fun _ hd _ h => (h ▸ hd : Depth.still.deep).elim
  fallBack := fun _ _ hd _ _ _ _ h => (h ▸ hd : Depth.still.deep).elim
  beginRestart := fun _ h => nomatch h
  standDown := fun _ _ h => nomatch h

end Sys2Proof.Machine
end

section
/-! SUPPORT. Every named operation as a chain of changes: the line regulator and the group authority unit. -/

namespace Sys2Proof.Machine

section
variable {s t : State} {d : Depth}

/-! ### Folds -/

/-- A fold of operations that prolong a chain does. -/
theorem Works.foldl {α : Type} {f : State → α → State} (hf : ∀ t a, Works s d t → Works s d (f t a)) (l : List α) :
    ∀ {t : State}, Works s d t → Works s d (l.foldl f t) := by
  induction l with
  | nil => exact id
  | cons a l ih => exact fun h => ih (hf _ a h)

/-- Fields that no law reads have changed. -/
theorem Works.update {u : State} (h : Works s d t) (hu : t.Unread u := by rfl) : Works s d u := .unread h hu

/-- A group's record has changed in what its authority does not rest on. -/
theorem Works.moveGroup (h : Works s d t) (g : Fin 8) {f : Group → Group} (hd : d ≠ .still)
    (hbones : (f (t.group g)).bones = (t.group g).bones := by rfl)
    (hlatch : (t.group g).latched → (f (t.group g)).latched := by exact fun h => h) : Works s d (t.modGroup g f) :=
  .modGroup h g f (Group.Moves.allowed ⟨hbones, hlatch⟩ hd)

/-- A group's record has changed in no field that a law reads. -/
theorem Works.standGroup (h : Works s d t) (g : Fin 8) {f : Group → Group} (hcore : (f (t.group g)).core = (t.group g).core := by rfl)
    (hstep : (f (t.group g)).stepOpen = true → (t.group g).stepOpen = true := by exact fun h => h)
    (hlatch : (t.group g).latched → (f (t.group g)).latched := by exact fun h => h) : Works s d (t.modGroup g f) :=
  .modGroup h g f (Group.Stands.allowed ⟨hcore, hstep, hlatch⟩ d)

/-! ### The line regulator -/

theorem Group.moves_wanted (q : Group) (w : Nat) : q.Moves { q with wanted := w } := ⟨rfl, id⟩

theorem Works.allocate (h : Works s d t) (hd : d ≠ .still) : Works s d t.allocate := by
  unfold State.allocate
  dsimp only
  split
  · unfold State.writeWanted
    exact .foldl (fun t w h => .modGroup h w.1 _ (((t.group w.1).moves_wanted w.2).allowed hd)) _ h
  · exact h

theorem Works.reallocate (h : Works s d t) (hd : d ≠ .still) (before : State) : Works s d (t.reallocate before) := by
  unfold State.reallocate
  split
  · exact h
  · exact h.allocate hd

theorem Works.workBelowFloor (h : Works s d t) : Works s d t.workBelowFloor := by
  unfold State.workBelowFloor
  split_ifs
  · exact h
  · exact .raise h.update _ _ _ _
  · exact h.update

theorem Works.workHeatRecovery (h : Works s d t) : Works s d t.workHeatRecovery := .heat h t.line ⟨id, id, id⟩ fun _ => rfl

theorem Works.workCapBinding (h : Works s d t) (bound : Bool) (iw : Nat) : Works s d (t.workCapBinding bound iw) := by
  unfold State.workCapBinding
  split_ifs
  · exact h
  · exact .raise h.update _ _ _ _
  · exact h.update

/-- The slew ends at or below Ic, for its goal and its start do (R71, R72). -/
theorem Line.slew_le (l : Line) (cap : Option Nat) (ic dt : Nat) (h : l.it ≤ ic) : l.slew (l.workingValue cap ic) ic dt ≤ ic := by
  have hiw : l.workingValue cap ic ≤ ic := by
    unfold Line.workingValue
    dsimp only
    split
    · exact (min_le_left _ _).trans (min_le_right _ _)
    · exact min_le_right _ _
  have hit : min l.it ic ≤ ic := min_le_right _ _
  unfold Line.slew
  dsimp only
  split_ifs <;> omega

/-- The cap-binding flag and its event leave the line record and Ic (R136). -/
theorem State.workCapBinding_line (s : State) (bound : Bool) (iw : Nat) :
    (s.workCapBinding bound iw).line = s.line ∧ (s.workCapBinding bound iw).clu.ic = s.clu.ic := by
  unfold State.workCapBinding
  split_ifs
  · exact ⟨rfl, rfl⟩
  · exact ⟨State.raise_line _ _ _ _ _, State.settle_ic _⟩
  · exact ⟨rfl, rfl⟩

theorem Works.composeStage (h : Works s d t) (dt : Nat) : Works s d (t.composeStage dt) := by
  unfold State.composeStage
  split
  · exact h
  · next hstate =>
    unfold State.compose
    dsimp only
    obtain ⟨hline, hic⟩ := t.workCapBinding_line (capBinds t.egu.slot.cap t.line.profileCurrent) t.line.profileCurrent
    refine .workBelowFloor (.line (h.workCapBinding _ _) _ ⟨fun ht => ?_, ?_, ?_⟩ ?_ fun _ => ?_)
    · have hle : t.line.it ≤ t.clu.ic := hline ▸ hic ▸ ht.1
      refine ⟨?_, fun htripped => absurd (hline ▸ htripped) hstate⟩
      rw [hic]
      exact t.line.slew_le _ _ _ hle
    · exact id
    · exact id
    · exact id
    · rfl

theorem Works.workTrim (h : Works s d t) (hd : d ≠ .still) : Works s d t.workTrim :=
  .line h _ ⟨id, id, id⟩ id fun h => absurd h hd

/-- A player record that keeps its law is a line record that keeps the laws of the line. -/
theorem Works.player (h : Works s d t) (p : Player) (hp : Machine.playerLaw { t with line.player := p }) :
    Works s d { t with line.player := p } :=
  .line h _ ⟨id, fun _ => hp, id⟩ id fun _ => rfl

theorem playerLaw_stopped (s : State) (p : Player) : playerLaw { s with line.player := p.stopped } :=
  have hidle : p.stopped.state = .idle := rfl
  ⟨fun _ => ⟨rfl, rfl, rfl, rfl⟩, fun h => absurd (hidle.symm.trans h) (by simp), fun h => absurd (hidle.symm.trans h) (by simp)⟩

/-- The player's record as a step is entered (R82). -/
def Player.entered (st : ProfileStep) (n : Fin 8) (k : Fin 256) (now : Nat) : Player :=
  { state := .playing, profile := some n, step := k, last := st.last, stepEnd := some (now + st.duration * 1000), remaining := none
    op := st.offset }

theorem playerLaw_entered (s : State) (st : ProfileStep) (n : Fin 8) (k : Fin 256) (now : Nat) :
    playerLaw { s with line.player := Player.entered st n k now } :=
  have hplaying : (Player.entered st n k now).state = .playing := rfl
  ⟨fun h => absurd (hplaying.symm.trans h) (by simp), fun _ => ⟨rfl, rfl, rfl⟩, fun h => absurd (hplaying.symm.trans h) (by simp)⟩

theorem Works.stopPlayer (h : Works s d t) : Works s d { t with line.player := t.line.player.stopped } :=
  h.player _ (playerLaw_stopped t _)

theorem Works.enterStep (h : Works s d t) (n : Fin 8) (k : Fin 256) : Works s d (t.enterStep n k) := by
  have hplaying := h.player _ (playerLaw_entered t t.line.steps[k] n k t.time)
  unfold State.enterStep
  dsimp only
  split
  · exact hplaying
  · exact .raise hplaying _ _ _ _

theorem Works.startProfile (h : Works s d t) (n : Fin 8) : Works s d (t.startProfile n) := h.enterStep n _

theorem Works.runOut (h : Works s d t) : Works s d t.runOut := by
  unfold State.runOut
  dsimp only
  split
  · exact h.stopPlayer
  · split
    · exact h.enterStep _ _
    · exact .raise h.stopPlayer _ _ _ _

theorem Works.trigger (h : Works s d t) (cls : Nat) : Works s d (t.trigger cls) := by
  unfold State.trigger
  split
  · split
    · exact h
    · exact h.startProfile _
  · exact h

theorem Works.zeroWanted (h : Works s d t) (hd : d ≠ .still) : Works s d t.zeroWanted :=
  .mapGroups h _ fun g => by
    split
    · exact ((t.group g).moves_wanted 0).allowed hd
    · exact Group.Moves.allowed ⟨rfl, id⟩ hd

/-- The line record of a trip is at 0, with the player stopped (R69). -/
theorem Works.trip (h : Works s d t) (hd : d ≠ .still) : Works s d t.trip := by
  have hline := Works.line h
    { t.line with state := .tripped, it := 0, c := 0, ig := 0, tripWatch := none, player := t.line.player.stopped }
    ⟨fun _ => ⟨Nat.zero_le _, fun _ => rfl⟩, fun _ => playerLaw_stopped t t.line.player, id⟩ id fun h => absurd h hd
  exact .raise ((hline.allocate hd).zeroWanted hd) _ _ _ _

theorem Works.restartedLine (h : Works s d t) (hd : d ≠ .still) : Works s d { t with line := t.line.restarted t.clu.ic } := by
  refine .line h _ ⟨fun _ => ⟨min_le_right _ _, fun htripped => ?_⟩, id, id⟩ id fun h => absurd h hd
  unfold Line.restarted at htripped
  dsimp only at htripped
  split at htripped <;> simp at htripped

/-! ### The group authority unit -/

theorem Works.notify (h : Works s d t) (g : Fin 8) : Works s d (t.notify g) := by
  unfold State.notify
  dsimp only
  split
  · exact h
  · exact .sendNotice h _

theorem Works.releaseGroup (h : Works s d t) (g : Fin 8) (hd : d.deep) : Works s d (t.releaseGroup g) := by
  unfold State.releaseGroup
  split
  · exact (Works.releaseCore h g hd).allocate hd.ne_still
  · exact h

theorem Works.releaseAll (h : Works s d t) (hd : d.deep) : Works s d t.releaseAll :=
  .foldl (fun _ g h => .releaseCore h g hd) _ h

theorem Group.moves_withdrawWanted (q : Group) : q.Moves q.withdrawWanted := by
  unfold Group.withdrawWanted
  split
  · exact q.moves_wanted 0
  · exact ⟨rfl, id⟩

theorem Works.claimGroup (h : Works s d t) (g : Fin 8) (hd : d.deep) (hg : t.claimable (t.group g) = true) :
    Works s d (t.claimGroup g) :=
  .modGroup ((Works.claim h g hg hd).allocate hd.ne_still) g _ ((Group.moves_withdrawWanted _).allowed hd.ne_still)

theorem Works.autoclaim (h : Works s d t) (g : Fin 8) (hd : d.deep) : Works s d (t.autoclaim g) := by
  unfold State.autoclaim
  dsimp only
  split
  · next hg => exact h.claimGroup g hd (Bool.and_eq_true_iff.mp hg).2
  · exact h

/-- The move back from PENDING is lawful (R96 to R98). -/
theorem Group.turns_fromPending (q : Group) (c streak : Nat) :
    q.Turns { q with confirmed := c, order := none, authority := q.authority.fromPending, streak := streak } := by
  refine ⟨fun hq => ⟨?_, (Authority.fromPending_eq_released _).mp⟩, (Authority.fromPending_eq_released _).mpr, id⟩
  obtain ⟨-, hwatcher, hpresent, -⟩ := hq
  exact Group.lawful_fromPending hwatcher hpresent c streak

theorem Works.endOrder (h : Works s d t) (g : Fin 8) (hd : d.deep) : Works s d (t.endOrder g) :=
  .modGroup h g _ (((t.group g).turns_fromPending (t.group g).confirmed (t.group g).streak).allowed hd)

theorem Works.orderTaken (h : Works s d t) (g : Fin 8) (o : GroupOrder) (hd : d.deep) : Works s d (t.orderTaken g o) :=
  .notify ((h.endOrder g hd).moveGroup g hd.ne_still) g

theorem Works.orderRefused (h : Works s d t) (g : Fin 8) (o : GroupOrder) (hd : d.deep) : Works s d (t.orderRefused g o) := by
  have hended : Works s d ((t.endOrder g).modGroup g fun q => { q with streak := q.streak + 1 }) :=
    (h.endOrder g hd).moveGroup g hd.ne_still
  unfold State.orderRefused
  dsimp only
  split
  · exact .raise (hended.releaseGroup g hd) _ _ _ _
  · exact hended

theorem Works.workStatusMode (h : Works s d t) (g : Fin 8) (m : StatusMode) (hd : d.deep) : Works s d (t.workStatusMode g m) := by
  unfold State.workStatusMode
  dsimp only
  refine Works.standGroup ?_ g
  split
  · exact .raise (h.releaseGroup g hd) _ _ _ _
  · exact h

theorem Works.startWithdrawal (h : Works s d t) (g : Fin 8) (hd : d ≠ .still) : Works s d (t.startWithdrawal g) := by
  unfold State.startWithdrawal
  dsimp only
  split
  · refine .raise (.modGroup h g _ (Group.Moves.allowed ⟨?_, ?_⟩ hd)) _ _ _ _
    · exact (Group.moves_withdrawWanted _).1
    · exact (Group.moves_withdrawWanted { t.group g with withdrawal := .withdrawing }).2
  · exact h

theorem Works.endWithdrawal (h : Works s d t) (g : Fin 8) (hd : d ≠ .still) : Works s d (t.endWithdrawal g) :=
  h.moveGroup g hd

theorem Group.moves_workIdle (q : Group) : q.Moves q.workIdle := by
  unfold Group.workIdle
  split <;> exact ⟨rfl, id⟩

/-! ### The decision of orders (R94, R110) -/

/-- The record of an order that is pending: the group was held, without an order, and in a form that takes one (R94). -/
theorem Group.turns_ordered {q : Group} (o : GroupOrder) (hheld : q.authority ≠ .released) (hnone : q.Lawful → q.order = none)
    (hform : q.form = .full) : q.Turns { q with order := some o, authority := q.authority.toPending } := by
  refine ⟨fun hq => ?_, fun h => absurd h hheld, id⟩
  have hno := hnone hq
  obtain ⟨horder, hwatcher, hpresent, -⟩ := hq
  unfold Group.Lawful Authority.toPending
  cases ha : q.authority <;> simp_all [Authority.watched]

theorem Group.form_of_external {q : Group} (h : q.ackInForce = .external) : q.form = .full := by
  cases hf : q.form with
  | full => rfl
  | basic => simp [Group.ackInForce, hf] at h

theorem Authority.toPending_ne_released {a : Authority} (h : a ≠ .released) : a.toPending ≠ .released := by
  cases a <;> simp_all [Authority.toPending]

/-- The record of group `g` as an order of it goes out, before the order itself is noted (R94, R110). -/
def Group.sending (withdraw : Bool) (q : Group) : Group :=
  { q with
    stepOpen := q.stepOpen && withdraw
    statusSince := false
    counters.ordersSent := bump32 q.counters.ordersSent }

theorem Group.moves_sending (q : Group) (withdraw : Bool) : q.Moves (q.sending withdraw) :=
  ⟨rfl, fun hq hlatch => by simp [Group.sending, hq hlatch]⟩

theorem Works.decideOrder (h : Works s d t) (g : Fin 8) (setpoint : Nat) (withdraw : Bool) (hd : d.deep)
    (hheld : (t.group g).authority ≠ .released) (hnone : (t.group g).Lawful → (t.group g).order = none) :
    Works s d (t.decideOrder g setpoint withdraw) := by
  have hseq : Works s d { t with gau.seq := t.gau.seq + 1 } := h.update
  have hsent : Works s d (State.modGroup { t with gau.seq := t.gau.seq + 1 } g (Group.sending withdraw)) :=
    .modGroup hseq g _ ((Group.moves_sending _ withdraw).allowed hd.ne_still)
  have hgroup : (State.modGroup { t with gau.seq := t.gau.seq + 1 } g (Group.sending withdraw)).group g = (t.group g).sending withdraw :=
    State.group_modGroup _ _ _
  unfold State.decideOrder
  dsimp only
  cases hack : (t.group g).ackInForce with
  | external =>
    refine .sendGroupOrder (.modGroup hsent g _ (Group.Turns.allowed ?_ hd)) g _ ?_ hd
    · rw [hgroup]
      refine Group.turns_ordered _ hheld (fun hq => hnone ?_) (Group.form_of_external (q := t.group g) hack)
      exact (Group.lawful_of_bones (Group.moves_sending _ withdraw).1).mp hq
    · rw [State.group_modGroup]
      exact Authority.toPending_ne_released (hgroup ▸ hheld)
  | internal =>
    refine .sendGroupOrder (.notify (hsent.moveGroup g hd.ne_still) g) g _ ?_ hd
    rw [Group.authority_of_sentForm (((State.groupsStand_notify _ g).groups g)), State.group_modGroup]
    exact hgroup ▸ hheld

theorem Authority.isHeld_iff (a : Authority) : a.isHeld = true ↔ a ≠ .released := by
  cases a <;> simp [Authority.isHeld]

theorem Authority.ne_released_of_settled {a : Authority} (h : a.settled = true) : a ≠ .released := by
  rintro rfl
  exact Bool.noConfusion h

/-- A HELD group without a pending order has none (R94). -/
theorem Group.order_eq_none_of_settled {q : Group} (h : q.authority.settled = true) (hq : q.Lawful) : q.order = none := by
  obtain ⟨horder, -⟩ := hq
  cases ha : q.authority <;> simp_all [Authority.settled]

theorem Works.decideFor (h : Works s d t) (g : Fin 8) (hd : d.deep) : Works s d (t.decideFor g) := by
  unfold State.decideFor
  dsimp only
  split
  · next hzero =>
    simp only [State.zeroOrderDue, Bool.and_eq_true] at hzero
    obtain ⟨⟨⟨⟨hheld, -⟩, hnone⟩, -⟩, -⟩ := hzero
    exact h.decideOrder g 0 true hd ((Authority.isHeld_iff _).mp hheld) fun _ => Option.isNone_iff_eq_none.mp hnone
  · split
    · next hdue =>
      simp only [State.orderDue, Bool.and_eq_true] at hdue
      have hsettled := hdue.1.1.1.1.1.1.1
      exact h.decideOrder g _ false hd (Authority.ne_released_of_settled hsettled) (Group.order_eq_none_of_settled hsettled)
    · exact h

theorem Works.decideAll (h : Works s d t) (hd : d.deep) : Works s d t.decideAll := .foldl (fun _ g h => h.decideFor g hd) _ h

theorem Works.regulate (h : Works s d t) (hd : d.deep) : Works s d t.regulate := by
  unfold State.regulate
  dsimp only
  split
  · exact h.decideAll hd
  · exact ((h.decideAll hd).allocate hd.ne_still).decideAll hd

end
end Sys2Proof.Machine
end

section
/-! SUPPORT. Every named operation as a chain of changes, continued: the answers, probes and statuses of groups, and the cooling unit. -/

namespace Sys2Proof.Machine

section
variable {s t : State} {d : Depth}

/-! ### Capacities and what they hand on (R118, R119) -/

theorem Works.evaluateCap (h : Works s d t) (g : Fin 8) (hd : d ≠ .still) : Works s d (t.evaluateCap g) := by
  unfold State.evaluateCap
  split
  · exact h.moveGroup g hd
  · exact h

theorem Works.evaluateAll (h : Works s d t) (hd : d ≠ .still) : Works s d t.evaluateAll := .foldl (fun _ g h => h.evaluateCap g hd) _ h

theorem Works.evaluateStage (h : Works s d t) : Works s d t.evaluateStage := h.update

/-- A new Ic is the change named for it: it is handed on where it differs from the Ic before (R119). -/
theorem State.handCapacity_eq (s before : State) (hic : s.clu.ic = before.clu.ic) :
    s.handCapacity before = (s.withCapacity s.stationCapacity).reallocate before := by
  unfold State.handCapacity State.withCapacity
  rw [← hic]
  by_cases h : s.stationCapacity = s.clu.ic
  · rw [h]
  · simp [h]

theorem Works.handOn (h : Works s d t) (hd : d ≠ .still) {before : State} (hic : t.clu.ic = before.clu.ic) :
    Works s d (t.handOn before) := by
  unfold State.handOn
  rw [State.handCapacity_eq _ _ hic]
  exact ((h.withCapacity _ hd).reallocate hd _).evaluateStage

theorem State.evaluateCap_clu (s : State) (g : Fin 8) : (s.evaluateCap g).clu = s.clu := by
  unfold State.evaluateCap
  split <;> rfl

theorem foldl_clu {α : Type} {f : State → α → State} (hf : ∀ s a, (f s a).clu = s.clu) (l : List α) :
    ∀ s : State, (l.foldl f s).clu = s.clu := by
  induction l with
  | nil => exact fun _ => rfl
  | cons a l ih => exact fun s => (ih (f s a)).trans (hf s a)

theorem State.evaluateAll_clu (s : State) : s.evaluateAll.clu = s.clu := foldl_clu State.evaluateCap_clu _ s

theorem State.startWithdrawal_ic (s : State) (g : Fin 8) : (s.startWithdrawal g).clu.ic = s.clu.ic := by
  unfold State.startWithdrawal
  dsimp only
  split
  · exact State.settle_ic _
  · rfl

/-- The curve computation, with its results not yet handed on (R117). -/
def State.curveWorked (s : State) (g : Fin 8) : State :=
  let s1 := (s.modGroup g Group.computeCurve).evaluateCap g
  if (s1.group g).flowLow then s1.startWithdrawal g else if 0 < (s1.group g).cap then s1.endWithdrawal g else s1

theorem State.curveComputation_eq (s : State) (g : Fin 8) : s.curveComputation g = (s.curveWorked g).handOn s := rfl

theorem State.curveWorked_ic (s : State) (g : Fin 8) : (s.curveWorked g).clu.ic = s.clu.ic := by
  have hcap : ((s.modGroup g Group.computeCurve).evaluateCap g).clu = s.clu := State.evaluateCap_clu _ g
  unfold State.curveWorked
  dsimp only
  split_ifs
  · rw [State.startWithdrawal_ic, hcap]
  · exact congrArg Clu.ic hcap
  · rw [hcap]

theorem Group.moves_computeCurve (q : Group) : q.Moves q.computeCurve := by
  unfold Group.computeCurve
  split <;> exact ⟨rfl, id⟩

theorem Works.curveWorked (h : Works s d t) (g : Fin 8) (hd : d ≠ .still) : Works s d (t.curveWorked g) := by
  have hcap : Works s d ((t.modGroup g Group.computeCurve).evaluateCap g) :=
    Works.evaluateCap (.modGroup h g _ ((Group.moves_computeCurve _).allowed hd)) g hd
  unfold State.curveWorked
  dsimp only
  split_ifs
  · exact hcap.startWithdrawal g hd
  · exact hcap.endWithdrawal g hd
  · exact hcap

theorem Works.curveComputation (h : Works s d t) (g : Fin 8) (hd : d ≠ .still) : Works s d (t.curveComputation g) :=
  (h.curveWorked g hd).handOn hd (t.curveWorked_ic g)

theorem Works.basicComputation (h : Works s d t) (g : Fin 8) (hd : d ≠ .still) : Works s d (t.basicComputation g) :=
  Works.handOn (Works.evaluateCap (h.moveGroup g hd) g hd) hd (congrArg Clu.ic (State.evaluateCap_clu _ g))

/-! ### Station percentage, stages and the cooler (R121 to R124) -/

theorem Works.workShortfall (h : Works s d t) : Works s d t.workShortfall := by
  unfold State.workShortfall
  split_ifs
  · exact h
  · exact .raise h.update _ _ _ _
  · exact h.update

theorem Works.workPercentage (h : Works s d t) (hd : d ≠ .still) : Works s d t.workPercentage := by
  have hrated : Works s d { t with clu := t.clu.rated } := h.update
  unfold State.workPercentage
  dsimp only
  refine Works.workShortfall ?_
  have hic : (State.evaluateAll { t with clu := t.clu.rated }).clu.ic = t.clu.ic := by rw [State.evaluateAll_clu]; rfl
  split_ifs
  · exact hrated
  · exact (hrated.evaluateAll hd).handOn hd hic

theorem Works.orderStage (h : Works s d t) : Works s d t.orderStage := .sendCoolerOrder h.update _ rfl

theorem Works.coolerWorked (h : Works s d t) (hd : d ≠ .still) {c : Clu} (hc : t.Unread { t with clu := c } := by rfl) :
    Works s d (State.workPercentage { t with clu := c }) := (Works.unread h hc).workPercentage hd

/-! ### Answers and probes (R96 to R103) -/

theorem Works.confirmPending {f : Group → Group} {u : State} (h : Works s d t) (g : Fin 8) (hd : d.deep)
    (hf : Group.bones (f (t.group g)) = { t.group g with form := .basic : Group }.bones)
    (hl : (t.group g).latched → (f (t.group g)).latched) (hu : Works (t.modGroup g f) .loose u) : Works s d (u.confirmPending g) :=
  .fallBack h g f hd hf hl hu

theorem Works.recordShort (h : Works s d t) (g : Fin 8) (current tap : Nat) (hd : d.deep) : Works s d (t.recordShort g current tap) := by
  have hrecorded : Works s d (t.modGroup g fun q => { q with reported := current, tap := tap, latestForm := .short }) :=
    h.moveGroup g hd.ne_still
  unfold State.recordShort
  dsimp only
  split
  · exact hrecorded.basicComputation g hd.ne_still
  · refine .fallBack hrecorded g (fun q => { q with form := .basic }) hd rfl id ?_
    exact Works.basicComputation (.raise .refl _ _ _ _) g (by simp)

theorem Group.moves_recordFull (q : Group) (current tap : Nat) (v : FullStatus) : q.Moves (q.recordFull current tap v) := ⟨rfl, id⟩

theorem Works.recordStatus (h : Works s d t) (g : Fin 8) (current tap : Nat) (full : Option FullStatus) (hd : d.deep) :
    Works s d (t.recordStatus g current tap full) := by
  have hrefreshed : Works s d (t.modGroup g fun q => q.refresh t.time) := h.moveGroup g hd.ne_still
  unfold State.recordStatus
  dsimp only
  split
  · exact hrefreshed.moveGroup g hd.ne_still
  · split
    · exact hrefreshed.moveGroup g hd.ne_still
    · exact hrefreshed.recordShort g current tap hd

theorem Works.coolStatus (h : Works s d t) (g : Fin 8) (wasFresh : Bool) (full : Option FullStatus) (hd : d ≠ .still) :
    Works s d (t.coolStatus g wasFresh full) := by
  unfold State.coolStatus
  split
  · exact h.curveComputation g hd
  · exact h.basicComputation g hd
  · split
    · exact (h.evaluateCap g hd).handOn hd (congrArg Clu.ic (State.evaluateCap_clu _ g))
    · exact h

/-- The stages of a good status, before the allocation and the orders (R89). -/
def State.statusWorked (s : State) (g : Fin 8) (m : StatusMode) (current tap : Nat) (full : Option FullStatus) : State :=
  let cooled := (((s.recordStatus g current tap full).workStatusMode g m).modGroup g Group.workIdle).coolStatus g
    ((s.group g).stale == .fresh) full
  if (s.group g).mode = .localMode ∧ m = .remote then cooled.autoclaim g else cooled

theorem State.workStatus_eq (s : State) (g : Fin 8) (m : StatusMode) (current tap : Nat) (full : Option FullStatus) :
    s.workStatus g m current tap full = ((s.statusWorked g m current tap full).reallocate s).regulate := rfl

theorem Works.statusWorked (h : Works s d t) (g : Fin 8) (m : StatusMode) (current tap : Nat) (full : Option FullStatus) (hd : d.deep) :
    Works s d (t.statusWorked g m current tap full) := by
  have hidle : Works s d (((t.recordStatus g current tap full).workStatusMode g m).modGroup g Group.workIdle) :=
    .modGroup ((h.recordStatus g current tap full hd).workStatusMode g m hd) g _ ((Group.moves_workIdle _).allowed hd.ne_still)
  have hcooled := hidle.coolStatus g ((t.group g).stale == .fresh) full hd.ne_still
  unfold State.statusWorked
  dsimp only
  split
  · exact hcooled.autoclaim g hd
  · exact hcooled

/-- Watching a held group, and ceasing to, is lawful (R102). -/
theorem Group.turns_watched {q : Group} (src : Addr) (hheld : q.authority ≠ .released) (hnone : q.watcher = none) :
    q.Turns { q with watcher := some src, authority := q.authority.withWatcher } := by
  refine ⟨fun hq => ?_, fun h => absurd h hheld, id⟩
  obtain ⟨horder, hwatcher, hpresent, hform⟩ := hq
  unfold Group.Lawful Authority.withWatcher
  cases ha : q.authority <;> simp_all [Authority.watched]

theorem Group.turns_unwatched (q : Group) : q.Turns { q with watcher := none, authority := q.authority.withoutWatcher } := by
  refine ⟨fun hq => ?_, fun h => ?_, id⟩
  · obtain ⟨horder, hwatcher, hpresent, hform⟩ := hq
    unfold Group.Lawful Authority.withoutWatcher
    cases ha : q.authority <;> simp_all [Authority.watched]
  · simp [Authority.withoutWatcher, h]

theorem Works.probeNext {g : Fin 8} {next : Byte} {src : Addr} {u : State} {r : ProbeResult} (h : Works s d t) (hd : d.deep)
    (hu : t.probeNext g next src = some (u, r)) : Works s d u := by
  unfold State.probeNext at hu
  split_ifs at hu
  · cases hu
    exact h
  · have hwatch := Option.some.inj hu
    unfold State.probeWatch at hwatch
    dsimp only at hwatch
    split at hwatch
    · cases hwatch
      exact h
    · next hheld =>
      split at hwatch
      · cases hwatch
        exact h
      · next hnone =>
        cases hwatch
        exact .modGroup h g _ ((Group.turns_watched src hheld hnone).allowed hd)
  · have hunwatch := Option.some.inj hu
    unfold State.probeUnwatch at hunwatch
    split at hunwatch
    · cases hunwatch
      exact .modGroup h g _ ((Group.turns_unwatched _).allowed hd)
    · cases hunwatch
      exact h
  · cases hu
    exact h.releaseGroup g hd
  · have hreturn := Option.some.inj hu
    unfold State.probeReturnRemote at hreturn
    split at hreturn
    · cases hreturn
      exact h.autoclaim g hd
    · cases hreturn
      exact h

/-! ### Presence (R88) -/

theorem Group.turns_appear (q : Group) (hreleased : q.Lawful → q.authority = .released) : q.Turns q.appear := by
  refine ⟨fun hq => ⟨?_, fun _ => hreleased hq⟩, fun _ => rfl, fun _ _ => rfl⟩
  have horder := hq.1
  rw [hreleased hq] at horder
  have hnone : q.order = none := by simpa using horder
  exact ⟨by simp [Group.appear, hnone], by simp [Group.appear, Authority.watched], fun _ => rfl, fun _ => by simp [Group.appear]⟩

theorem Group.turns_vanish (q : Group) (hreleased : q.authority = .released) : q.Turns q.vanish :=
  ⟨fun ⟨horder, hwatcher, _, hform⟩ => ⟨⟨horder, hwatcher, fun _ => hreleased, hform⟩, id⟩, id, id⟩

end
end Sys2Proof.Machine
end

section
/-! SUPPORT. Every named operation as a chain of changes, continued: the anode effect unit and the pot supervision unit. -/

namespace Sys2Proof.Machine

section
variable {s t : State} {d : Depth}

/-! ### Changes of one pot (R58) -/

/-- A pot keeps its log index and its AE state. -/
theorem Works.pot (h : Works s d t) (p : Fin 384) {f : Pot → Pot} (hlog : (f (t.pot p)).logIndex = (t.pot p).logIndex := by rfl)
    (hae : (f (t.pot p)).ae = (t.pot p).ae := by rfl) : Works s d (t.modPot p f) :=
  .modPot h p f ⟨hlog, fun hq => .inl (hae ▸ hq)⟩

/-- A pot keeps its log index and is neither QUIET nor SUSPECT. -/
theorem Works.potWorked (h : Works s d t) (p : Fin 384) {f : Pot → Pot} (hlog : (f (t.pot p)).logIndex = (t.pot p).logIndex := by rfl)
    (hquiet : (f (t.pot p)).ae ≠ .quiet := by exact nofun) (hsuspect : (f (t.pot p)).ae ≠ .suspect := by exact nofun) :
    Works s d (t.modPot p f) :=
  .modPot h p f ⟨hlog, fun hq => hq.elim (absurd · hquiet) (absurd · hsuspect)⟩

/-- A pot that is QUIET or SUSPECT, or without a record, keeps its log index. -/
theorem Works.potEnded (h : Works s d t) (p : Fin 384) {f : Pot → Pot}
    (hp : ((t.pot p).ae = .quiet ∨ (t.pot p).ae = .suspect) ∨ (t.pot p).logIndex = none)
    (hlog : (f (t.pot p)).logIndex = (t.pot p).logIndex := by rfl) : Works s d (t.modPot p f) :=
  .modPot h p f ⟨hlog, fun _ => hp⟩

theorem Works.amendRecord (h : Works s d t) (p : Fin 384) {f : AeRecord → AeRecord}
    (hf : AeRecord.Keeps f := by exact fun _ => ⟨rfl, rfl, rfl, rfl⟩) : Works s d (t.modOpenRecord p f) := .amend h p f hf

/-! ### Pot orders (R31, R32) -/

theorem Works.decidePotOrder (h : Works s d t) (p : Fin 384) (k : OrderKind) : Works s d (t.decidePotOrder p k) := by
  unfold State.decidePotOrder
  split
  · exact h
  · next node slot _ =>
    have hordered : Works s d (t.modPot p fun q =>
        { q with order := some { kind := k, seq := t.psu.seq, sent := t.time, dest := node, slot := slot, unsent := true } }) := h.pot p
    exact .sendPotOrder hordered.update p _

theorem Works.dropPotOrder (h : Works s d t) (p : Fin 384) : Works s d (t.dropPotOrder p) := .dropPotFrames (h.pot p) p

theorem Works.cancelAdvice (h : Works s d t) (p : Fin 384) : Works s d (t.cancelAdvice p) := by
  unfold State.cancelAdvice
  split
  · split
    · exact (h.dropPotOrder p).pot p
    · exact h
  · exact h

theorem Works.cancelQuench (h : Works s d t) (p : Fin 384) : Works s d (t.cancelQuench p) := by
  unfold State.cancelQuench
  split
  · split
    · exact h
    · exact h.dropPotOrder p
  · exact h

/-! ### The anode effect unit -/

/-- What a reading adds up to, with the remainder before it (R63). -/
def State.aeSum (s : State) (p : Fin 384) (vp : Nat) : Nat :=
  (s.pot p).fx.energyRemainder + (vp - (s.pot p).fx.vnorm) * s.line.il * min (s.time - (s.pot p).lastTime) 5000

theorem Works.addAeEnergy (h : Works s d t) (p : Fin 384) (vp : Nat) : Works s d (t.addAeEnergy p vp) := by
  unfold State.addAeEnergy
  dsimp only
  split
  · have hstepped : Works s d (t.modPot p fun q => { q with fx.energyRemainder := t.aeSum p vp % 360000000 }) := h.pot p
    have hadded := hstepped.amendRecord p (f := fun r => { r with energy := add32 r.energy (t.aeSum p vp / 360000000) })
    exact hadded.update
  · exact h

theorem Works.decideQuench (h : Works s d t) (p : Fin 384) : Works s d (t.decideQuench p) := by
  have hquenching : Works s d ((t.decidePotOrder p .quench).modPot p fun q =>
      { q with
        attempts := q.attempts + 1, ae := .quenching, fx.quenchDue := none
        fx.quenchTimeout := some (t.time + t.line.ae.tqx * 1000) }) := (h.decidePotOrder p .quench).potWorked p
  have hcounted := hquenching.amendRecord p (f := fun r => { r with ordersSent := r.ordersSent + 1 })
  exact hcounted.update

theorem Works.tryQuench (h : Works s d t) (p : Fin 384) : Works s d (t.tryQuench p) := by
  unfold State.tryQuench
  split
  · exact h.decideQuench p
  · exact h

theorem Works.setPersistent (h : Works s d t) (p : Fin 384) : Works s d (t.setPersistent p) := by
  have hflagged : Works s d (t.modPot p fun q => { q with fx.persistent := true, fx.quenchTimeout := none }) := h.pot p
  have hmarked := hflagged.amendRecord p (f := fun r => { r with persistent := true })
  exact .raise hmarked.update _ _ _ _

theorem Works.quenchExpires (h : Works s d t) (p : Fin 384) : Works s d (t.quenchExpires p) := by
  unfold State.quenchExpires
  dsimp only
  split_ifs
  · exact (h.cancelQuench p).setPersistent p
  · exact (h.cancelQuench p).decideQuench p
  · exact h.pot p

theorem Works.raiseAeEnd (h : Works s d t) (p : Fin 384) (cause : EndCause) : Works s d (t.raiseAeEnd p cause) := .raise h _ _ _ _

theorem Works.endSpan (h : Works s d t) (p : Fin 384) : Works s d (t.endSpan p) := .setAeCount (h.pot p) _

/-- A change of a pot that the close of its record does not read may be made after it (R59). -/
theorem State.closeRecord_modPot (s : State) (p : Fin 384) (cause : EndCause) {f : Pot → Pot}
    (hlog : (f (s.pot p)).logIndex = (s.pot p).logIndex) (hduration : (f (s.pot p)).fx.duration = (s.pot p).fx.duration)
    (hcommutes : ∀ q : Pot, { f q with logIndex := none, fx.energyRemainder := 0, fx.persistent := false }
      = f { q with logIndex := none, fx.energyRemainder := 0, fx.persistent := false }) :
    (s.modPot p f).closeRecord p cause = (s.closeRecord p cause).modPot p f := by
  unfold State.closeRecord State.modOpenRecord
  simp only [State.pot_modPot, hlog, hduration]
  cases (s.pot p).logIndex with
  | none => simp only [State.modPot_modPot, Function.comp_def, hcommutes]
  | some pl =>
    show State.modPot ((s.modRecord pl _).modPot p f) p _ = _
    simp only [State.modPot_modPot, Function.comp_def, hcommutes]

theorem State.closeRecord_logIndex (s : State) (p : Fin 384) (cause : EndCause) : ((s.closeRecord p cause).pot p).logIndex = none := by
  unfold State.closeRecord
  rw [State.pot_modPot]

theorem Works.effectEnds (h : Works s d t) (p : Fin 384) : Works s d (t.effectEnds p) := by
  unfold State.effectEnds
  dsimp only
  rw [State.closeRecord_modPot _ _ _ rfl rfl fun _ => rfl]
  refine Works.raiseAeEnd (Works.cancelQuench (Works.potEnded (.closeRecord h p _) p (.inr ?_)) p) p _
  exact State.closeRecord_logIndex _ _ _

/-- An effect's record closes with its event, and the pot is QUIET (R57). -/
theorem Works.closed (h : Works s d t) (p : Fin 384) (cause : EndCause) :
    Works s d (((t.closeRecord p cause).raiseAeEnd p cause).modPot p Pot.quieted) := by
  refine Works.potEnded (Works.raiseAeEnd (.closeRecord h p cause) p cause) p (.inr ?_)
  exact ((State.aside_raise _ _ _ _ _).pots p).1.trans (State.closeRecord_logIndex t p cause)

theorem Works.forceClose (h : Works s d t) (p : Fin 384) (cause : EndCause) : Works s d (t.forceClose p cause) := by
  unfold State.forceClose
  split
  · exact h
  · next hsuspect => exact h.potEnded p (.inl (.inr hsuspect))
  · exact h.closed p cause
  · exact (h.endSpan p).closed p cause

theorem Works.measurementFault (h : Works s d t) (p : Fin 384) (vp : Nat) : Works s d (t.measurementFault p vp) :=
  .raise (h.pot p) _ _ _ _

theorem Works.onset (h : Works s d t) (p : Fin 384) (vp : Nat) (hp : (t.pot p).ae = .quiet) : Works s d (t.onset p vp) :=
  Works.cancelAdvice (h.potEnded p (.inl (.inl hp))) p

/-- The onset's record is opened first, and then traced (R46). -/
theorem State.confirmOnset_eq (s : State) (p : Fin 384) (vp : Nat) :
    s.confirmOnset p vp =
      let traced := ((s.openEffect p).traceReading p ((s.openEffect p).pot p).fx.onsetVoltage).traceReading p vp
      let due := traced.modPot p fun q => { q with fx.quenchDue := some (s.time + q.cfg.tqd * 1000) }
      ((due.tryQuench p).raise .aeOnset p.val vp (due.pot p).fx.vnorm).addAeEnergy p vp := rfl

theorem Works.confirmOnset (h : Works s d t) (p : Fin 384) (vp : Nat) (hp : (t.pot p).ae = .suspect) :
    Works s d (t.confirmOnset p vp) := by
  rw [State.confirmOnset_eq]
  have htraced := Works.traceReading (.traceReading (.openEffect h p hp) p ((t.openEffect p).pot p).fx.onsetVoltage) p vp
  exact Works.addAeEnergy (.raise (Works.tryQuench (htraced.pot p) p) _ _ _ _) p vp

theorem Works.workSuspect (h : Works s d t) (p : Fin 384) (vp : Nat) (hp : (t.pot p).ae = .suspect) : Works s d (t.workSuspect p vp) := by
  have hquiet : Works s d (t.modPot p fun q => { q with ae := .quiet, fx.qualificationEnd := none }) := h.potEnded p (.inl (.inr hp))
  unfold State.workSuspect
  dsimp only
  split_ifs
  · exact .raise (hquiet.pot p) _ _ _ _
  · exact h.confirmOnset p vp hp
  · exact hquiet.pot p

theorem Works.beginClearing (h : Works s d t) (p : Fin 384) (vp : Nat) : Works s d (t.beginClearing p vp) :=
  .traceReading (((h.endSpan p).potWorked p).amendRecord p) p vp

theorem Works.relapse (h : Works s d t) (p : Fin 384) (vp : Nat) : Works s d (t.relapse p vp) := by
  refine Works.addAeEnergy (.traceReading (Works.tryQuench (.setAeCount (Works.amendRecord (h.potWorked p ?_ ?_ ?_) p) _) p) p vp) p vp
  · split <;> rfl
  · split <;> exact nofun
  · split <;> exact nofun

theorem Works.workEffect (h : Works s d t) (p : Fin 384) (vp : Nat) : Works s d (t.workEffect p vp) := by
  unfold State.workEffect
  dsimp only
  split
  case h_1 hae => exact h.workSuspect p vp hae
  case h_2 hae =>
    split_ifs
    · exact h.measurementFault p vp
    · exact h.onset p vp hae
    · exact h.pot p
  case h_3 =>
    split_ifs
    · exact h.measurementFault p vp
    · exact .traceReading h p vp
    · exact .traceReading (h.pot p) p vp
    · exact h.relapse p vp
  case h_4 =>
    split_ifs
    · exact h.measurementFault p vp
    · exact h.beginClearing p vp
    · exact Works.addAeEnergy (.traceReading h p vp) p vp

theorem Works.takeFeed (h : Works s d t) (p : Fin 384) (hp : (t.pot p).ae.counted = true) : Works s d (t.takeFeed p) := by
  have hquiet : (t.pot p).ae ≠ .quiet := fun hq => by simp [hq, AeState.counted] at hp
  have hsuspect : (t.pot p).ae ≠ .suspect := fun hq => by simp [hq, AeState.counted] at hp
  refine Works.amendRecord (h.potWorked p ?_ ?_ ?_) p
  · split <;> rfl
  · split
    · exact nofun
    · exact hquiet
  · split
    · exact nofun
    · exact hsuspect

theorem Works.quenchTaken (h : Works s d t) (p : Fin 384) : Works s d (t.quenchTaken p) := by
  have hmarked := (h.dropPotOrder p).amendRecord p (f := fun r => { r with quenchTaken := r.quenchTaken + 1 })
  exact hmarked.update

theorem Works.afterDecline (h : Works s d t) (p : Fin 384) : Works s d (t.afterDecline p) := by
  unfold State.afterDecline
  dsimp only
  split_ifs
  · exact h.setPersistent p
  · exact Works.tryQuench (h.potWorked p) p
  · exact h

theorem Works.quenchDeclined (h : Works s d t) (p : Fin 384) (seq : Byte) : Works s d (t.quenchDeclined p seq) := by
  have hmarked := (h.dropPotOrder p).amendRecord p (f := fun r => { r with declines := r.declines + 1 })
  exact Works.afterDecline (.raise hmarked.update _ _ _ _) p

/-! ### The pot supervision unit -/

theorem Works.enablePot (h : Works s d t) (p : Fin 384) : Works s d (t.enablePot p) := by
  unfold State.enablePot
  split
  · exact h.pot p
  · exact h

theorem Works.disablePot (h : Works s d t) (p : Fin 384) : Works s d (t.disablePot p) := by
  unfold State.disablePot
  split
  · exact h
  · exact (((h.forceClose p _).cancelAdvice p).dropPotOrder p).pot p

theorem Works.losePot (h : Works s d t) (p : Fin 384) : Works s d (t.losePot p) :=
  .raise (((h.forceClose p _).dropPotOrder p).pot p) _ _ _ _

theorem Works.decideAdvice (h : Works s d t) (p : Fin 384) : Works s d (t.decideAdvice p) := by
  unfold State.decideAdvice
  split
  · exact h
  · split
    · exact Works.decidePotOrder h.update p _
    · exact h

/-- A pot's record without what a computed reading works: the resistance, the filters, band, NOISY and dwell (R11). -/
def Pot.unread (q : Pot) : Pot :=
  { q with lastResistance := 0, lowV := false, sat := false, rf := 0, nf := 0, band := .within, noisy := false, dwell := 0 }

theorem Pot.unread_stepFilters (q : Pot) (r : Nat) (tap : Bool) : (q.stepFilters r tap).unread = q.unread := by
  unfold Pot.stepFilters
  split_ifs <;> rfl

theorem Pot.unread_workDwell (q : Pot) (before : AdviceCondition) : (q.workDwell before).unread = q.unread := by
  unfold Pot.workDwell
  split <;> rfl

theorem Pot.unread_compute (q : Pot) (il vp : Nat) (tap : Bool) : (q.compute il vp tap).unread = q.unread := by
  unfold Pot.compute
  dsimp only
  split
  · rfl
  · exact (Pot.unread_workDwell _ _).trans (Pot.unread_stepFilters _ _ _)

/-- A computed reading leaves the log index and the AE state (R11). -/
theorem Pot.compute_effect (q : Pot) (il vp : Nat) (tap : Bool) :
    (q.compute il vp tap).logIndex = q.logIndex ∧ (q.compute il vp tap).ae = q.ae :=
  have h := q.unread_compute il vp tap
  ⟨(congrArg Pot.logIndex h : _), (congrArg Pot.ae h : _)⟩

theorem Pot.countStarting_effect (q : Pot) : q.countStarting.logIndex = q.logIndex ∧ q.countStarting.ae = q.ae := by
  unfold Pot.countStarting
  split_ifs <;> exact ⟨rfl, rfl⟩

theorem Works.workComputable (h : Works s d t) (p : Fin 384) (vp : Nat) (tap : Bool) : Works s d (t.workComputable p vp tap) := by
  have hcomputed : Works s d (t.modPot p fun q => q.compute t.line.il vp tap) :=
    h.pot p (Pot.compute_effect _ _ _ _).1 (Pot.compute_effect _ _ _ _).2
  exact Works.pot ((hcomputed.decideAdvice p).workEffect p vp) p (Pot.countStarting_effect _).1 (Pot.countStarting_effect _).2

theorem Works.workReading (h : Works s d t) (p : Fin 384) (r : Reading) : Works s d (t.workReading p r) := by
  have hworked : Works s d (if t.computable then t.workComputable p r.vp (r.marker == 4)
      else t.modPot p fun q => { q with staleCurrent := bump16 q.staleCurrent }) := by
    split
    · exact h.workComputable p _ _
    · exact h.pot p
  unfold State.workReading
  dsimp only
  split
  · exact hworked
  · exact hworked
  · split
    · exact h.pot p
    · exact h
  · split
    · exact h
    · split
      · exact .raise (h.pot p) _ _ _ _
      · exact h
  · exact h

theorem Works.takeMarker (h : Works s d t) (p : Fin 384) (m : Byte) : Works s d (t.takeMarker p m) := by
  unfold State.takeMarker
  dsimp only
  split_ifs
  · exact h
  · next hcounted => exact h.takeFeed p hcounted
  · exact h.pot p
  · exact h.pot p
  · exact Works.cancelAdvice (h.pot p) p
  · exact ((h.forceClose p _).dropPotOrder p).pot p
  · exact h.pot p
  · exact h.pot p
  · exact h.pot p

theorem Works.takeReading (h : Works s d t) (p : Fin 384) (r : Reading) : Works s d (t.takeReading p r) := by
  have haddressed : Works s d (t.modPot p fun q => { q with orderAddress := some (r.src, r.slot) }) := h.pot p
  have hfound : Works s d (if ((t.modPot p fun q => { q with orderAddress := some (r.src, r.slot) }).pot p).sup = .lost then
      (t.modPot p fun q => { q with orderAddress := some (r.src, r.slot) }).modPot p Pot.enterStarting
      else t.modPot p fun q => { q with orderAddress := some (r.src, r.slot) }) := by
    split
    · exact haddressed.pot p
    · exact haddressed
  unfold State.takeReading
  split
  · exact h
  · exact ((hfound.takeMarker p _).workReading p r).pot p

theorem Works.mapError (h : Works s d t) (k : ErrorKind) (src : Addr) (slot index : Nat) : Works s d (t.mapError k src slot index) :=
  .raise h.update _ _ _ _

theorem Works.takeSlot (h : Works s d t) (w : SectionWindow) (src : Addr) (slot : Nat) (r : SlotReading) :
    Works s d (t.takeSlot w src slot r) := by
  unfold State.takeSlot
  dsimp only
  split
  · exact h
  · split
    · split
      · exact h.takeReading _ _
      · exact h.mapError _ _ _ _
    · split
      · split
        · exact h.takeReading _ _
        · exact h.mapError _ _ _ _
      · exact h.mapError _ _ _ _

theorem Works.takePotSample (h : Works s d t) (src : Addr) (slots : Vector SlotReading 8) : Works s d (t.takePotSample src slots) := by
  unfold State.takePotSample
  dsimp only
  split
  · split
    · exact h.update
    · refine .foldl (fun _ i h => h.takeSlot _ _ _ _) _ ?_
      split
      · exact h
      · exact h.update
  · exact h

theorem Works.lateAnswer (h : Works s d t) (src : Addr) (slot : Nat) : Works s d (t.lateAnswer src slot) := by
  unfold State.lateAnswer
  split
  · exact h.pot _
  · exact h.update

theorem Works.clearAdvice (h : Works s d t) (p : Fin 384) : Works s d (t.clearAdvice p) := (h.dropPotOrder p).pot p

theorem Works.takePotAnswer (h : Works s d t) (src : Addr) (seq slot result : Byte) : Works s d (t.takePotAnswer src seq slot result) := by
  unfold State.takePotAnswer
  split
  · exact h.lateAnswer _ _
  · split
    · exact h.lateAnswer _ _
    · unfold State.answerOrder
      split_ifs
      · exact (h.clearAdvice _).update
      · exact h.quenchTaken _
      · exact .raise (h.clearAdvice _).update _ _ _ _
      · exact h.quenchDeclined _ _
      · exact h.update

theorem Works.restartPot (h : Works s d t) (p : Fin 384) : Works s d (t.restartPot p) := by
  unfold State.restartPot
  refine Works.pot (h.forceClose p _) p ?_ ?_ <;> split <;> rfl

theorem Works.restartPots (h : Works s d t) : Works s d t.restartPots := .foldl (fun _ p h => h.restartPot p) _ h

end
end Sys2Proof.Machine
end

section
/-! SUPPORT. The fetch table, the wait list and the cache under the tariff unit's work (R147 to R154). -/

namespace Sys2Proof.Machine

/-- The law of the cache and the fetches reads the tariff unit alone (R147, R149). -/
def Tru.Lawful (u : Tru) : Prop :=
  ((u.cache.toList.filter CachePlace.valid).map CachePlace.tag).Nodup ∧ (u.fetchSlots ++ u.waitList.map Prod.fst).Nodup
    ∧ ∀ e ∈ u.waitList, ∃ o, u.lookup.slot = some o ∧ (e.1 = o ∨ e.1 = nextSlot o)

theorem cacheLaw_iff {s : State} : cacheLaw s ↔ s.tru.Lawful := Iff.rfl

/-! ### The two places of the fetch table (R149) -/

theorem Tru.fetchSlots_eq (u : Tru) :
    u.fetchSlots = (u.table[0].map Fetch.slot).toList ++ (u.table[1].map Fetch.slot).toList := by
  have htable : u.table.toList = [u.table[0], u.table[1]] := by
    refine List.ext_getElem (by simp) fun i hi _ => ?_
    have hlt : i < 2 := by simpa using hi
    interval_cases i <;> simp
  unfold Tru.fetchSlots
  rw [htable]
  cases u.table[0] <;> cases u.table[1] <;> rfl

theorem Tru.mem_fetchSlots {u : Tru} {n : Nat} : n ∈ u.fetchSlots ↔ ∃ k : Fin 2, ∃ f, u.table[k] = some f ∧ f.slot = n := by
  rw [Tru.fetchSlots_eq]
  simp [Fin.exists_fin_two]

theorem Tru.freeFetch_table (u : Tru) (k : Fin 2) : (u.freeFetch k).table[k] = none := by simp [Tru.freeFetch]

/-- The slots of the table once place `k` holds a fetch. -/
theorem Tru.fetchSlots_set {u v : Tru} {k : Fin 2} {f : Fetch} (hv : v.table = u.table.set k (some f)) (hfree : u.table[k] = none) :
    v.fetchSlots.Perm (f.slot :: u.fetchSlots) := by
  rw [Tru.fetchSlots_eq, Tru.fetchSlots_eq, hv]
  fin_cases k
  · simp only [Fin.zero_eta, Fin.isValue, Fin.getElem_fin, Fin.val_zero] at hfree
    simp [hfree]
  · simp only [Fin.mk_one, Fin.isValue, Fin.getElem_fin, Fin.val_one] at hfree
    simp [hfree]

theorem Tru.mem_fetchSlots_set {u v : Tru} {k : Fin 2} {f : Fetch} (hv : v.table = u.table.set k (some f)) {n : Nat}
    (hn : n ∈ v.fetchSlots) : n = f.slot ∨ n ∈ u.fetchSlots := by
  obtain ⟨j, g, hg, rfl⟩ := Tru.mem_fetchSlots.mp hn
  by_cases hj : j = k
  · subst hj
    simp only [hv, Fin.getElem_fin, Vector.getElem_set_self, Option.some.injEq] at hg
    exact .inl (congrArg Fetch.slot hg.symm)
  · refine .inr (Tru.mem_fetchSlots.mpr ⟨j, g, ?_, rfl⟩)
    simpa [hv, Vector.getElem_set_ne, Fin.val_ne_of_ne (Ne.symm hj)] using hg

theorem Tru.fetchSlots_freeFetch (u : Tru) (k : Fin 2) : (u.freeFetch k).fetchSlots.Sublist u.fetchSlots := by
  rw [Tru.fetchSlots_eq, Tru.fetchSlots_eq]
  unfold Tru.freeFetch
  fin_cases k
  · simp
  · simp

/-- A fetch of the table is the only one for its slot (R149). -/
theorem Tru.not_mem_freeFetch {u : Tru} {k : Fin 2} {f : Fetch} (hf : u.table[k] = some f) (hnodup : u.fetchSlots.Nodup) :
    f.slot ∉ (u.freeFetch k).fetchSlots := by
  rw [Tru.fetchSlots_eq] at hnodup
  rw [Tru.fetchSlots_eq]
  unfold Tru.freeFetch
  fin_cases k
  · simp only [Fin.zero_eta, Fin.isValue, Fin.getElem_fin, Fin.val_zero] at hf
    simp only [hf, Option.map_some, Option.toList_some, List.singleton_append, List.nodup_cons] at hnodup
    simpa using hnodup.1
  · simp only [Fin.mk_one, Fin.isValue, Fin.getElem_fin, Fin.val_one] at hf
    simp only [hf, Option.map_some, Option.toList_some, List.nodup_append, List.mem_singleton, forall_eq] at hnodup
    simp only [Fin.mk_one, Fin.isValue, Vector.getElem_set_self, Option.map_none, Option.toList_none, List.append_nil]
    intro hmem
    exact hnodup.2.2 _ (by simpa using hmem) rfl

theorem Tru.not_mem_of_placeOf {u : Tru} {n : Nat} (h : u.placeOf n = none) : n ∉ u.fetchSlots := by
  intro hn
  obtain ⟨k, f, hf, hslot⟩ := Tru.mem_fetchSlots.mp hn
  have hk := List.find?_eq_none.mp h k (List.mem_finRange k)
  simp [hf, hslot] at hk

theorem Tru.table_of_placeOf {u : Tru} {n : Nat} {k : Fin 2} (h : u.placeOf n = some k) : ∃ f, u.table[k] = some f ∧ f.slot = n := by
  have hk := List.find?_some h
  split at hk
  · next f hf => exact ⟨f, hf, by simpa using hk⟩
  · cases hk

/-! ### The law under the unit's work -/

/-- A law of fetches that end and of waiting ones that leave (R149). -/
theorem Tru.Lawful.fewer {u v : Tru} (h : u.Lawful) (hcache : v.cache = u.cache) (hlookup : v.lookup.slot = u.lookup.slot)
    (hslots : v.fetchSlots.Sublist u.fetchSlots) (hwait : v.waitList.Sublist u.waitList) : v.Lawful := by
  obtain ⟨htags, hfetches, hwanted⟩ := h
  refine ⟨hcache ▸ htags, hfetches.sublist (hslots.append (hwait.map _)), fun e he => ?_⟩
  rw [hlookup]
  exact hwanted e (hwait.subset he)

/-- A fetch for a slot that no other is for (R149). -/
theorem Tru.Lawful.issued {u v : Tru} (h : u.Lawful) {k : Fin 2} {f : Fetch} (hv : v.table = u.table.set k (some f))
    (hcache : v.cache = u.cache) (hlookup : v.lookup.slot = u.lookup.slot) (hwait : v.waitList = u.waitList)
    (hfree : u.table[k] = none) (hslots : f.slot ∉ u.fetchSlots) (hwaiting : f.slot ∉ u.waitList.map Prod.fst) : v.Lawful := by
  obtain ⟨htags, hfetches, hwanted⟩ := h
  refine ⟨hcache ▸ htags, ?_, ?_⟩
  · rw [hwait]
    refine (((Tru.fetchSlots_set hv hfree).append_right _).nodup_iff).mpr ?_
    rw [List.cons_append, List.nodup_cons]
    exact ⟨by rw [List.mem_append, not_or]; exact ⟨hslots, hwaiting⟩, hfetches⟩
  · rw [hwait, hlookup]
    exact hwanted

/-- A waiting fetch for a slot that no other is for (R149). -/
theorem Tru.Lawful.waiting {u : Tru} (h : u.Lawful) {n : Nat} (i : Half) (hslots : n ∉ u.fetchSlots)
    (hwaiting : n ∉ u.waitList.map Prod.fst) {o : Nat} (ho : u.lookup.slot = some o) (hn : n = o ∨ n = nextSlot o) :
    Tru.Lawful { u with waitList := u.waitList ++ [(n, i)] } := by
  obtain ⟨htags, hfetches, hwanted⟩ := h
  refine ⟨htags, ?_, fun e he => ?_⟩
  · show (u.fetchSlots ++ (u.waitList ++ [(n, i)]).map Prod.fst).Nodup
    rw [List.map_append, ← List.append_assoc]
    refine List.Nodup.append hfetches (by simp) ?_
    simp only [List.map_cons, List.map_nil, List.disjoint_singleton, List.mem_append, not_or]
    exact ⟨hslots, hwaiting⟩
  · rcases List.mem_append.mp he with he | he
    · exact hwanted e he
    · obtain rfl := List.mem_singleton.mp he
      exact ⟨o, ho, hn⟩

theorem keepPlaces_tags (keep : CachePlace → Bool) (l : List CachePlace) :
    (((l.map fun p => { p with valid := p.valid && keep p }).filter CachePlace.valid).map CachePlace.tag).Sublist
      ((l.filter CachePlace.valid).map CachePlace.tag) := by
  induction l with
  | nil => exact .refl _
  | cons p l ih =>
    cases hvalid : p.valid <;> cases hkeep : keep p <;> simp [hvalid, hkeep]
    · simpa using ih
    · simpa using ih
    · simpa using List.Sublist.cons p.tag ih
    · simpa using ih

/-- Places that lose their entry leave the tags distinct (R147). -/
theorem Tru.Lawful.keepPlaces {u : Tru} (h : u.Lawful) (keep : CachePlace → Bool) : (u.keepPlaces keep).Lawful := by
  obtain ⟨htags, hrest⟩ := h
  refine ⟨htags.sublist ?_, hrest⟩
  rw [Tru.keepPlaces, Vector.toList_map]
  exact keepPlaces_tags keep u.cache.toList

/-- The tags of valid places, place by place: distinct exactly when no two valid places share one. -/
theorem nodup_tags_iff (l : List CachePlace) :
    ((l.filter CachePlace.valid).map CachePlace.tag).Nodup
      ↔ ∀ i j (hi : i < l.length) (hj : j < l.length), i < j → l[i].valid = true → l[j].valid = true → l[i].tag ≠ l[j].tag := by
  rw [List.Nodup, List.pairwise_map, List.pairwise_filter, List.pairwise_iff_getElem]

/-- An entry takes the place of its slot's tag, or one of a tag that no other place has (R147). -/
theorem Tru.Lawful.placeEntry {u : Tru} (h : u.Lawful) (n : Nat) (i : Half) (e : TariffEntry) : (u.placeEntry n i e).Lawful := by
  obtain ⟨htags, hrest⟩ := h
  have hset : ∀ k : Fin 8, (∀ j : Fin 8, j ≠ k → u.cache[j].valid = true → u.cache[j].tag ≠ n) →
      (((u.cache.set k { valid := true, tag := n, index := i, entry := e }).toList.filter CachePlace.valid).map CachePlace.tag).Nodup := by
    intro k hothers
    rw [nodup_tags_iff] at htags ⊢
    simp only [Vector.toList_set, List.length_set, Vector.length_toList, List.getElem_set, Vector.getElem_toList] at htags ⊢
    intro a b ha hb hab
    have hne : ∀ j (hj : j < 8), k.val ≠ j → u.cache[j].valid = true → u.cache[j].tag ≠ n := fun j hj hkj =>
      hothers ⟨j, hj⟩ fun heq => hkj (congrArg Fin.val heq).symm
    by_cases hka : k.val = a
    · have hkb : k.val ≠ b := fun hkb => absurd (hka.symm.trans hkb) hab.ne
      simp only [hka, if_true, if_neg (hka ▸ hkb : ¬ a = b)]
      exact fun _ hvb => (hne b hb hkb hvb).symm
    · by_cases hkb : k.val = b
      · simp only [if_neg hka, if_pos hkb]
        exact fun hva _ => hne a ha hka hva
      · simp only [if_neg hka, if_neg hkb]
        exact htags a b ha hb hab
  unfold Tru.placeEntry
  dsimp only
  split
  · next k hk =>
    refine ⟨hset k fun j hj hvalid htag => ?_, hrest⟩
    have hkn := List.find?_some hk
    simp only [CachePlace.tagged, Bool.and_eq_true, beq_iff_eq] at hkn
    rw [nodup_tags_iff] at htags
    simp only [Vector.length_toList, Vector.getElem_toList] at htags
    rcases lt_or_gt_of_ne (Fin.val_ne_of_ne hj) with hlt | hlt
    · exact htags j k j.isLt k.isLt hlt hvalid hkn.1 (htag.trans hkn.2.symm)
    · exact htags k j k.isLt j.isLt hlt hkn.1 hvalid (hkn.2.trans htag.symm)
  · next hnone =>
    refine ⟨hset u.pointer fun j _ hvalid htag => ?_, hrest⟩
    have hj := List.find?_eq_none.mp hnone j (List.mem_finRange j)
    exact hj (by simpa [CachePlace.tagged] using ⟨hvalid, htag⟩)

theorem Tru.Lawful.beginSlot {u : Tru} (h : u.Lawful) (n : Nat) : (u.beginSlot n).Lawful := by
  have hcleared : Tru.Lawful (if u.invalidation then { u.keepPlaces (fun _ => false) with invalidation := false } else u) := by
    split
    · exact h.keepPlaces _
    · exact h
  obtain ⟨htags, hfetches, -⟩ := hcleared
  refine ⟨htags, hfetches.sublist ((List.Sublist.refl _).append (List.filter_sublist.map _)), fun e he => ⟨n, rfl, ?_⟩⟩
  have hwanted := (List.mem_filter.mp he).2
  simpa using hwanted

end Sys2Proof.Machine
end

section
/-! SUPPORT. Every named operation as a chain of changes, continued: the energy unit, the tariff unit, slots and line samples. -/

namespace Sys2Proof.Machine

section
variable {s t : State} {d : Depth}

/-! ### The energy unit -/

theorem Egu.appendRecord_length (u : Egu) (r : EnergyRecord) :
    (u.appendRecord r).queue.length ≤ max u.queue.length Config.energyPlaces := by
  unfold Egu.appendRecord
  split
  · next h => exact le_max_of_le_right (by simpa using h)
  · split
    · exact le_max_of_le_right (by simp [Config.energyPlaces])
    · next hqueue => exact le_max_of_le_left (by simp [hqueue])

theorem Works.appendRecord (h : Works s d t) (r : EnergyRecord) : Works s d (t.appendRecord r) := by
  have happended : Works s d { t with egu := t.egu.appendRecord r } := .energy h _ (Egu.appendRecord_length _ _)
  unfold State.appendRecord
  dsimp only
  split
  · exact .raise happended.update _ _ _ _
  · exact happended

theorem Works.closeSlot (h : Works s d t) : Works s d t.closeSlot := by
  have hempty : Works s d { t with egu := t.egu.emptySlot } := h.update
  unfold State.closeSlot
  dsimp only
  split
  · exact Works.appendRecord (.raise hempty _ _ _ _) _
  · exact hempty.appendRecord _

/-! ### Fetches (R149) -/

theorem Works.lawful (h : Works s d t) (hs : Machine.cacheLaw s) : t.tru.Lawful := h.cacheLaw hs

theorem Works.issueFetch (h : Works s d t) (k : Fin 2) (n : Nat) (i : Half) (hfree : t.tru.table[k] = none)
    (hn : Machine.cacheLaw s → n ∉ t.tru.fetchSlots ∧ n ∉ t.tru.waitList.map Prod.fst) : Works s d (t.issueFetch k n i) := by
  have hissued : Works s d { t with tru := { t.tru with
      table := t.tru.table.set k (some { slot := n, index := i, seq := t.tru.seq, sent := t.time, unsent := true })
      seq := t.tru.seq + 1
      counters.fetchesSent := bump32 t.tru.counters.fetchesSent } } := by
    refine .tariff h _ (fun hs => ?_) (.refl _)
    obtain ⟨hslots, hwaiting⟩ := hn hs
    exact (h.lawful hs).issued rfl rfl rfl rfl hfree hslots hwaiting
  exact .sendAsk hissued _ rfl

theorem Works.refillFrom (h : Works s d t) (k : Fin 2) (hfree : t.tru.table[k] = none) :
    ∀ l : List (Nat × Half), l.Sublist t.tru.waitList → Works s d (t.refillFrom k l)
  | [], _ => .tariff h { t.tru with waitList := [] } (fun hs => (h.lawful hs).fewer rfl rfl (.refl _) (List.nil_sublist _)) (.refl _)
  | e :: rest, hl => by
    unfold State.refillFrom
    split
    · have hrest : Works s d { t with tru.waitList := rest } :=
        .tariff h _ (fun hs => (h.lawful hs).fewer rfl rfl (.refl _) ((List.sublist_cons_self _ _).trans hl)) (.refl _)
      refine hrest.issueFetch k e.1 e.2 hfree fun hs => ?_
      have hnodup := (h.lawful hs).2.1.sublist ((List.Sublist.refl t.tru.fetchSlots).append (hl.map Prod.fst))
      rw [List.map_cons, List.nodup_middle, List.nodup_cons, List.mem_append, not_or] at hnodup
      exact hnodup.1
    · exact Works.refillFrom h k hfree rest ((List.sublist_cons_self _ _).trans hl)

theorem Works.refill (h : Works s d t) (k : Fin 2) (hfree : t.tru.table[k] = none) : Works s d (t.refill k) :=
  h.refillFrom k hfree _ (.refl _)

/-- What a refill leaves of the tariff unit: no slot is fetched or waited for that was not before (R149). -/
theorem State.refillFrom_fetches (s : State) (k : Fin 2) :
    ∀ l : List (Nat × Half), (s.refillFrom k l).tru.lookup.slot = s.tru.lookup.slot
      ∧ (s.refillFrom k l).tru.waitList.Sublist l ∧ ∀ n ∈ (s.refillFrom k l).tru.fetchSlots, n ∈ s.tru.fetchSlots ∨ n ∈ l.map Prod.fst
  | [] => ⟨rfl, .refl _, fun n hn => .inl hn⟩
  | e :: rest => by
    unfold State.refillFrom
    split
    · have hrecords : ((State.issueFetch { s with tru.waitList := rest } k e.1 e.2)).records
          = State.records { s with tru := { s.tru with
            waitList := rest
            table := s.tru.table.set k (some { slot := e.1, index := e.2, seq := s.tru.seq, sent := s.time, unsent := true }) } } :=
        (State.aside_sendAsk _ _).records
      simp only [State.records, Prod.mk.injEq] at hrecords
      obtain ⟨-, -, -, -, -, -, hwait, hslot, hfetches⟩ := hrecords
      refine ⟨hslot, ?_, fun n hn => ?_⟩
      · rw [hwait]
        exact List.sublist_cons_self _ _
      rw [hfetches] at hn
      rcases Tru.mem_fetchSlots_set rfl hn with rfl | hold
      · exact .inr (by simp)
      · exact .inl hold
    · obtain ⟨hslot, hwait, hfetches⟩ := s.refillFrom_fetches k rest
      exact ⟨hslot, hwait.trans (List.sublist_cons_self _ _), fun n hn => (hfetches n hn).imp_right (by simp; tauto)⟩

/-- The tariff unit without the waiting fetches for slot `n` (R149). -/
def State.unwaited (s : State) (n : Nat) : State := { s with tru.waitList := s.tru.waitList.filter fun e => e.1 != n }

theorem Works.unwaited (h : Works s d t) (n : Nat) : Works s d (t.unwaited n) :=
  .tariff h _ (fun hs => (h.lawful hs).fewer rfl rfl (.refl _) List.filter_sublist) (.refl _)

theorem Works.freeFetch (h : Works s d t) (k : Fin 2) : Works s d { t with tru := t.tru.freeFetch k } :=
  .tariff h _ (fun hs => (h.lawful hs).fewer rfl rfl (Tru.fetchSlots_freeFetch _ k) (.refl _)) (.refl _)

theorem Works.abandonOther (h : Works s d t) (n : Nat) : Works s d (t.abandonOther n) := by
  have hunwaited := h.unwaited n
  unfold State.abandonOther
  dsimp only
  split
  · exact hunwaited
  · next k _ => exact (hunwaited.freeFetch k).refill k (Tru.freeFetch_table _ _)

/-- No fetch for slot `n` is left once the others for it are abandoned (R149). -/
theorem State.abandonOther_fetches {s : State} (hs : cacheLaw s) (n : Nat) :
    (s.abandonOther n).tru.lookup.slot = s.tru.lookup.slot ∧ n ∉ (s.abandonOther n).tru.fetchSlots
      ∧ n ∉ (s.abandonOther n).tru.waitList.map Prod.fst := by
  have hwaiting : ∀ l : List (Nat × Half), l.Sublist (s.unwaited n).tru.waitList → n ∉ l.map Prod.fst := by
    intro l hl hn
    obtain ⟨e, he, rfl⟩ := List.mem_map.mp hn
    simpa using (List.mem_filter.mp (hl.subset he)).2
  have hnodup : s.tru.fetchSlots.Nodup := hs.2.1.of_append_left
  unfold State.abandonOther
  dsimp only
  split
  · next hnone => exact ⟨rfl, Tru.not_mem_of_placeOf hnone, hwaiting _ (.refl _)⟩
  · next k hk =>
    obtain ⟨f, hf, hslot⟩ := Tru.table_of_placeOf hk
    obtain ⟨hlookup, hwait, hfetches⟩ := State.refillFrom_fetches
      { s with tru := Tru.freeFetch { s.tru with waitList := s.tru.waitList.filter fun e => e.1 != n } k } k
      (s.tru.waitList.filter fun e => e.1 != n)
    refine ⟨hlookup, fun hn => ?_, hwaiting _ hwait⟩
    rcases hfetches n hn with hn | hn
    · have hne := Tru.not_mem_freeFetch (u := s.tru) hf hnodup
      exact hne (hslot ▸ hn)
    · exact hwaiting _ (.refl _) hn

theorem Tru.table_of_freePlace {u : Tru} {k : Fin 2} (h : u.freePlace = some k) : u.table[k] = none := by
  simpa using List.find?_some h

theorem Works.requestFetch (h : Works s d t) (n : Nat) (i : Half) {o : Nat} (ho : t.tru.lookup.slot = some o)
    (hn : n = o ∨ n = nextSlot o) : Works s d (t.requestFetch n i) := by
  have habandoned := h.abandonOther n
  have hfetches := fun hs => State.abandonOther_fetches (h.lawful hs) n
  unfold State.requestFetch
  dsimp only
  split
  · exact h
  · split
    · next k hk => exact habandoned.issueFetch k n i (Tru.table_of_freePlace hk) fun hs => (hfetches hs).2
    · refine .tariff habandoned _ (fun hs => ?_) (.refl _)
      obtain ⟨hslot, hnot, hwaiting⟩ := hfetches hs
      exact Tru.Lawful.waiting (habandoned.lawful hs) i hnot hwaiting (hslot.trans ho) hn

theorem Works.makePrefetch (h : Works s d t) : Works s d t.makePrefetch := by
  unfold State.makePrefetch
  dsimp only
  split
  · exact h
  · next o ho =>
    have hmade : Works s d { t with tru.lookup.prefetchMade := true } := h.update
    split
    · exact hmade
    · split
      · exact hmade
      · exact hmade.requestFetch (nextSlot o) _ ho (.inr rfl)

theorem Works.testPrefetch (h : Works s d t) : Works s d t.testPrefetch := by
  unfold State.testPrefetch
  split
  · exact h.makePrefetch
  · exact h

/-! ### The slot start (R148) -/

theorem Tru.countResolution_parts (u : Tru) (n : Nat) :
    (u.countResolution n) = { u with counters := (u.countResolution n).counters } := by
  unfold Tru.countResolution
  split <;> rfl

theorem Works.chooseEntry (h : Works s d t) {n : Nat} (hn : t.tru.lookup.slot = some n) : Works s d (t.chooseEntry n).1 := by
  unfold State.chooseEntry
  dsimp only
  split
  · exact h
  · next i _ _ _ =>
    have hindex : Works s d { t with tru.lookup.index := some i } := h.update
    split
    · exact hindex.update
    · split_ifs
      · exact hindex.update
      · exact hindex.update
      · exact Works.update (hindex.requestFetch n i hn (.inl rfl))

theorem Works.keepPlaces (h : Works s d t) (keep : CachePlace → Bool) : Works s d { t with tru := t.tru.keepPlaces keep } :=
  .tariff h _ (fun hs => Tru.Lawful.keepPlaces (h.lawful hs) keep) (.refl _)

theorem Works.startSlot (h : Works s d t) (n : Nat) : Works s d (t.startSlot n) := by
  have hlist : (t.tru.beginSlot n).sendList = t.tru.sendList := by
    unfold Tru.beginSlot
    dsimp only
    split <;> rfl
  have hbegun : Works s d { t with tru := t.tru.beginSlot n } :=
    .tariff h _ (fun hs => Tru.Lawful.beginSlot (h.lawful hs) n) (hlist ▸ .refl _)
  have hcounted : Works s d { t with tru := (t.tru.beginSlot n).countResolution n } := by
    refine hbegun.update (u := { t with tru := (t.tru.beginSlot n).countResolution n }) ?_
    rw [Tru.countResolution_parts]
    rfl
  have hslot : ((t.tru.beginSlot n).countResolution n).lookup.slot = some n := by
    rw [Tru.countResolution_parts]
    rfl
  have hchosen := hcounted.chooseEntry (n := n) hslot
  unfold State.startSlot
  dsimp only
  refine Works.testPrefetch (Works.trigger ?_ _)
  split
  · exact hchosen.update
  · exact (hchosen.keepPlaces fun p => p.tag == n).update

/-! ### Answers and timeouts of fetches (R151 to R153) -/

theorem Works.tariffError (h : Works s d t) (k : ErrorKind) (n : Nat) (i : Half) (code : Nat) : Works s d (t.tariffError k n i code) :=
  .raise h.update _ _ _ _

/-- A free place of the fetch table stays free as an error is reported (R152, R153). -/
theorem State.tariffError_table {s : State} {k : Fin 2} (h : s.tru.table[k] = none) (e : ErrorKind) (n : Nat) (i : Half) (code : Nat) :
    (s.tariffError e n i code).tru.table[k] = none := by
  obtain ⟨port, hadmitted⟩ := State.raise_admitted (s.offerError e { first := n, second := i.toNat }) .tariffError n i.toNat code
  have htable := hadmitted.table k
  have hnone : (s.offerError e { first := n, second := i.toNat }).tru.table[k] = none := h
  rw [hnone] at htable
  exact Option.map_eq_none_iff.mp htable

theorem Tru.endAwait_parts (u : Tru) (n : Nat) (i : Half) :
    u.endAwait n i = { u with lookup.awaiting := (u.endAwait n i).lookup.awaiting } := by
  unfold Tru.endAwait
  split <;> rfl

theorem Tru.placeEntry_table (u : Tru) (n : Nat) (i : Half) (e : TariffEntry) :
    (u.placeEntry n i e).table = u.table ∧ (u.placeEntry n i e).sendList = u.sendList := by
  unfold Tru.placeEntry
  dsimp only
  split <;> exact ⟨rfl, rfl⟩

theorem Tru.Lawful.freeFetch {u : Tru} (h : u.Lawful) (k : Fin 2) : (u.freeFetch k).Lawful :=
  h.fewer rfl rfl (Tru.fetchSlots_freeFetch u k) (.refl _)

theorem Works.validAnswer (h : Works s d t) (k : Fin 2) (a : CalendarAnswer) : Works s d (t.validAnswer k a) := by
  have hplaced : Works s d { t with tru := (t.tru.freeFetch k).placeEntry a.slot.toNat a.index a.entry } :=
    .tariff h _ (fun hs => Tru.Lawful.placeEntry (Tru.Lawful.freeFetch (h.lawful hs) k) _ _ _)
      (by rw [(Tru.placeEntry_table _ _ _ _).2]; exact .refl _)
  have hfree : ((t.tru.freeFetch k).placeEntry a.slot.toNat a.index a.entry).table[k] = none := by
    rw [(Tru.placeEntry_table _ _ _ _).1, Tru.freeFetch_table]
  unfold State.validAnswer
  dsimp only
  rw [Tru.endAwait_parts]
  split
  · exact Works.refill (hplaced.update (u := { t with tru := _, egu := _ })) k hfree
  · exact Works.refill (hplaced.update (u := { t with tru := _ })) k hfree

theorem Works.invalidAnswer (h : Works s d t) (k : Fin 2) (a : CalendarAnswer) : Works s d (t.invalidAnswer k a) := by
  have hfreed := h.freeFetch k
  unfold State.invalidAnswer
  dsimp only
  rw [Tru.endAwait_parts]
  refine Works.refill (Works.tariffError (hfreed.update (u := { t with tru := _ })) _ _ _ _) k ?_
  exact State.tariffError_table (Tru.freeFetch_table _ _) _ _ _ _

theorem Works.takeCalendarEntry (h : Works s d t) (seq : Byte) (a : CalendarAnswer) : Works s d (t.takeCalendarEntry seq a) := by
  unfold State.takeCalendarEntry
  split
  · split
    · exact h.update
    · split
      · exact h.validAnswer _ _
      · exact h.invalidAnswer _ _
  · exact h.update

theorem Works.fetchExpires (h : Works s d t) (k : Fin 2) : Works s d (t.fetchExpires k) := by
  unfold State.fetchExpires
  split
  · exact h
  · next f _ =>
    dsimp only
    rw [Tru.endAwait_parts]
    refine Works.refill (Works.tariffError (.tariff h _ (fun hs => ?_) ?_) _ _ _ _) k ?_
    · exact (h.lawful hs).fewer rfl rfl (Tru.fetchSlots_freeFetch _ k) (.refl _)
    · exact List.filter_sublist
    · exact State.tariffError_table (Tru.freeFetch_table _ _) _ _ _ _

/-! ### Slots, time marks and line samples -/

theorem Works.openSlot (h : Works s d t) (n : Nat) (timeStep part : Bool) : Works s d (t.openSlot n timeStep part) :=
  Works.startSlot h.update n

theorem Works.endSlot (h : Works s d t) : Works s d t.endSlot := by
  unfold State.endSlot
  split
  · exact h
  · exact Works.openSlot (Works.closeSlot h.update) _ _ _

theorem Works.laterMark (h : Works s d t) (old c : Clock) : Works s d (t.laterMark old c) := by
  have hclock : Works s d { t with egu.clock := some c } := h.update
  have hstepped : Works s d (if decide (2000 < distance c.linear old.linear) then State.reportStep { t with egu.clock := some c } old c
      else { t with egu.clock := some c }) := by
    split
    · exact .raise hclock.update _ _ _ _
    · exact hclock
  have hopened : ∀ {u : State} (step : Bool), Works s d u →
      Works s d (if u.egu.slot.number = some c.slot then u else u.closeSlot.openSlot c.slot step false) := fun step hu => by
    split
    · exact hu
    · exact hu.closeSlot.openSlot _ _ _
  exact hopened _ hstepped

theorem Works.takeMark (h : Works s d t) (day ms : Nat) : Works s d (t.takeMark day ms) := by
  have htaken : Works s d { t with egu.marksTaken := bump32 t.egu.marksTaken } := h.update
  unfold State.takeMark
  dsimp only
  split
  · split
    · split
      · exact Works.testPrefetch (Works.openSlot (Works.closeSlot htaken.update) _ _ _)
      · exact Works.testPrefetch (htaken.laterMark _ _)
    · exact h.update
  · exact h

theorem Works.restartSlot (h : Works s d t) : Works s d t.restartSlot := by
  unfold State.restartSlot
  dsimp only
  split
  · exact h.update
  · split
    · exact h.update
    · exact Works.openSlot (Works.closeSlot h.update) _ _ _

/-- The heat debt is no law of the target, the player or the AE hold (R77). -/
theorem State.keepsLine_stepHeat (s : State) (dt : Nat) : s.KeepsLine (s.line.stepHeat dt) ∧ (s.line.stepHeat dt).ig = s.line.ig := by
  unfold Line.stepHeat
  split <;> exact ⟨⟨id, id, id⟩, rfl⟩

/-- The line state of a sample leaves TRIPPED and what the laws of the line read of the record (R68). -/
theorem State.keepsLine_workState (s : State) (il vl now : Nat) :
    s.KeepsLine ((s.line.record il vl now).workState now) ∧ ((s.line.record il vl now).workState now).ig = s.line.ig
      ∧ ((s.line.record il vl now).workState now).hd = s.line.hd
      ∧ ((s.line.record il vl now).workState now).heatRecovery = s.line.heatRecovery
      ∧ ((s.line.record il vl now).workState now).cfg = s.line.cfg := by
  unfold Line.workState
  split
  · exact ⟨⟨id, id, id⟩, rfl, rfl, rfl, rfl⟩
  · refine ⟨⟨fun h => ⟨h.1, fun htripped => ?_⟩, id, id⟩, rfl, rfl, rfl, rfl⟩
    dsimp only at htripped
    split at htripped <;> simp at htripped

theorem Works.sampleStages (h : Works s d t) (il vl : Nat) : Works s d (t.sampleStages il vl) := by
  have hcurtailed : Works s d (t.addCurtailed t.sampleInterval.1) := by
    unfold State.addCurtailed
    split
    · exact h.update
    · exact h
  have hline : (t.addCurtailed t.sampleInterval.1).line = t.line := by
    unfold State.addCurtailed
    split <;> rfl
  have hkeeps := State.keepsLine_stepHeat (t.addCurtailed t.sampleInterval.1) t.sampleInterval.1
  rw [hline] at hkeeps
  have hheat := Works.heat hcurtailed (t.line.stepHeat t.sampleInterval.1) hkeeps.1 fun _ => hkeeps.2.trans (congrArg Line.ig hline).symm
  unfold State.sampleStages
  dsimp only
  generalize State.workHeatRecovery _ = u at *
  obtain ⟨hlaws, hig, hhd, hflag, hcfg⟩ := u.keepsLine_workState il vl t.time
  have hrecorded := Works.line hheat ((u.line.record il vl t.time).workState t.time) hlaws ?_ fun _ => hig
  · exact hrecorded.update
  · unfold Machine.heatLaw
    dsimp only
    rw [hhd, hflag, hcfg]
    exact id

end
end Sys2Proof.Machine
end

section
/-! SUPPORT. The allocation (R84, R85): the shares, and what it writes. -/

namespace Sys2Proof.Machine

/-! ### The remainder (R85) -/

theorem giveOut_length : ∀ (r : Nat) (l : List (Nat × Nat)), (giveOut r l).length = l.length
  | _, [] => rfl
  | r, (share, cap) :: rest => by
    unfold giveOut
    split <;> simp [giveOut_length]

theorem giveOut_zero : ∀ l : List (Nat × Nat), giveOut 0 l = l.map Prod.fst
  | [] => rfl
  | (share, cap) :: rest => by simp [giveOut, giveOut_zero rest]

/-- Where every group has room, and there are as many groups as units of the remainder, all of it is given out. -/
theorem giveOut_sum : ∀ (r : Nat) (l : List (Nat × Nat)), (∀ e ∈ l, e.1 < e.2) → r ≤ l.length →
    (giveOut r l).sum = (l.map Prod.fst).sum + r
  | 0, l, _, _ => by simp [giveOut_zero]
  | r + 1, [], _, hr => absurd hr (by simp)
  | r + 1, (share, cap) :: rest, hroom, hr => by
    have hlt : share < cap := hroom (share, cap) (by simp)
    have ih := giveOut_sum r rest (fun e he => hroom e (List.mem_cons_of_mem _ he)) (by simpa using hr)
    simp only [giveOut, Nat.succ_pos, hlt, and_self, if_true, List.sum_cons, List.map_cons, Nat.add_sub_cancel, ih]
    omega

/-- Each group keeps its share or takes one more, where it has room and every group before it that has room takes one. -/
theorem giveOut_getElem : ∀ (r : Nat) (l : List (Nat × Nat)) (i : Nat) (hi : i < l.length) (hi' : i < (giveOut r l).length),
    (giveOut r l)[i] = l[i].1 ∨ (giveOut r l)[i] = l[i].1 + 1 ∧ l[i].1 < l[i].2
      ∧ ∀ j (hj : j < i), (giveOut r l)[j] = l[j].1 + 1 ∨ (giveOut r l)[j] = l[j].1 ∧ l[j].2 ≤ l[j].1
  | _, [], _, hi, _ => absurd hi (by simp)
  | r, (share, cap) :: rest, 0, _, _ => by
    by_cases h : 0 < r ∧ share < cap
    · right
      simp [giveOut, h]
    · left
      simp [giveOut, h]
  | r, (share, cap) :: rest, i + 1, hi, hi' => by
    have hilt : i < rest.length := by simpa using hi
    by_cases h : 0 < r ∧ share < cap
    · rcases giveOut_getElem (r - 1) rest i hilt (by rw [giveOut_length]; exact hilt) with hsame | ⟨hmore, hroom, hbefore⟩
      · left
        simpa [giveOut, h] using hsame
      · right
        refine ⟨by simpa [giveOut, h] using hmore, hroom, fun j hj => ?_⟩
        cases j with
        | zero => exact .inl (by simp [giveOut, h])
        | succ j => simpa [giveOut, h] using hbefore j (by omega)
    · rcases giveOut_getElem r rest i hilt (by rw [giveOut_length]; exact hilt) with hsame | ⟨hmore, hroom, hbefore⟩
      · left
        simpa [giveOut, h] using hsame
      · have hr : 0 < r := by
          by_contra hr
          obtain rfl : r = 0 := by omega
          simp [giveOut_zero] at hmore
        have hfull : cap ≤ share := Nat.le_of_not_lt fun hlt => h ⟨hr, hlt⟩
        right
        refine ⟨by simpa [giveOut, h] using hmore, hroom, fun j hj => ?_⟩
        cases j with
        | zero => exact .inr ⟨by simp [giveOut, h], hfull⟩
        | succ j => simpa [giveOut, h] using hbefore j (by omega)

/-! ### The shares (R85) -/

/-- The whole part of a group's share of `ir` (R85). -/
def baseShare (ir total cap : Nat) : Nat := ir * cap / total

theorem shares_eq (ir : Nat) (caps : List Nat) :
    shares ir caps = giveOut (ir - (caps.map (baseShare ir caps.sum)).sum) ((caps.map (baseShare ir caps.sum)).zip caps) := rfl

theorem shares_length (ir : Nat) (caps : List Nat) : (shares ir caps).length = caps.length := by
  rw [shares_eq, giveOut_length]
  simp

/-- The whole parts, times the sum of the capacities, lie below what is shared out, by less than one unit a group. -/
theorem baseShare_sums {ir total : Nat} (htotal : 0 < total) : ∀ l : List Nat,
    total * (l.map (baseShare ir total)).sum ≤ ir * l.sum ∧ ir * l.sum ≤ total * ((l.map (baseShare ir total)).sum + l.length)
  | [] => by simp
  | c :: l => by
    obtain ⟨hle, hge⟩ := baseShare_sums (ir := ir) htotal l
    have hdiv : total * baseShare ir total c ≤ ir * c := Nat.mul_div_le _ _
    have hmod : ir * c < total * baseShare ir total c + total := by
      have := Nat.lt_mul_div_succ (ir * c) htotal
      rwa [Nat.mul_add, Nat.mul_one] at this
    simp only [List.map_cons, List.sum_cons, List.length_cons, Nat.mul_add] at *
    omega

theorem baseShare_le {ir total cap : Nat} (hir : ir ≤ total) : baseShare ir total cap ≤ cap :=
  Nat.div_le_of_le_mul (Nat.mul_le_mul_right cap hir)

/-- Below the sum of the capacities every group has room beside its whole part. -/
theorem baseShare_lt {ir total cap : Nat} (hir : ir < total) (hcap : 0 < cap) : baseShare ir total cap < cap :=
  Nat.div_lt_of_lt_mul (Nat.mul_lt_mul_of_pos_right hir hcap)

/-- The shares sum to what is shared out (R85). -/
theorem shares_sum {ir : Nat} {caps : List Nat} (hpos : ∀ c ∈ caps, 0 < c) (hir : ir ≤ caps.sum) : (shares ir caps).sum = ir := by
  rcases Nat.eq_or_lt_of_le hir with heq | hlt
  · have hbase : caps.map (baseShare ir caps.sum) = caps := by
      refine (List.map_congr_left fun c hc => ?_).trans (List.map_id caps)
      unfold baseShare
      rw [heq]
      exact Nat.mul_div_cancel_left _ ((hpos c hc).trans_le (List.single_le_sum (by simp) c hc))
    rw [shares_eq, hbase, heq, Nat.sub_self, giveOut_zero, List.map_fst_zip (by simp)]
  · obtain ⟨hle, hge⟩ := baseShare_sums (ir := ir) (Nat.zero_lt_of_lt hlt) caps
    rw [Nat.mul_comm ir] at hle hge
    have hbelow : (caps.map (baseShare ir caps.sum)).sum ≤ ir := Nat.le_of_mul_le_mul_left hle (Nat.zero_lt_of_lt hlt)
    have habove : ir ≤ (caps.map (baseShare ir caps.sum)).sum + caps.length := Nat.le_of_mul_le_mul_left hge (Nat.zero_lt_of_lt hlt)
    rw [shares_eq, giveOut_sum, List.map_fst_zip (by simp)]
    · omega
    · intro e he
      obtain ⟨i, hi, rfl⟩ := List.mem_iff_getElem.mp he
      simp only [List.getElem_zip, List.getElem_map]
      exact baseShare_lt hlt (hpos _ (List.getElem_mem _))
    · simp only [List.length_zip, List.length_map, min_self]
      omega

/-- A share is the whole part, or one more, where every group before takes one more or is at its capacity (R85). -/
theorem shares_getElem {ir : Nat} {caps : List Nat} (hir : ir ≤ caps.sum) {i : Nat} (hi : i < caps.length) :
    (shares ir caps)[i]'(by rw [shares_length]; exact hi) = baseShare ir caps.sum caps[i]
      ∨ (shares ir caps)[i]'(by rw [shares_length]; exact hi) = baseShare ir caps.sum caps[i] + 1 ∧ baseShare ir caps.sum caps[i] < caps[i]
        ∧ ∀ j (hj : j < i), (shares ir caps)[j]'(by rw [shares_length]; omega) = baseShare ir caps.sum caps[j] + 1
          ∨ (shares ir caps)[j]'(by rw [shares_length]; omega) = caps[j] := by
  have hgive := giveOut_getElem (ir - (caps.map (baseShare ir caps.sum)).sum) ((caps.map (baseShare ir caps.sum)).zip caps) i
    (by simpa using hi) (by rw [giveOut_length]; simpa using hi)
  simp only [List.getElem_zip, List.getElem_map] at hgive
  refine hgive.imp_right fun ⟨hmore, hroom, hbefore⟩ => ⟨hmore, hroom, fun j hj => ?_⟩
  exact (hbefore j hj).imp_right fun ⟨hsame, hfull⟩ => hsame.trans (le_antisymm (baseShare_le hir) hfull)

/-- No share exceeds its group's capacity (R85). -/
theorem shares_le {ir : Nat} {caps : List Nat} (hir : ir ≤ caps.sum) {i : Nat} (hi : i < caps.length) :
    (shares ir caps)[i]'(by rw [shares_length]; exact hi) ≤ caps[i] := by
  rcases shares_getElem hir hi with hbase | ⟨hmore, hroom, -⟩
  · rw [hbase]
    exact baseShare_le hir
  · rw [hmore]
    exact hroom

/-! ### What the allocation writes (R85) -/

/-- Wanted setpoints written to distinct groups: each stands in its group, and no other group changes. -/
theorem State.writeWanted_groups : ∀ (ws : List (Fin 8 × Nat)) (s : State), (ws.map Prod.fst).Nodup →
    (∀ w ∈ ws, (s.writeWanted ws).group w.1 = { s.group w.1 with wanted := w.2 })
      ∧ ∀ g, g ∉ ws.map Prod.fst → (s.writeWanted ws).group g = s.group g
  | [], s, _ => ⟨by simp, fun _ _ => rfl⟩
  | w :: ws, s, hnodup => by
    rw [List.map_cons, List.nodup_cons] at hnodup
    obtain ⟨hw, hws⟩ := hnodup
    obtain ⟨hwritten, hothers⟩ := State.writeWanted_groups ws (s.modGroup w.1 fun q => { q with wanted := w.2 }) hws
    have hne : ∀ x ∈ ws, x.1 ≠ w.1 := fun x hx heq => hw (heq ▸ List.mem_map_of_mem hx)
    refine ⟨fun x hx => ?_, fun g hg => ?_⟩
    · rcases List.mem_cons.mp hx with rfl | hx
      · exact (hothers _ hw).trans (State.group_modGroup _ _ _)
      · exact (hwritten x hx).trans (by rw [State.group_modGroup_of_ne _ _ (hne x hx)])
    · rw [List.map_cons, List.mem_cons, not_or] at hg
      exact (hothers g hg.2).trans (State.group_modGroup_of_ne _ _ hg.1)

theorem State.mem_availableSet {s : State} {g : Fin 8} : g ∈ s.availableSet ↔ (s.group g).available = true := by
  simp [State.availableSet]

theorem State.availableSet_nodup (s : State) : s.availableSet.Nodup := (List.nodup_finRange 8).filter _

/-- The capacities of the available set, in order (R84). -/
def State.availableCaps (s : State) : List Nat := s.availableSet.map fun g => (s.group g).cap

/-- The shares of the available set, in order (R85). -/
def State.sharesOf (s : State) : List Nat := shares s.toAllocate s.availableCaps

theorem State.toAllocate_le (s : State) : s.toAllocate ≤ s.availableCaps.sum := min_le_right _ _

theorem State.availableCaps_pos (s : State) : ∀ c ∈ s.availableCaps, 0 < c := by
  intro c hc
  obtain ⟨g, hg, rfl⟩ := List.mem_map.mp hc
  have havailable := State.mem_availableSet.mp hg
  simp only [Group.available, Bool.and_eq_true, decide_eq_true_eq] at havailable
  exact havailable.2

theorem State.sharesOf_length (s : State) : s.sharesOf.length = s.availableSet.length := by
  rw [State.sharesOf, shares_length, State.availableCaps, List.length_map]

theorem State.allocate_eq {s : State} (h : s.active = true) : s.allocate = s.writeWanted (s.availableSet.zip s.sharesOf) := by
  unfold State.allocate
  exact if_pos h

theorem State.allocate_of_forwardOnly {s : State} (h : s.active = false) : s.allocate = s := by
  unfold State.allocate
  dsimp only
  rw [h]
  rfl

theorem State.allocate_keys (s : State) : ((s.availableSet.zip s.sharesOf).map Prod.fst) = s.availableSet :=
  List.map_fst_zip s.sharesOf_length.ge

/-- The group at each place of the available set is wanted at the share of that place (R85). -/
theorem State.group_allocate_of_available {s : State} (h : s.active = true) {i : Nat} (hi : i < s.availableSet.length) :
    s.allocate.group s.availableSet[i]
      = { s.group s.availableSet[i] with wanted := s.sharesOf[i]'(s.sharesOf_length ▸ hi) } := by
  rw [State.allocate_eq h]
  refine (State.writeWanted_groups _ s (by rw [State.allocate_keys]; exact s.availableSet_nodup)).1 (_, _) ?_
  exact List.mem_iff_getElem.mpr ⟨i, by simp [s.sharesOf_length, hi], by simp⟩

/-- A group outside the available set keeps its wanted setpoint (R85). -/
theorem State.group_allocate_of_unavailable {s : State} {g : Fin 8} (hg : (s.group g).available = false) :
    s.allocate.group g = s.group g := by
  cases h : s.active with
  | false => rw [State.allocate_of_forwardOnly h]
  | true =>
    rw [State.allocate_eq h]
    refine (State.writeWanted_groups _ s (by rw [State.allocate_keys]; exact s.availableSet_nodup)).2 g ?_
    rw [State.allocate_keys, State.mem_availableSet, hg]
    simp

/-! ### The law of the allocation (R84, R85) -/

/-- The wanted setpoints of the available set sum to Ir, and none exceeds its capacity. -/
def State.Shared (s : State) : Prop :=
  (s.availableSet ≠ [] → (s.availableSet.map fun g => (s.group g).wanted).sum = s.toAllocate)
    ∧ ∀ g ∈ s.availableSet, (s.group g).wanted ≤ (s.group g).cap

/-- What the allocation reads of a group record. -/
def Group.loading (q : Group) : Bool × Nat × Nat := (q.available, q.cap, q.fixedLoad)

/-- Groups that count alike for the allocation, and an equal Ig, give one Ir, and one available set. -/
theorem State.toAllocate_congr {s t : State} (hg : ∀ g, (t.group g).loading = (s.group g).loading) (hig : t.line.ig = s.line.ig) :
    t.availableSet = s.availableSet ∧ t.toAllocate = s.toAllocate := by
  simp only [Group.loading, Prod.mk.injEq] at hg
  have hset : t.availableSet = s.availableSet := by simp only [State.availableSet, hg]
  refine ⟨hset, ?_⟩
  simp only [State.toAllocate, State.availableCap, State.fixedLoads, hset, hg, hig]

/-- The law rests on what the allocation reads and on the wanted setpoints of the available groups. -/
theorem State.Shared.congr {s t : State} (h : s.Shared) (hg : ∀ g, (t.group g).loading = (s.group g).loading)
    (hig : t.line.ig = s.line.ig) (hwanted : ∀ g, (t.group g).available = true → (t.group g).wanted = (s.group g).wanted) : t.Shared := by
  obtain ⟨hset, hir⟩ := State.toAllocate_congr hg hig
  obtain ⟨hsum, hcap⟩ := h
  have heq : ∀ g ∈ s.availableSet, (t.group g).wanted = (s.group g).wanted := fun g hmem =>
    hwanted g (State.mem_availableSet.mp (hset ▸ hmem))
  refine ⟨fun hne => ?_, fun g hmem => ?_⟩
  · rw [hset, hir, ← hsum (hset ▸ hne), List.map_congr_left heq]
  · rw [hset] at hmem
    rw [heq g hmem, (Prod.mk.inj (Prod.mk.inj (hg g)).2).1]
    exact hcap g hmem

/-- Where no group is available nothing is to be shared. -/
theorem State.Shared.of_empty {s : State} (h : ∀ g, (s.group g).available = false) : s.Shared := by
  have hset : s.availableSet = [] := List.filter_eq_nil_iff.mpr fun g _ => by simp [h g]
  exact ⟨fun hne => absurd hset hne, fun g hg => absurd hg (by simp [hset])⟩

/-- The allocation leaves its law (R85). -/
theorem State.shared_allocate {s : State} (h : s.active = true) : s.allocate.Shared := by
  have hloading : ∀ g, (s.allocate.group g).loading = (s.group g).loading := fun g => by
    rw [State.group_allocate]
    rfl
  have hig : s.allocate.line.ig = s.line.ig := by rw [State.allocate_rest]
  obtain ⟨hset, hir⟩ := State.toAllocate_congr hloading hig
  refine ⟨fun _ => ?_, fun g hg => ?_⟩
  · rw [hset, hir]
    have hwanted : (s.availableSet.map fun g => (s.allocate.group g).wanted) = s.sharesOf := by
      refine List.ext_getElem (by simp [s.sharesOf_length]) fun i hi _ => ?_
      rw [List.getElem_map, State.group_allocate_of_available h (by simpa using hi)]
    rw [hwanted]
    exact shares_sum s.availableCaps_pos s.toAllocate_le
  · rw [hset] at hg
    obtain ⟨i, hi, rfl⟩ := List.mem_iff_getElem.mp hg
    rw [State.group_allocate_of_available h hi]
    have hle := shares_le s.toAllocate_le (i := i) (by simpa [State.availableCaps] using hi)
    simpa [State.availableCaps, State.sharesOf] using hle

end Sys2Proof.Machine
end

section
/-! The statement on the allocation (O38). -/

namespace Sys2Proof.Machine

/-- A sum over some elements of a list, as one over all of them. -/
theorem sum_map_filter {α : Type} (p : α → Bool) (f : α → Nat) : ∀ l : List α,
    (l.map fun a => if p a = true then f a else 0).sum = ((l.filter p).map f).sum
  | [] => rfl
  | a :: l => by
    cases h : p a <;> simp [h, sum_map_filter p f l]

/-- The fixed load in the words of R84: none of an absent, available or SILENT group (R84, R106). -/
theorem Group.fixedLoad_eq (q : Group) :
    q.fixedLoad = if q.cfg.present = false ∨ q.available = true ∨ q.stale = .silent then 0
      else if q.stale = .holding ∧ q.authority ≠ .released then q.confirmed else q.reported := by
  unfold Group.fixedLoad
  cases hp : q.cfg.present <;> cases ha : q.available <;> cases hs : q.stale <;> simp [Authority.isHeld_iff]

theorem Group.available_iff (q : Group) : q.available = true ↔ q.cfg.present = true ∧ q.authority ≠ .released
    ∧ q.stale = .fresh ∧ q.withdrawal = .none ∧ 0 < q.cap := by
  simp [Group.available, Authority.isHeld_iff, and_assoc]

/-- The place of a group in the available set. -/
theorem State.availableSet_place {s : State} {g : Fin 8} (hg : (s.group g).available = true) :
    ∃ i, ∃ hi : i < s.availableSet.length, s.availableSet[i] = g := by
  obtain ⟨i, hi, rfl⟩ := List.mem_iff_getElem.mp (State.mem_availableSet.mpr hg)
  exact ⟨i, hi, rfl⟩

/-- The available set stands in ascending order (R84). -/
theorem State.availableSet_lt {s : State} {i j : Nat} (hi : i < s.availableSet.length) (hj : j < s.availableSet.length)
    (h : s.availableSet[j] < s.availableSet[i]) : j < i := by
  have hsorted : s.availableSet.Pairwise (· < ·) := (List.pairwise_lt_finRange 8).filter _
  rcases Nat.lt_trichotomy j i with hlt | rfl | hgt
  · exact hlt
  · exact absurd h (lt_irrefl _)
  · exact absurd h (List.pairwise_iff_getElem.mp hsorted i j hi hj hgt).asymm

/-- An available group's share: within its capacity, and its whole part or, from the lowest group upward, one more (R85). -/
theorem State.share_of_available {s : State} (h : s.active = true) {g : Fin 8} (hg : (s.group g).available = true) :
    (s.allocate.group g).wanted ≤ (s.group g).cap
      ∧ ((s.allocate.group g).wanted = baseShare s.toAllocate s.availableCaps.sum (s.group g).cap
        ∨ (s.allocate.group g).wanted = baseShare s.toAllocate s.availableCaps.sum (s.group g).cap + 1
          ∧ ∀ g' < g, (s.group g').available = true →
            (s.allocate.group g').wanted = baseShare s.toAllocate s.availableCaps.sum (s.group g').cap + 1
              ∨ (s.allocate.group g').wanted = (s.group g').cap) := by
  obtain ⟨i, hi, rfl⟩ := State.availableSet_place hg
  have hcaps : s.availableCaps.length = s.availableSet.length := List.length_map _
  have hcap : ∀ j (hj : j < s.availableSet.length), s.availableCaps[j]'(hcaps ▸ hj) = (s.group s.availableSet[j]).cap := fun j hj => by
    simp [State.availableCaps]
  have hle := shares_le s.toAllocate_le (i := i) (hcaps ▸ hi)
  have hshare := shares_getElem s.toAllocate_le (i := i) (hcaps ▸ hi)
  rw [hcap i hi] at hle hshare
  rw [State.group_allocate_of_available h hi]
  refine ⟨hle, hshare.imp_right fun ⟨hmore, _, hbefore⟩ => ⟨hmore, fun g' hlt hg' => ?_⟩⟩
  obtain ⟨j, hj, rfl⟩ := State.availableSet_place hg'
  have hshare' := hbefore j (State.availableSet_lt hi hj hlt)
  rw [hcap j hj] at hshare'
  rw [State.group_allocate_of_available h hj]
  exact hshare'

theorem State.active_iff (s : State) : s.active = true ↔ s.meu.mode ≠ .forwardOnly := by
  simp [State.active]

/-- Settles O38: the shares sum to Ir, each the whole part or one more (`shares_sum`, `shares_getElem`), read off the places of the
available set. -/
theorem allocationSharesTheCommand : Obligations.AllocationSharesTheCommand := by
  unfold Obligations.AllocationSharesTheCommand
  refine ⟨fun s hs => State.allocate_of_forwardOnly ?_, fun s hs => ?_⟩
  · simp [State.active, hs]
  · intro a cap share total load ir base
    have hactive : s.active = true := s.active_iff.mpr hs
    have htotal : total = s.availableCaps.sum := sum_map_filter _ _ _
    have hload : load = Group.fixedLoad := funext fun q => q.fixedLoad_eq.symm
    have hir : ir = s.toAllocate := by
      simp only [ir, htotal, hload]
      rfl
    have hbase : ∀ g, (s.group g).available = true → base g = baseShare s.toAllocate s.availableCaps.sum (s.group g).cap := fun g hg => by
      simp only [base, cap, hg, if_true, hir, htotal]
      rfl
    refine ⟨fun g => (s.group g).available_iff, fun ⟨g, hg⟩ => ?_, fun g hg => ?_, fun g hg => ?_, s.allocate_rest⟩
    · have hne : s.availableSet ≠ [] := List.ne_nil_of_mem (State.mem_availableSet.mpr hg)
      have hloading : ∀ g, (s.allocate.group g).loading = (s.group g).loading := fun g => by
        rw [State.group_allocate]
        rfl
      obtain ⟨hset, hto⟩ := State.toAllocate_congr hloading (by rw [State.allocate_rest])
      have hsum := (State.shared_allocate hactive).1 (hset ▸ hne)
      rw [hset, hto] at hsum
      rw [hir, ← hsum]
      exact sum_map_filter _ _ _
    · have hshare : ∀ g', (s.group g').available = true → share g' = (s.allocate.group g').wanted := fun g' hg' => by
        simp only [share, hg', if_true]
        rfl
      have hcap : ∀ g', (s.group g').available = true → cap g' = (s.group g').cap := fun g' hg' => by simp only [cap, hg', if_true]
      obtain ⟨hle, hparts⟩ := State.share_of_available hactive hg
      rw [hshare g hg, hcap g hg, hbase g hg]
      refine ⟨s.group_allocate g, hle, hparts.imp_right fun ⟨hmore, hbefore⟩ => ⟨hmore, fun g' hlt hg' => ?_⟩⟩
      rw [hshare g' hg', hcap g' hg', hbase g' hg']
      exact hbefore g' hlt hg'
    · exact State.group_allocate_of_unavailable hg

end Sys2Proof.Machine
end

section
/-! SUPPORT. The decision of orders (R94, R110), group by group: what it makes of a record that is due, and that it leaves none due. -/

namespace Sys2Proof.Machine

theorem Ordered.kept {s t : State} (h : Ordered s t) :
    t.meu.mode = s.meu.mode ∧ t.line = s.line ∧ t.clu.ic = s.clu.ic ∧ t.time = s.time ∧ t.address = s.address := by
  unfold Ordered at h
  rw [h]
  exact ⟨rfl, rfl, rfl, rfl, rfl⟩

theorem State.supervising_congr {s t : State} (h : t.meu.mode = s.meu.mode) : t.supervising = s.supervising := by
  unfold State.supervising
  rw [h]

theorem State.active_congr {s t : State} (h : t.meu.mode = s.meu.mode) : t.active = s.active := by
  unfold State.active
  rw [h]

/-! ### One order (R94, R110) -/

/-- The record of a group whose order has been decided: pending under EXTERNAL, confirmed at once under INTERNAL (R94). -/
def Group.decided (q : Group) (setpoint : Nat) (withdraw : Bool) (seq : Byte) (now : Nat) : Group :=
  match q.ackInForce with
  | .external =>
    { q.sending withdraw with
      order := some { setpoint := setpoint, seq := seq, sent := now, withdraw := withdraw, unsent := true }
      authority := q.authority.toPending }
  | .internal => { q.sending withdraw with confirmed := setpoint }

/-- An order decided is noted in its group's record, and in no other (R94). -/
theorem State.group_decideOrder (s : State) (g : Fin 8) (n : Nat) (w : Bool) :
    ((s.decideOrder g n w).group g).sentForm = ((s.group g).decided n w s.gau.seq s.time).sentForm
      ∧ ∀ k, k ≠ g → ((s.decideOrder g n w).group k).sentForm = (s.group k).sentForm := by
  unfold State.decideOrder Group.decided
  dsimp only
  cases (s.group g).ackInForce with
  | external =>
    refine ⟨((State.groupsStand_sendGroupOrder _ g _).groups g).trans ?_, fun k hk => ((State.groupsStand_sendGroupOrder _ g _).groups k).trans ?_⟩
    · simp only [State.group_modGroup]
      rfl
    · rw [State.group_modGroup_of_ne _ _ hk, State.group_modGroup_of_ne _ _ hk]
      rfl
  | internal =>
    refine ⟨((State.groupsStand_sendGroupOrder _ g _).groups g).trans (((State.groupsStand_notify _ g).groups g).trans ?_),
      fun k hk => ((State.groupsStand_sendGroupOrder _ g _).groups k).trans (((State.groupsStand_notify _ g).groups k).trans ?_)⟩
    · simp only [State.group_modGroup]
      rfl
    · rw [State.group_modGroup_of_ne _ _ hk, State.group_modGroup_of_ne _ _ hk]
      rfl

/-- The due tests read neither an unsent flag nor, of the part, anything but its mode. -/
theorem State.dues_congr {s t : State} (hmode : t.meu.mode = s.meu.mode) {q r : Group} (h : r.sentForm = q.sentForm) :
    t.orderDue r = s.orderDue q ∧ t.zeroOrderDue r = s.zeroOrderDue q := by
  have heq := Group.eq_of_sentForm h
  have hnone : r.order.isNone = q.order.isNone := by
    rw [← Option.not_isSome, ← Option.not_isSome, Group.isSome_of_sentForm (congrArg Group.order h)]
  unfold State.orderDue State.zeroOrderDue
  rw [State.supervising_congr hmode, hnone]
  rw [heq]
  exact ⟨rfl, rfl⟩

/-- No zero order is due of a group with a pending order, or one that is confirmed at 0. -/
theorem State.zeroOrderDue_eq_false {s : State} {q : Group} (h : q.order ≠ none ∨ q.confirmed = 0 ∨ q.withdrawal = .none) :
    s.zeroOrderDue q = false := by
  rcases h with h | h | h
  · simp [State.zeroOrderDue, h]
  · simp [State.zeroOrderDue, h]
  · simp [State.zeroOrderDue, h]

theorem State.orderDue_eq_false {s : State} {q : Group} (h : q.authority.settled = false ∨ q.stepOpen = false ∨ q.withdrawal ≠ .none) :
    s.orderDue q = false := by
  rcases h with h | h | h
  · simp [State.orderDue, h]
  · simp [State.orderDue, h]
  · simp [State.orderDue, h]

theorem Authority.settled_toPending (a : Authority) : a.toPending.settled = false := by
  cases a <;> rfl

/-- A group whose zero order has been decided is due nothing (R110). -/
theorem State.not_due_zeroed {s : State} {q : Group} (h : s.zeroOrderDue q = true) (seq : Byte) (now : Nat) :
    s.orderDue (q.decided 0 true seq now) = false ∧ s.zeroOrderDue (q.decided 0 true seq now) = false := by
  simp only [State.zeroOrderDue, Bool.and_eq_true, bne_iff_ne] at h
  obtain ⟨⟨⟨⟨-, hwithdrawal⟩, -⟩, -⟩, -⟩ := h
  unfold Group.decided
  cases q.ackInForce with
  | external => exact ⟨State.orderDue_eq_false (.inl (Authority.settled_toPending _)), State.zeroOrderDue_eq_false (.inl (by simp))⟩
  | internal => exact ⟨State.orderDue_eq_false (.inr (.inr hwithdrawal)), State.zeroOrderDue_eq_false (.inr (.inl rfl))⟩

/-- A group whose order has been decided is due nothing (R94). -/
theorem State.not_due_ordered {s : State} {q : Group} (h : s.orderDue q = true) (seq : Byte) (now : Nat) :
    s.orderDue (q.decided q.wanted false seq now) = false ∧ s.zeroOrderDue (q.decided q.wanted false seq now) = false := by
  simp only [State.orderDue, Bool.and_eq_true, beq_iff_eq] at h
  have hwithdrawal : q.withdrawal = .none := h.1.1.1.2
  unfold Group.decided
  cases q.ackInForce with
  | external => exact ⟨State.orderDue_eq_false (.inl (Authority.settled_toPending _)), State.zeroOrderDue_eq_false (.inl (by simp))⟩
  | internal =>
    exact ⟨State.orderDue_eq_false (.inr (.inl (by simp [Group.sending]))), State.zeroOrderDue_eq_false (.inr (.inr hwithdrawal))⟩

/-! ### The order that each group is due -/

/-- What the decision of orders makes of the record `q`, on the part `s`: `r` is `q` with the order that it is due, if any. -/
def State.Decides (s : State) (q r : Group) : Prop :=
  if s.zeroOrderDue q = true then ∃ seq, r.sentForm = (q.decided 0 true seq s.time).sentForm
  else if s.orderDue q = true then ∃ seq, r.sentForm = (q.decided q.wanted false seq s.time).sentForm
  else r.sentForm = q.sentForm

theorem State.Decides.not_due {s t : State} {q r : Group} (h : s.Decides q r) (hmode : t.meu.mode = s.meu.mode) :
    t.orderDue r = false ∧ t.zeroOrderDue r = false := by
  unfold State.Decides at h
  split at h
  · next hzero =>
    obtain ⟨seq, hr⟩ := h
    rw [(State.dues_congr hmode hr).1, (State.dues_congr hmode hr).2]
    exact State.not_due_zeroed hzero seq _
  · next hzero =>
    split at h
    · next hdue =>
      obtain ⟨seq, hr⟩ := h
      rw [(State.dues_congr hmode hr).1, (State.dues_congr hmode hr).2]
      exact State.not_due_ordered hdue seq _
    · next hdue =>
      rw [(State.dues_congr hmode h).1, (State.dues_congr hmode h).2]
      exact ⟨by simpa using hdue, by simpa using hzero⟩

/-- The order of one group: its record as the decision makes it, the others as they stand (R94, R110). -/
theorem State.group_decideFor (s : State) (g : Fin 8) :
    s.Decides (s.group g) ((s.decideFor g).group g) ∧ ∀ k, k ≠ g → ((s.decideFor g).group k).sentForm = (s.group k).sentForm := by
  unfold State.Decides State.decideFor
  dsimp only
  split
  · obtain ⟨hg, hothers⟩ := s.group_decideOrder g 0 true
    exact ⟨⟨_, hg⟩, hothers⟩
  · split
    · obtain ⟨hg, hothers⟩ := s.group_decideOrder g (s.group g).wanted false
      exact ⟨⟨_, hg⟩, hothers⟩
    · exact ⟨rfl, fun _ _ => rfl⟩

theorem Group.sentForm_decided {q r : Group} (h : r.sentForm = q.sentForm) (n : Nat) (w : Bool) (seq : Byte) (now : Nat) :
    (r.decided n w seq now).sentForm = (q.decided n w seq now).sentForm := by
  have heq := Group.eq_of_sentForm h
  have horder := congrArg Group.order h
  have hack : r.ackInForce = q.ackInForce := by rw [heq]; rfl
  unfold Group.decided
  rw [hack]
  cases q.ackInForce with
  | external =>
    rw [heq]
    rfl
  | internal =>
    unfold Group.sending Group.sentForm at *
    rw [heq]
    simpa using horder

/-- Unsent flags stand in no decision. -/
theorem State.Decides.congr {s t : State} {q q' r r' : Group} (h : s.Decides q r) (hmode : t.meu.mode = s.meu.mode)
    (htime : t.time = s.time) (hq : q'.sentForm = q.sentForm) (hr : r'.sentForm = r.sentForm) : t.Decides q' r' := by
  have hwanted : q'.wanted = q.wanted := by rw [Group.eq_of_sentForm hq]
  unfold State.Decides at h ⊢
  rw [(State.dues_congr hmode hq).1, (State.dues_congr hmode hq).2, htime, hwanted]
  simp only [Group.sentForm_decided hq, hr, hq]
  exact h

/-- The decision of a fold: each group's record as the decision makes it where the group is among those worked, and else as it stands. -/
theorem State.group_decideFold : ∀ (l : List (Fin 8)) (s : State), l.Nodup →
    (∀ g ∈ l, s.Decides (s.group g) ((l.foldl State.decideFor s).group g))
      ∧ (∀ g, g ∉ l → ((l.foldl State.decideFor s).group g).sentForm = (s.group g).sentForm)
  | [], s, _ => ⟨by simp, fun _ _ => rfl⟩
  | k :: l, s, hnodup => by
    rw [List.nodup_cons] at hnodup
    obtain ⟨hk, hl⟩ := hnodup
    obtain ⟨hdecides, hothers⟩ := s.group_decideFor k
    obtain ⟨hrest, houtside⟩ := State.group_decideFold l (s.decideFor k) hl
    obtain ⟨hmode, -, -, htime, -⟩ := (ordered_decideFor s k).kept
    refine ⟨fun g hg => ?_, fun g hg => ?_⟩
    · rcases List.mem_cons.mp hg with rfl | hg
      · exact hdecides.congr rfl rfl rfl (houtside g hk)
      · have hne : g ≠ k := fun heq => hk (heq ▸ hg)
        exact (hrest g hg).congr hmode.symm htime.symm (hothers g hne).symm rfl
    · rw [List.mem_cons, not_or] at hg
      exact (houtside g hg.2).trans (hothers g hg.1)

/-- Every group gets the order that it is due (R94, R110). -/
theorem State.group_decideAll (s : State) (g : Fin 8) : s.Decides (s.group g) (s.decideAll.group g) :=
  (State.group_decideFold (List.finRange 8) s (List.nodup_finRange 8)).1 g (List.mem_finRange g)

/-- Then no group is due an order. -/
theorem State.decideAll_not_due (s : State) (g : Fin 8) :
    s.decideAll.orderDue (s.decideAll.group g) = false ∧ s.decideAll.zeroOrderDue (s.decideAll.group g) = false :=
  (s.group_decideAll g).not_due (ordered_decideAll s).kept.1

/-- Once the step's orders are decided, no group is due one (R94, R110). -/
theorem State.regulate_not_due (s : State) (g : Fin 8) :
    s.regulate.orderDue (s.regulate.group g) = false ∧ s.regulate.zeroOrderDue (s.regulate.group g) = false := by
  unfold State.regulate
  dsimp only
  split
  · exact s.decideAll_not_due g
  · exact State.decideAll_not_due _ g

/-! ### The allocation under the decision of orders (R85) -/

theorem Group.loading_of_sentForm {q r : Group} (h : r.sentForm = q.sentForm) : r.loading = q.loading ∧ r.wanted = q.wanted := by
  rw [Group.eq_of_sentForm h]
  exact ⟨rfl, rfl⟩

theorem Authority.isHeld_toPending (a : Authority) : a.toPending.isHeld = a.isHeld := by
  cases a <;> rfl

theorem Group.decided_wanted (q : Group) (n : Nat) (w : Bool) (seq : Byte) (now : Nat) : (q.decided n w seq now).wanted = q.wanted := by
  unfold Group.decided
  split <;> rfl

/-- The decision leaves every wanted setpoint (R94). -/
theorem State.Decides.wanted {s : State} {q r : Group} (h : s.Decides q r) : r.wanted = q.wanted := by
  unfold State.Decides at h
  split at h
  · obtain ⟨seq, hr⟩ := h
    exact (Group.loading_of_sentForm hr).2.trans (q.decided_wanted _ _ _ _)
  · split at h
    · obtain ⟨seq, hr⟩ := h
      exact (Group.loading_of_sentForm hr).2.trans (q.decided_wanted _ _ _ _)
    · exact (Group.loading_of_sentForm h).2

/-- The order of a step leaves what the allocation reads: its group is FRESH, and counts at its reported current if at all (R84). -/
theorem State.loading_ordered {s : State} {q : Group} (h : s.orderDue q = true) (n : Nat) (seq : Byte) (now : Nat) :
    (q.decided n false seq now).loading = q.loading := by
  simp only [State.orderDue, Bool.and_eq_true, beq_iff_eq] at h
  have hfresh : q.stale = .fresh := h.1.1.1.1.2
  unfold Group.decided
  split
  · simp only [Group.loading, Group.available, Group.fixedLoad, Group.sending, Authority.isHeld_toPending, hfresh]
  · simp only [Group.loading, Group.available, Group.fixedLoad, Group.sending, hfresh]

/-- Without a zero order due, the decision leaves what the allocation reads. -/
theorem State.Decides.loading {s : State} {q r : Group} (h : s.Decides q r) (hzero : s.zeroOrderDue q = false) : r.loading = q.loading := by
  unfold State.Decides at h
  rw [if_neg (by simp [hzero])] at h
  split at h
  · next hdue =>
    obtain ⟨seq, hr⟩ := h
    exact (Group.loading_of_sentForm hr).1.trans (State.loading_ordered hdue _ _ _)
  · exact (Group.loading_of_sentForm h).1

/-- Equal keys of the allocation: every group counts alike (R85). -/
theorem State.loading_of_key {s t : State} (h : t.allocationKey = s.allocationKey) (g : Fin 8) :
    (t.group g).loading = (s.group g).loading := by
  have hmap := (Prod.mk.inj h).2
  exact List.map_inj_left.mp hmap g (List.mem_finRange g)

/-- The allocation leaves the zero orders that are due (R110). -/
theorem State.zeroOrderDue_allocate (s : State) (g : Fin 8) :
    s.allocate.zeroOrderDue (s.allocate.group g) = s.zeroOrderDue (s.group g) := by
  rw [State.group_allocate]
  unfold State.zeroOrderDue
  rw [State.supervising_congr (ordered_allocate s).kept.1]

/-- The decision of orders keeps the law of the allocation (R85): where it changes what the allocation reads, the allocation is run again, and the
orders decided then change none of that. -/
theorem State.Shared.regulate {s : State} (h : s.Shared) (hactive : s.active = true) : s.regulate.Shared := by
  have hmode := (ordered_decideAll s).kept.1
  have hline := (ordered_decideAll s).kept.2.1
  unfold State.regulate
  dsimp only
  split
  · next hkey =>
    exact h.congr (State.loading_of_key hkey) (congrArg Line.ig hline) fun g _ => (s.group_decideAll g).wanted
  · have hallocated : s.decideAll.allocate.Shared := State.shared_allocate ((State.active_congr hmode).trans hactive)
    refine hallocated.congr (fun g => ?_) (congrArg Line.ig (ordered_decideAll _).kept.2.1) fun g _ => (State.group_decideAll _ g).wanted
    refine (State.group_decideAll _ g).loading ?_
    exact (State.zeroOrderDue_allocate _ g).trans (s.decideAll_not_due g).2

end Sys2Proof.Machine
end

section
/-! SUPPORT. The allocation along the work on groups (O9): up to the allocation that ends it, either the law of the allocation stands already or
the wanted setpoints of the available groups and Ig are those of the start. -/

namespace Sys2Proof.Machine

theorem Works.active {s t : State} {d : Depth} (h : Works s d t) (hd : d ≠ .mode := by simp) : t.active = s.active :=
  State.active_congr (h.mode hd)

/-! ### What stands from the start -/

/-- From `s` to `t` no wanted setpoint changes, nor Ig. -/
def State.Untouched (s t : State) : Prop := (∀ g, (t.group g).wanted = (s.group g).wanted) ∧ t.line.ig = s.line.ig

/-- From `s` to `t` no wanted setpoint of a group that is available in `t` changes, nor Ig. -/
def State.Undisturbed (s t : State) : Prop :=
  (∀ g, (t.group g).available = true → (t.group g).wanted = (s.group g).wanted) ∧ t.line.ig = s.line.ig

/-- From `s` to `t` nothing changes that the law of the allocation reads. -/
def State.SameLoads (s t : State) : Prop := (∀ g, (t.group g).loading = (s.group g).loading) ∧ s.Untouched t

/-- The law of the allocation stands in `t`, or what it rests on is that of `s`. -/
def State.Allotted (s t : State) : Prop := t.Shared ∨ s.Undisturbed t

section
variable {s t u : State}

theorem State.Untouched.refl (s : State) : s.Untouched s := ⟨fun _ => rfl, rfl⟩

theorem State.Untouched.trans (h : s.Untouched t) (h' : t.Untouched u) : s.Untouched u :=
  ⟨fun g => (h'.1 g).trans (h.1 g), h'.2.trans h.2⟩

theorem State.Untouched.undisturbed (h : s.Untouched t) : s.Undisturbed t := ⟨fun g _ => h.1 g, h.2⟩

theorem State.Untouched.allotted (h : s.Untouched t) : s.Allotted t := .inr h.undisturbed

theorem State.Untouched.modGroup {g : Fin 8} {f : Group → Group} (h : s.Untouched t)
    (hf : (f (t.group g)).wanted = (t.group g).wanted := by rfl) : s.Untouched (t.modGroup g f) :=
  ⟨State.group_modGroup_cases (R := fun k r => r.wanted = (s.group k).wanted) (hf.trans (h.1 g)) fun k _ => h.1 k, h.2⟩

theorem GroupsStand.sameLoads (h : GroupsStand s t) : s.SameLoads t :=
  ⟨fun g => (Group.loading_of_sentForm (h.groups g)).1, fun g => (Group.loading_of_sentForm (h.groups g)).2, h.ig⟩

theorem State.sameLoads_raise (s : State) (k : EventKind) (j a b : Nat) : s.SameLoads (s.raise k j a b) :=
  (State.groupsAside_raise s k j a b).stand.sameLoads

theorem State.sameLoads_modGroup {g : Fin 8} {f : Group → Group} (hloading : (f (s.group g)).loading = (s.group g).loading := by rfl)
    (hwanted : (f (s.group g)).wanted = (s.group g).wanted := by rfl) : s.SameLoads (s.modGroup g f) :=
  ⟨State.group_modGroup_cases (R := fun k r => r.loading = (s.group k).loading) hloading fun _ _ => rfl,
    (State.Untouched.refl s).modGroup hwanted⟩

theorem State.Shared.same (h : s.Shared) (hst : s.SameLoads t) : t.Shared := h.congr hst.1 hst.2.2 fun g _ => hst.2.1 g

theorem State.Undisturbed.same (h : s.Undisturbed t) (htu : t.SameLoads u) : s.Undisturbed u := by
  refine ⟨fun g hg => (htu.2.1 g).trans (h.1 g ?_), htu.2.2.trans h.2⟩
  exact ((Prod.mk.inj (htu.1 g)).1).symm.trans hg

theorem State.Allotted.same (h : s.Allotted t) (htu : t.SameLoads u) : s.Allotted u := h.imp (·.same htu) (·.same htu)

theorem State.SameLoads.refl (s : State) : s.SameLoads s := ⟨fun _ => rfl, fun _ => rfl, rfl⟩

theorem State.SameLoads.trans (h : s.SameLoads t) (h' : t.SameLoads u) : s.SameLoads u :=
  ⟨fun g => (h'.1 g).trans (h.1 g), h.2.trans h'.2⟩

/-- The allocation that ends the work leaves the law (R85). -/
theorem State.Allotted.reallocate (h : s.Allotted t) (hs : s.Shared) (hactive : t.active = true) : (t.reallocate s).Shared := by
  unfold State.reallocate
  split
  · next hkey =>
    rcases h with h | ⟨hwanted, hig⟩
    · exact h
    · exact hs.congr (State.loading_of_key hkey) hig hwanted
  · exact State.shared_allocate hactive

/-! ### Claims, releases and orders -/

theorem State.untouched_releaseCore (s : State) (g : Fin 8) : s.Untouched (s.releaseCore g) := by
  unfold State.releaseCore
  split
  · have hmarked : s.Untouched (s.modGroup g fun q => { q with order := none, authority := .released, streak := 0 }) :=
      (State.Untouched.refl s).modGroup
    have hdropped : s.Untouched ((s.modGroup g fun q => { q with order := none, authority := .released, streak := 0 }).dropGroupFrames g) :=
      hmarked
    exact (hdropped.trans (State.groupsStand_notify _ g).sameLoads.2).modGroup
  · exact .refl s

theorem State.Shared.releaseGroup (h : s.Shared) (hactive : s.active = true) (g : Fin 8) : (s.releaseGroup g).Shared := by
  unfold State.releaseGroup
  split
  · exact State.shared_allocate ((Works.active (d := .full) (.releaseCore .refl g trivial)).trans hactive)
  · exact h

theorem State.Allotted.releaseGroup (h : s.Allotted t) (hactive : t.active = true) (g : Fin 8) : s.Allotted (t.releaseGroup g) := by
  unfold State.releaseGroup
  split
  · exact .inl (State.shared_allocate ((Works.active (d := .full) (.releaseCore .refl g trivial)).trans hactive))
  · exact h

/-- A group in withdrawal is outside the available set, so that its wanted setpoint is free (R84, R110). -/
theorem State.Shared.withdrawWanted (h : s.Shared) (g : Fin 8) : (s.modGroup g Group.withdrawWanted).Shared := by
  have hcases : (s.group g).withdrawWanted.loading = (s.group g).loading
      ∧ ((s.group g).withdrawWanted.available = true → (s.group g).withdrawWanted.wanted = (s.group g).wanted) := by
    unfold Group.withdrawWanted
    split
    · next hwithdraw =>
      refine ⟨rfl, fun havailable => ?_⟩
      simp only [Group.available, Bool.and_eq_true, beq_iff_eq, bne_iff_ne] at havailable hwithdraw
      exact absurd havailable.1.2 hwithdraw.2
    · exact ⟨rfl, fun _ => rfl⟩
  exact h.congr (State.group_modGroup_cases (R := fun k r => r.loading = (s.group k).loading) hcases.1 fun _ _ => rfl) rfl
    (State.group_modGroup_cases (R := fun k r => r.available = true → r.wanted = (s.group k).wanted) hcases.2 fun _ _ _ => rfl)

theorem State.shared_claimGroup (hactive : s.active = true) (g : Fin 8) : (s.claimGroup g).Shared :=
  State.Shared.withdrawWanted (State.shared_allocate (s := s.modGroup g Group.claimed) hactive) g

theorem State.Shared.autoclaim (h : s.Shared) (hactive : s.active = true) (g : Fin 8) : (s.autoclaim g).Shared := by
  unfold State.autoclaim
  dsimp only
  split
  · exact State.shared_claimGroup hactive g
  · exact h

theorem State.Allotted.autoclaim (h : s.Allotted t) (hactive : t.active = true) (g : Fin 8) : s.Allotted (t.autoclaim g) := by
  unfold State.autoclaim
  dsimp only
  split
  · exact .inl (State.shared_claimGroup hactive g)
  · exact h

theorem State.untouched_endOrder (s : State) (g : Fin 8) : s.Untouched (s.endOrder g) := (State.Untouched.refl s).modGroup

theorem State.untouched_orderTaken (h : s.Untouched t) (g : Fin 8) (o : GroupOrder) : s.Untouched (t.orderTaken g o) :=
  ((h.trans (t.untouched_endOrder g)).modGroup).trans (State.groupsStand_notify _ g).sameLoads.2

theorem State.allotted_orderRefused (h : s.Untouched t) (hactive : t.active = true) (g : Fin 8) (o : GroupOrder) :
    s.Allotted (t.orderRefused g o) := by
  have hended : s.Untouched ((t.endOrder g).modGroup g fun q => { q with streak := q.streak + 1 }) :=
    (h.trans (t.untouched_endOrder g)).modGroup
  unfold State.orderRefused
  dsimp only
  split
  · exact (hended.allotted.releaseGroup hactive g).same (State.sameLoads_raise _ _ _ _ _)
  · exact hended.allotted

theorem Authority.isHeld_fromPending (a : Authority) : a.fromPending.isHeld = a.isHeld := by
  cases a <;> rfl

theorem Authority.isHeld_watching (a : Authority) : a.withWatcher.isHeld = a.isHeld ∧ a.withoutWatcher.isHeld = a.isHeld := by
  cases a <;> exact ⟨rfl, rfl⟩

/-- An authority that is held, or not, as before leaves what the allocation reads (R84). -/
theorem Group.loading_authority (q : Group) (a : Authority) (h : a.isHeld = q.authority.isHeld) (o : Option GroupOrder) (w : Option Addr) :
    ({ q with authority := a, order := o, watcher := w } : Group).loading = q.loading := by
  simp only [Group.loading, Group.available, Group.fixedLoad, h]
  rfl

theorem State.sameLoads_endOrder (s : State) (g : Fin 8) : s.SameLoads (s.endOrder g) :=
  State.sameLoads_modGroup ((s.group g).loading_authority _ (Authority.isHeld_fromPending _) none _)

theorem State.Shared.probeNext {g : Fin 8} {next : Byte} {src : Addr} {r : ProbeResult} (h : s.Shared) (hactive : s.active = true)
    (hu : s.probeNext g next src = some (u, r)) : u.Shared := by
  unfold State.probeNext at hu
  split_ifs at hu
  · cases hu
    exact h
  · have hwatch := Option.some.inj hu
    unfold State.probeWatch at hwatch
    dsimp only at hwatch
    split at hwatch
    · cases hwatch
      exact h
    · split at hwatch
      · cases hwatch
        exact h
      · cases hwatch
        exact h.same (State.sameLoads_modGroup ((s.group g).loading_authority _ (Authority.isHeld_watching _).1 _ _))
  · have hunwatch := Option.some.inj hu
    unfold State.probeUnwatch at hunwatch
    split at hunwatch
    · cases hunwatch
      exact h.same (State.sameLoads_modGroup ((s.group g).loading_authority _ (Authority.isHeld_watching _).2 _ _))
    · cases hunwatch
      exact h
  · cases hu
    exact h.releaseGroup hactive g
  · have hreturn := Option.some.inj hu
    unfold State.probeReturnRemote at hreturn
    split at hreturn
    · cases hreturn
      exact h.autoclaim hactive g
    · cases hreturn
      exact h

/-! ### Capacities handed on (R119) -/

theorem State.untouched_evaluateCap (h : s.Untouched t) (g : Fin 8) : s.Untouched (t.evaluateCap g) := by
  unfold State.evaluateCap
  split
  · exact h.modGroup
  · exact h

theorem State.untouched_evaluateAll (h : s.Untouched t) : s.Untouched t.evaluateAll := by
  unfold State.evaluateAll
  generalize List.finRange 8 = l
  induction l generalizing t with
  | nil => exact h
  | cons g l ih => exact ih (State.untouched_evaluateCap h g)

/-- What is handed on runs the allocation where anything that it depends on has changed, Ic among it (R85, R119): else the state is that before
the handing on. -/
theorem State.handCapacity_cases (s before : State) (hic : s.clu.ic = before.clu.ic) (hactive : s.active = true) :
    (s.handCapacity before).Shared ∨ s.handCapacity before = s ∧ ∀ g, (s.group g).loading = (before.group g).loading := by
  rw [State.handCapacity_eq _ _ hic]
  unfold State.reallocate
  split
  · next hkey =>
    obtain ⟨x, hx⟩ := s.groupsAside_withCapacity s.stationCapacity
    have hcapacity : s.stationCapacity = s.clu.ic := (hx.ic.symm.trans (Prod.mk.inj hkey).1).trans hic.symm
    have hsame : s.withCapacity s.stationCapacity = s := if_pos hcapacity
    rw [hsame] at hkey ⊢
    exact .inr ⟨rfl, State.loading_of_key hkey⟩
  · have hworked : Works s .full (s.withCapacity s.stationCapacity) := .withCapacity .refl _ (by simp)
    exact .inl (State.shared_allocate (hworked.active.trans hactive))

theorem State.sameLoads_evaluateStage (s : State) : s.SameLoads s.evaluateStage := ⟨fun _ => rfl, fun _ => rfl, rfl⟩

theorem State.Allotted.handOn {v : State} (h : s.Allotted u) (huv : u.Undisturbed v) (hic : v.clu.ic = u.clu.ic)
    (hactive : v.active = true) : s.Allotted (v.handOn u) := by
  refine State.Allotted.same ?_ (State.sameLoads_evaluateStage _)
  rcases v.handCapacity_cases u hic hactive with hshared | ⟨heq, hloading⟩
  · exact .inl hshared
  · rw [heq]
    rcases h with h | ⟨hwanted, hig⟩
    · exact .inl (h.congr hloading huv.2 huv.1)
    · refine .inr ⟨fun g hg => (huv.1 g hg).trans (hwanted g ?_), huv.2.trans hig⟩
      exact ((Prod.mk.inj (hloading g)).1).symm.trans hg

theorem State.Shared.handOn {v : State} (h : u.Shared) (huv : u.Undisturbed v) (hic : v.clu.ic = u.clu.ic) (hactive : v.active = true) :
    (v.handOn u).Shared := by
  refine State.Shared.same ?_ (State.sameLoads_evaluateStage _)
  rcases v.handCapacity_cases u hic hactive with hshared | ⟨heq, hloading⟩
  · exact hshared
  · rw [heq]
    exact h.congr hloading huv.2 huv.1

theorem State.undisturbed_curveWorked (s : State) (g : Fin 8) : s.Undisturbed (s.curveWorked g) := by
  have hcap : s.Untouched ((s.modGroup g Group.computeCurve).evaluateCap g) := by
    refine State.untouched_evaluateCap ((State.Untouched.refl s).modGroup ?_) g
    unfold Group.computeCurve
    split <;> rfl
  unfold State.curveWorked
  dsimp only
  split_ifs
  · unfold State.startWithdrawal
    dsimp only
    split
    · refine State.Undisturbed.same ?_ (State.sameLoads_raise _ _ _ _ _)
      refine ⟨State.group_modGroup_cases (R := fun k r => r.available = true → r.wanted = (s.group k).wanted) (fun havailable => ?_)
        fun k _ _ => hcap.1 k, hcap.2⟩
      unfold Group.withdrawWanted at havailable ⊢
      split at havailable
      · simp [Group.available] at havailable
      · simp [Group.available] at havailable
    · exact hcap.undisturbed
  · exact State.Untouched.undisturbed hcap.modGroup
  · exact hcap.undisturbed

theorem State.Allotted.curveComputation (h : s.Allotted t) (hactive : t.active = true) (g : Fin 8) : s.Allotted (t.curveComputation g) :=
  h.handOn (t.undisturbed_curveWorked g) (t.curveWorked_ic g)
    ((Works.active (d := .full) (Works.curveWorked .refl g (by simp))).trans hactive)

theorem State.evaluateCap_active (s : State) (g : Fin 8) : (s.evaluateCap g).active = s.active :=
  Works.active (d := .full) (Works.evaluateCap .refl g (by simp))

theorem State.Allotted.basicComputation (h : s.Allotted t) (hactive : t.active = true) (g : Fin 8) : s.Allotted (t.basicComputation g) :=
  h.handOn (State.untouched_evaluateCap (State.Untouched.refl t).modGroup g).undisturbed
    (congrArg Clu.ic (State.evaluateCap_clu _ g)) ((State.evaluateCap_active _ g).trans hactive)

theorem State.sameLoads_workShortfall (s : State) : s.SameLoads s.workShortfall := (State.groupsAside_workShortfall s).stand.sameLoads

theorem State.Shared.workPercentage (h : s.Shared) (hactive : s.active = true) : s.workPercentage.Shared := by
  have hrated : s.SameLoads { s with clu := s.clu.rated } := ⟨fun _ => rfl, fun _ => rfl, rfl⟩
  have hic : (State.evaluateAll { s with clu := s.clu.rated }).clu.ic = s.clu.ic := by rw [State.evaluateAll_clu]; rfl
  have hworked : Works s .full { s with clu := s.clu.rated } := Works.update .refl
  unfold State.workPercentage
  dsimp only
  refine State.Shared.same ?_ (State.sameLoads_workShortfall _)
  split_ifs
  · exact h.same hrated
  · refine h.handOn (State.untouched_evaluateAll hrated.2).undisturbed hic ?_
    exact (hworked.evaluateAll (by simp)).active.trans hactive

/-! ### Statuses (R89) -/

/-- The handing on changes of a group's record its wanted setpoint alone, so that a FRESH group stays so (R119). -/
theorem State.group_evaluateStage (s : State) (g : Fin 8) : s.evaluateStage.group g = s.group g := rfl

theorem State.reallocate_stale (s before : State) (g : Fin 8) : ((s.reallocate before).group g).stale = (s.group g).stale := by
  unfold State.reallocate
  split
  · rfl
  · rw [State.group_allocate]

theorem State.withCapacity_stale (s : State) (c : Nat) (g : Fin 8) : ((s.withCapacity c).group g).stale = (s.group g).stale := by
  obtain ⟨x, hx⟩ := s.groupsAside_withCapacity c
  exact (congrArg Group.stale (Group.eq_of_sentForm (hx.groups g))).trans rfl

theorem State.handOn_stale (v u : State) (hic : v.clu.ic = u.clu.ic) (g : Fin 8) : ((v.handOn u).group g).stale = (v.group g).stale := by
  rw [State.handOn, State.group_evaluateStage, State.handCapacity_eq _ _ hic, State.reallocate_stale, State.withCapacity_stale]

theorem State.basicComputation_stale (s : State) (g : Fin 8) : ((s.basicComputation g).group g).stale = (s.group g).stale := by
  refine (State.handOn_stale ((s.modGroup g Group.basicPct).evaluateCap g) s (congrArg Clu.ic (State.evaluateCap_clu _ g)) g).trans ?_
  cases h : (s.modGroup g Group.basicPct).active with
  | true =>
    rw [State.group_evaluateCap h, State.group_modGroup]
    rfl
  | false =>
    rw [State.evaluateCap_of_forwardOnly h, State.group_modGroup]
    rfl

/-- A pending order confirmed of a FRESH group leaves what the allocation reads (R84, R107). -/
theorem State.sameLoads_confirmPending (s : State) (g : Fin 8) (hfresh : (s.group g).stale = .fresh) : s.SameLoads (s.confirmPending g) := by
  unfold State.confirmPending
  split
  · exact .refl s
  · refine State.SameLoads.trans (State.sameLoads_modGroup ?_) (State.groupsStand_notify _ g).sameLoads
    simp only [Group.loading, Group.available, Group.fixedLoad, hfresh, Authority.isHeld_fromPending]

theorem State.allotted_recordShort (h : s.Untouched t) (hactive : t.active = true) (g : Fin 8) (current tap : Nat)
    (hfresh : (t.group g).stale = .fresh) : s.Allotted (t.recordShort g current tap) := by
  have hrecorded : s.Untouched (t.modGroup g fun q => { q with reported := current, tap := tap, latestForm := .short }) := h.modGroup
  unfold State.recordShort
  dsimp only
  split
  · exact hrecorded.allotted.basicComputation hactive g
  · have hraised := (State.sameLoads_raise
      ((t.modGroup g fun q => { q with reported := current, tap := tap, latestForm := .short }).modGroup g fun q => { q with form := .basic })
      .groupFallback g.val current (t.group g).confirmed)
    have hfallen := (State.Untouched.trans hrecorded.modGroup hraised.2).allotted
    have hactive' := (State.active_congr (State.groupsAside_raise
      ((t.modGroup g fun q => { q with reported := current, tap := tap, latestForm := .short }).modGroup g fun q => { q with form := .basic })
      .groupFallback g.val current (t.group g).confirmed).mode).trans hactive
    refine (hfallen.basicComputation hactive' g).same (State.sameLoads_confirmPending _ g ?_)
    rw [State.basicComputation_stale, Group.eq_of_sentForm ((State.groupsAside_raise _ _ _ _ _).groups g)]
    simpa using hfresh

theorem State.allotted_recordStatus (s : State) (hactive : s.active = true) (g : Fin 8) (current tap : Nat) (full : Option FullStatus) :
    s.Allotted (s.recordStatus g current tap full) := by
  have hrefreshed : s.Untouched (s.modGroup g fun q => q.refresh s.time) := (State.Untouched.refl s).modGroup
  unfold State.recordStatus
  dsimp only
  split
  · exact hrefreshed.modGroup.allotted
  · split
    · exact hrefreshed.modGroup.allotted
    · exact State.allotted_recordShort hrefreshed hactive g current tap (by simp [Group.refresh])

theorem Group.loading_workIdle (q : Group) : q.workIdle.loading = q.loading ∧ q.workIdle.wanted = q.wanted := by
  unfold Group.workIdle
  split
  · next h =>
    refine ⟨?_, rfl⟩
    simp only [Group.loading, Group.available, Group.fixedLoad, h.1]
    rfl
  · exact ⟨rfl, rfl⟩

theorem State.Allotted.workStatusMode (h : s.Allotted t) (hactive : t.active = true) (g : Fin 8) (m : StatusMode) :
    s.Allotted (t.workStatusMode g m) := by
  unfold State.workStatusMode
  dsimp only
  refine State.Allotted.same ?_ State.sameLoads_modGroup
  split
  · exact (h.releaseGroup hactive g).same (State.sameLoads_raise _ _ _ _ _)
  · exact h

theorem State.Allotted.coolStatus (h : s.Allotted t) (hactive : t.active = true) (g : Fin 8) (wasFresh : Bool) (full : Option FullStatus) :
    s.Allotted (t.coolStatus g wasFresh full) := by
  unfold State.coolStatus
  split
  · exact h.curveComputation hactive g
  · exact h.basicComputation hactive g
  · split
    · exact h.handOn (State.untouched_evaluateCap (.refl t) g).undisturbed (congrArg Clu.ic (State.evaluateCap_clu _ g))
        ((State.evaluateCap_active _ g).trans hactive)
    · exact h

theorem State.allotted_statusWorked (s : State) (hactive : s.active = true) (g : Fin 8) (m : StatusMode) (current tap : Nat)
    (full : Option FullStatus) : s.Allotted (s.statusWorked g m current tap full) := by
  have hrecorded : Works s .full (s.recordStatus g current tap full) := Works.recordStatus .refl g current tap full trivial
  have hmode := hrecorded.workStatusMode g m trivial
  have hidle : Works s .full (((s.recordStatus g current tap full).workStatusMode g m).modGroup g Group.workIdle) :=
    .modGroup hmode g _ ((Group.moves_workIdle _).allowed (by simp))
  have hcooled := hidle.coolStatus g ((s.group g).stale == .fresh) full (by simp)
  have hworked : s.Allotted ((((s.recordStatus g current tap full).workStatusMode g m).modGroup g Group.workIdle).coolStatus g
      ((s.group g).stale == .fresh) full) := by
    refine State.Allotted.coolStatus ?_ (hidle.active.trans hactive) g _ full
    refine State.Allotted.same ?_ (State.sameLoads_modGroup (Group.loading_workIdle _).1 (Group.loading_workIdle _).2)
    exact (s.allotted_recordStatus hactive g current tap full).workStatusMode (hrecorded.active.trans hactive) g m
  unfold State.statusWorked
  dsimp only
  split
  · exact hworked.autoclaim (hcooled.active.trans hactive) g
  · exact hworked

/-! ### Trips (R69) -/

/-- Wanted setpoints of 0 share out an Ig of 0 (R69). -/
theorem State.shared_trip (s : State) : s.trip.Shared := by
  have hig : ∀ u : State, u.line.ig = 0 → (∀ g, (u.group g).available = true → (u.group g).wanted = 0) → u.Shared := by
    intro u hig hzero
    refine ⟨fun _ => ?_, fun g hg => ?_⟩
    · have hsum : (u.availableSet.map fun g => (u.group g).wanted) = u.availableSet.map fun _ => 0 :=
        List.map_congr_left fun g hg => hzero g (State.mem_availableSet.mp hg)
      rw [hsum]
      simp [State.toAllocate, hig]
    · rw [hzero g (State.mem_availableSet.mp hg)]
      exact Nat.zero_le _
  unfold State.trip
  dsimp only
  refine State.Shared.same ?_ (State.sameLoads_raise _ _ _ _ _)
  refine hig _ ?_ fun g hg => ?_
  · exact congrArg Line.ig (ordered_allocate _).kept.2.1
  · rw [State.group_zeroWanted] at hg ⊢
    split
    · rfl
    · next hheld =>
      rw [if_neg hheld] at hg
      simp [Group.available, hheld] at hg

end
end Sys2Proof.Machine
end

section
/-! SUPPORT. What the work of a command comes to (`Task`): a chain of changes, then the decision of the orders that it has made due, or a START,
RESTART, STOP, takeover or answered probe. The startup, the frames and the statuses. -/

namespace Sys2Proof.Machine

/-- The part as the takeover makes it SUPERVISING (R179). -/
def State.supervised (s : State) : State := { s with meu := { s.meu with mode := .supervising, observationEnd := none } }

/-- What the work of a command from `s` may come to. -/
inductive Task (s : State) : State → Prop
  | still {t : State} (h : Works s .still t) : Task s t
  | regulated {u : State} (h : Works s .full u) (hu : s.active = true → s.Shared → u.Shared) : Task s u.regulate
  | answered {u : State} (f : Frame) (hactive : s.active = true) (ha : s.gau.answers < Config.noticePlaces) (h : Works s .full u)
    (hu : s.Shared → u.Shared) : Task s (u.sendAnswer f).regulate
  | answeredOnly (f : Frame) (ha : s.gau.answers < Config.noticePlaces) : Task s (s.sendAnswer f)
  | halted {t : State} (h : Works s .mode t) (hmode : t.supervising = false) (hreleased : t.AllReleased) : Task s t
  | tookOver {u : State} (hs : s.meu.mode = .observing) (h : Works s.supervised .full u) (hu : s.Shared → u.Shared) : Task s u.regulate

theorem Task.refl (s : State) : Task s s := .still .refl

theorem Task.update {s u : State} (hu : s.Unread u := by rfl) : Task s u := .still (Works.unread .refl hu)

/-! ### START, RESTART and STOP (R177, R178) -/

theorem State.releaseCore_released (s : State) (g : Fin 8) : ((s.releaseCore g).group g).authority = .released := by
  unfold State.releaseCore
  split
  · rw [State.group_modGroup]
    have hstand := (State.groupsStand_notify ((s.modGroup g fun q =>
      { q with order := none, authority := .released, streak := 0 }).dropGroupFrames g) g).groups g
    refine (Group.authority_of_sentForm hstand).trans ?_
    rw [State.group_dropGroupFrames, State.group_modGroup]
  · next h => simpa [Authority.isHeld_iff] using h

theorem State.releaseCore_keeps_released (s : State) {g k : Fin 8} (h : (s.group k).authority = .released) :
    ((s.releaseCore g).group k).authority = .released := by
  by_cases hk : k = g
  · exact hk ▸ s.releaseCore_released g
  · unfold State.releaseCore
    split
    · rw [State.group_modGroup_of_ne _ _ hk]
      have hstand := (State.groupsStand_notify ((s.modGroup g fun q =>
        { q with order := none, authority := .released, streak := 0 }).dropGroupFrames g) g).groups k
      refine (Group.authority_of_sentForm hstand).trans ?_
      rw [State.group_dropGroupFrames, State.group_modGroup_of_ne _ _ hk]
      exact h
    · exact h

/-- Every group has been released (R178). -/
theorem State.releaseAll_allReleased (s : State) : s.releaseAll.AllReleased := by
  have hfold : ∀ (l : List (Fin 8)) (s : State) (k : Fin 8), k ∈ l ∨ (s.group k).authority = .released →
      ((l.foldl State.releaseCore s).group k).authority = .released := by
    intro l
    induction l with
    | nil => exact fun s k h => h.resolve_left (by simp)
    | cons g l ih =>
      intro s k h
      refine ih _ k ?_
      rcases h with h | h
      · rcases List.mem_cons.mp h with rfl | h
        · exact .inr (s.releaseCore_released k)
        · exact .inl h
      · exact .inr (s.releaseCore_keeps_released h)
  exact fun k => hfold _ s k (.inl (List.mem_finRange k))

/-- The record of a RELEASED group at START and RESTART is lawful (R113). -/
theorem Group.turns_restarted (q : Group) (now : Nat) (h : q.authority = .released) : q.Turns (q.restarted now) := by
  refine ⟨fun hq => ⟨?_, fun _ => h⟩, fun _ => h, fun _ _ => rfl⟩
  obtain ⟨horder, hwatcher, hpresent, hform⟩ := hq
  refine ⟨?_, hwatcher, hpresent, hform⟩
  simp [Group.restarted, h]

section
variable {s t : State}

theorem Works.restartGroups (h : Works s .mode t) : Works s .mode t.restartGroups :=
  .mapGroups (h.releaseAll trivial) _ fun g => (Group.turns_restarted _ _ (t.releaseAll_allReleased g)).allowed trivial

theorem Works.restartCooling (h : Works s .mode t) : Works s .mode t.restartCooling.restartLine :=
  .restartCapacity (Works.evaluateAll (.clu h t.clu.restarted.rated rfl rfl) (by simp)) _

theorem Works.restarted (h : Works s .mode t) : Works s .mode { t with tru := t.tru.restarted } := by
  refine .tariff h _ (fun hs => ?_) (List.nil_sublist _)
  obtain ⟨htags, -, -⟩ := Tru.Lawful.keepPlaces (h.cacheLaw hs) fun _ => false
  refine ⟨htags, ?_, fun e he => absurd he (by simp [Tru.restarted])⟩
  simp [Tru.fetchSlots_eq, Tru.restarted]

theorem Works.restart : Works s .mode s.restart := by
  have hpots : Works s .mode s.beginRestart.restartPots := Works.restartPots (.beginRestart .refl)
  have hblocks : Works s .mode s.beginRestart.restartPots.restartGroups.restartCooling.restartLine := hpots.restartGroups.restartCooling
  have hcleared := hblocks.restarted
  unfold State.restart
  dsimp only
  generalize s.beginRestart.restartPots.restartGroups.restartCooling.restartLine = u at hcleared ⊢
  exact Works.restartSlot hcleared

theorem State.supervising_beginRestart (s : State) : s.beginRestart.supervising = false := by
  unfold State.beginRestart State.supervising
  rw [State.settle_mode]
  rfl

/-- Once the groups are released at START and RESTART the mode is not SUPERVISING (R113, R177). -/
theorem State.restartGroups_released (s : State) (h : s.supervising = false) :
    s.restartGroups.supervising = false ∧ s.restartGroups.AllReleased := by
  have hreleased : Works s .full s.releaseAll := Works.releaseAll .refl trivial
  have hmode : s.releaseAll.supervising = s.supervising := State.supervising_congr (hreleased.mode (by simp))
  have hall := s.releaseAll_allReleased
  unfold State.restartGroups
  dsimp only
  generalize s.releaseAll = u at hmode hall ⊢
  refine ⟨hmode.trans h, fun g => ?_⟩
  rw [State.group_mapGroups]
  exact hall g

/-- After a START or RESTART the mode is not SUPERVISING, and every group is RELEASED (R113, R177). -/
theorem State.restart_released (s : State) : s.restart.supervising = false ∧ s.restart.AllReleased := by
  have hpots : Works s.beginRestart .full s.beginRestart.restartPots := Works.restartPots .refl
  have hmode : s.beginRestart.restartPots.supervising = false :=
    (State.supervising_congr (hpots.mode (by simp))).trans s.supervising_beginRestart
  obtain ⟨hgroups, hreleased⟩ := State.restartGroups_released _ hmode
  have hcooling : Works s.beginRestart.restartPots.restartGroups .mode
      s.beginRestart.restartPots.restartGroups.restartCooling.restartLine := Works.restartCooling .refl
  have hcleared := hcooling.restarted
  unfold State.restart
  dsimp only
  generalize s.beginRestart.restartPots.restartGroups.restartCooling.restartLine = u at hcleared ⊢
  generalize s.beginRestart.restartPots.restartGroups = v at hcleared hgroups hreleased
  exact (Works.restartSlot hcleared).released hgroups hreleased

theorem Works.stop : Works s .mode s.stop := by
  have hreleased : Works s .mode s.releaseAll := Works.releaseAll .refl trivial
  unfold State.stop
  dsimp only
  generalize s.releaseAll = u at hreleased ⊢
  have hstopped : Works s .mode { u with line := { u.line with player := u.line.player.stopped } } := hreleased.stopPlayer
  have hunwatched : Works s .mode { u with line := { u.line with player := u.line.player.stopped, tripWatch := none } } := hstopped.update
  exact .standDown hunwatched none

theorem Task.restart (s : State) : Task s s.restart := .halted .restart s.restart_released.1 s.restart_released.2

theorem State.stop_released (s : State) : s.stop.supervising = false ∧ s.stop.AllReleased := by
  have hall := s.releaseAll_allReleased
  unfold State.stop
  dsimp only
  generalize s.releaseAll = u at hall ⊢
  exact ⟨rfl, hall⟩

theorem Task.stop (s : State) : Task s s.stop := .halted .stop s.stop_released.1 s.stop_released.2

/-! ### The takeover (R179) -/

theorem Works.claimAll {d : Depth} (h : Works s d t) (hd : d.deep) : Works s d t.claimAll := .foldl (fun _ g h => h.autoclaim g hd) _ h

theorem Works.quenchAll {d : Depth} (h : Works s d t) : Works s d t.quenchAll := .foldl (fun _ p h => h.tryQuench p) _ h

/-- A chain of no depth keeps what the allocation reads. -/
theorem Works.sameLoads (h : Works s .still t) : s.SameLoads t := by
  obtain ⟨hgroups, hig, -⟩ := groupsKept_still.works h rfl
  have hcore : ∀ g, (t.group g).loading = (s.group g).loading ∧ (t.group g).wanted = (s.group g).wanted := fun g => by
    have hloading : ∀ q : Group, q.core.loading = q.loading ∧ q.core.wanted = q.wanted := fun q => ⟨rfl, rfl⟩
    rw [← (hloading (t.group g)).1, ← (hloading (t.group g)).2, (hgroups g).1]
    exact hloading _
  exact ⟨fun g => (hcore g).1, fun g => (hcore g).2, hig⟩

theorem State.Shared.claimAll (h : s.Shared) (hactive : s.active = true) : s.claimAll.Shared := by
  unfold State.claimAll
  generalize List.finRange 8 = l
  induction l generalizing s with
  | nil => exact h
  | cons g l ih =>
    exact ih (h.autoclaim hactive g) ((Works.active (d := .full) (Works.autoclaim .refl g trivial)).trans hactive)

theorem Task.takeOver (hs : s.meu.mode = .observing) : Task s s.takeOver := by
  have hclaimed : Works s.supervised .full s.supervised.claimAll := Works.claimAll .refl trivial
  have hquenched : Works s.supervised .full s.supervised.claimAll.quenchAll := hclaimed.quenchAll
  have hshared : s.Shared → s.supervised.claimAll.quenchAll.Shared := fun hshared => by
    have hsame : s.SameLoads s.supervised := ⟨fun _ => rfl, fun _ => rfl, rfl⟩
    have hclaims : s.supervised.claimAll.Shared := State.Shared.claimAll (hshared.same hsame) rfl
    exact hclaims.same (Works.sameLoads (Works.quenchAll .refl))
  unfold State.takeOver
  exact .tookOver hs hquenched hshared

/-! ### Answers and probes (R96 to R103) -/

theorem Task.takeGroupAnswer (s : State) (src : Addr) (seq result : Byte) (setpoint : Nat) :
    Task s (s.takeGroupAnswer src seq result setpoint) := by
  unfold State.takeGroupAnswer
  split
  · exact .update
  · next g _ =>
    dsimp only
    have hlate : Task s (s.modGroup g fun q => { q with counters.late := bump16 q.counters.late }) := .still (Works.standGroup .refl g)
    split
    · exact hlate
    · next o _ =>
      split
      · exact hlate
      · have hmatched : ∀ {d : Depth}, Works s d (if setpoint = o.setpoint then s
            else s.modGroup g fun q => { q with counters.mismatch := bump16 q.counters.mismatch }) := fun {d} => by
          split
          · exact .refl
          · exact Works.standGroup .refl g
        have huntouched := (Works.sameLoads hmatched).2
        split
        · have htaken := Works.orderTaken (d := .full) hmatched g o trivial
          exact .regulated (htaken.reallocate (by simp) _) fun hactive hshared =>
            (State.untouched_orderTaken huntouched g o).allotted.reallocate hshared (htaken.active.trans hactive)
        · split
          · have hrefused := Works.orderRefused (d := .full) hmatched g o trivial
            exact .regulated (hrefused.reallocate (by simp) _) fun hactive hshared =>
              (State.allotted_orderRefused huntouched ((Works.active (d := .full) hmatched).trans hactive) g o).reallocate hshared
                (hrefused.active.trans hactive)
          · exact .still (Works.standGroup hmatched g)

theorem Task.orderTimeout (s : State) (g : Fin 8) : Task s (s.orderTimeout g) := by
  have hended : Works s .full ((s.endOrder g).dropGroupFrames g) := .dropGroupFrames (Works.endOrder (d := .full) .refl g trivial) g
  refine .regulated (hended.standGroup g) fun _ hshared => ?_
  have hsame : s.SameLoads ((s.endOrder g).dropGroupFrames g) := s.sameLoads_endOrder g
  exact (hshared.same hsame).same State.sameLoads_modGroup

theorem Task.takeProbe (s : State) (src : Addr) (seq group data next : Byte) : Task s (s.takeProbe src seq group data next) := by
  unfold State.takeProbe
  split
  · exact .update
  · next hopen =>
    obtain ⟨hactive, hanswers⟩ := not_or.mp hopen
    have hroom : s.gau.answers < Config.noticePlaces := Nat.lt_of_not_le hanswers
    dsimp only
    split
    · split
      · split
        · next hnext =>
          have hworks := Works.probeNext (d := .full) .refl trivial hnext
          exact .answered _ (by simpa using hactive) hroom hworks fun hshared => hshared.probeNext (by simpa using hactive) hnext
        · exact .answeredOnly _ hroom
      · exact .answeredOnly _ hroom
    · exact .answeredOnly _ hroom

/-! ### Statuses, staleness and presence (R88, R89, R105, R106, R109) -/

theorem Task.workStatus (s : State) (g : Fin 8) (m : StatusMode) (current tap : Nat) (full : Option FullStatus) :
    Task s (s.workStatus g m current tap full) := by
  have hworked := Works.statusWorked (d := .full) .refl g m current tap full trivial (t := s)
  rw [State.workStatus_eq]
  exact .regulated (hworked.reallocate (by simp) _) fun hactive hshared =>
    (s.allotted_statusWorked hactive g m current tap full).reallocate hshared (hworked.active.trans hactive)

theorem Task.takeStatus (s : State) (src : Addr) (mode : Byte) (current : Half) (tap : Byte) (full : Option FullStatus) :
    Task s (s.takeStatus src mode current tap full) := by
  unfold State.takeStatus
  split
  · split
    · exact .update
    · split
      · split
        · exact Task.workStatus s _ _ _ _ _
        · exact .still (Works.standGroup .refl _)
      · exact .still (Works.standGroup .refl _)
  · exact .refl s

/-- A group's record changed with its capacity evaluated, all handed on (R88, R105, R106). -/
theorem State.allotted_handOn {f : Group → Group} (hactive : s.active = true) (g : Fin 8)
    (hf : (f (s.group g)).wanted = (s.group g).wanted) : s.Allotted (((s.modGroup g f).evaluateCap g).handOn s) :=
  (State.Untouched.refl s).allotted.handOn (State.untouched_evaluateCap ((State.Untouched.refl s).modGroup hf) g).undisturbed
    (congrArg Clu.ic (State.evaluateCap_clu _ g)) ((State.evaluateCap_active _ g).trans hactive)

theorem Works.evaluatedOn {f : Group → Group} (g : Fin 8) (hf : (s.group g).Turns (f (s.group g))) :
    Works s .full (((s.modGroup g f).evaluateCap g).handOn s) :=
  (Works.evaluateCap (.modGroup .refl g f (hf.allowed (d := .full) trivial)) g (by simp)).handOn (by simp) (congrArg Clu.ic (State.evaluateCap_clu _ g))

theorem Task.holdGroup (s : State) (g : Fin 8) : Task s (s.holdGroup g) := by
  have hworked : Works s .full (((s.modGroup g fun q => { q with stale := .holding }).evaluateCap g).handOn s) :=
    Works.evaluatedOn g (Group.Moves.turns ⟨rfl, id⟩)
  unfold State.holdGroup
  exact .regulated (hworked.reallocate (by simp) _) fun hactive hshared =>
    (State.allotted_handOn hactive g rfl).reallocate hshared (hworked.active.trans hactive)

theorem Task.silenceGroup (s : State) (g : Fin 8) : Task s (s.silenceGroup g) := by
  have hworked : Works s .full (((s.modGroup g fun q => { q with stale := .silent }).evaluateCap g).handOn s) :=
    Works.evaluatedOn g (Group.Moves.turns ⟨rfl, id⟩)
  have hallotted : s.active = true → s.Allotted (((s.modGroup g fun q => { q with stale := .silent }).evaluateCap g).handOn s) :=
    fun hactive => State.allotted_handOn hactive g rfl
  unfold State.silenceGroup
  dsimp only
  split
  · have hreleased := hworked.releaseGroup g trivial
    have hraised := Works.raise hreleased .groupSilent g.val (s.group g).confirmed 30
    exact .regulated (hraised.reallocate (by simp) _) fun hactive hshared =>
      (((hallotted hactive).releaseGroup (hworked.active.trans hactive) g).same (State.sameLoads_raise _ _ _ _ _)).reallocate hshared
        (hraised.active.trans hactive)
  · exact .regulated (hworked.reallocate (by simp) _) fun hactive hshared =>
      (hallotted hactive).reallocate hshared (hworked.active.trans hactive)

theorem Group.turns_full (q : Group) : q.Turns { q with form := .full } :=
  ⟨fun ⟨horder, hwatcher, hpresent, _⟩ => ⟨⟨horder, hwatcher, hpresent, nofun⟩, id⟩, id, id⟩

theorem Task.setFull (s : State) (g : Fin 8) : Task s (s.setFull g) := by
  have hform : Works s .full (s.modGroup g fun q => { q with form := .full }) :=
    .modGroup .refl g _ ((s.group g).turns_full.allowed trivial)
  have hworked := hform.curveComputation g (by simp)
  exact .regulated (hworked.reallocate (by simp) _) fun hactive hshared =>
    (((State.Untouched.refl s).modGroup.allotted).curveComputation hactive g).reallocate hshared (hworked.active.trans hactive)

theorem Task.changePresence (s : State) (g : Fin 8) (present : Bool)
    (hreleased : (s.group g).authority = .released ∨ present = true ∧ (s.group g).cfg.present = false) : Task s (s.changePresence g present) := by
  have hturns : (s.group g).Turns (if present then (s.group g).appear else (s.group g).vanish) := by
    split
    · exact Group.turns_appear _ fun ⟨_, _, habsent, _⟩ => hreleased.elim id fun h => habsent h.2
    · next hpresent => exact Group.turns_vanish _ (hreleased.resolve_right fun h => hpresent h.1)
  have hwanted : (if present then (s.group g).appear else (s.group g).vanish).wanted = (s.group g).wanted := by
    split <;> rfl
  have hworked : Works s .full (((s.modGroup g fun q => if present then q.appear else q.vanish).evaluateCap g).handOn s) :=
    Works.evaluatedOn g hturns
  unfold State.changePresence
  exact .regulated (hworked.reallocate (by simp) _) fun hactive hshared =>
    (State.allotted_handOn (f := fun q => if present then q.appear else q.vanish) hactive g hwanted).reallocate hshared
      (hworked.active.trans hactive)

/-! ### Stages and the cooler (R121 to R124) -/

theorem Task.workPercentage {c : Clu} (hc : s.Unread { s with clu := c }) : Task s (State.workPercentage { s with clu := c }).regulate :=
  .regulated (Works.coolerWorked .refl (by simp) hc) fun hactive hshared => by
    have hsame : s.SameLoads { s with clu := c } := ⟨fun _ => rfl, fun _ => rfl, rfl⟩
    exact (hshared.same hsame).workPercentage hactive

theorem Clu.confirm_parts (c : Clu) (now : Nat) : (c.confirm now).ic = c.ic ∧ (c.confirm now).orderFrame = c.orderFrame := by
  unfold Clu.confirm
  split_ifs <;> exact ⟨rfl, rfl⟩

theorem State.unread_clu (s : State) {c : Clu} (hic : c.ic = s.clu.ic) (hframe : c.orderFrame = s.clu.orderFrame) :
    s.Unread { s with clu := c } := by
  unfold State.Unread
  simp only [← hic, ← hframe]

theorem Task.takeCoolerStatus (s : State) (src : Addr) (running available : Byte) : Task s (s.takeCoolerStatus src running available) := by
  unfold State.takeCoolerStatus
  dsimp only
  split_ifs
  · exact .update
  · exact .update
  · exact Task.workPercentage (s.unread_clu (Clu.confirm_parts _ _).1 (Clu.confirm_parts _ _).2)
  · exact .refl s

theorem Task.changeStage (s : State) (wanted : Nat) : Task s (s.changeStage wanted) := by
  have hordered : Works s .still (State.orderStage { s with clu := { s.clu with wanted := wanted, upSince := none, downSince := none } }) :=
    Works.orderStage (Works.update .refl)
  have hordered' : Works s .full (State.orderStage { s with clu := { s.clu with wanted := wanted, upSince := none, downSince := none } }) :=
    Works.orderStage (Works.update .refl)
  unfold State.changeStage
  dsimp only
  generalize State.orderStage { s with clu := { s.clu with wanted := wanted, upSince := none, downSince := none } } = u at hordered hordered' ⊢
  refine .regulated (hordered'.workPercentage (by simp)).evaluateStage fun hactive hshared => ?_
  exact ((hshared.same hordered.sameLoads).workPercentage (hordered.active.trans hactive)).same (State.sameLoads_evaluateStage _)

theorem Task.coolerFails (s : State) : Task s s.coolerFails := by
  have hraised : Works s .still (State.raise { s with clu := { s.clu with confirmation := .failed, confirmEnd := none } }
      .coolerNoResponse 0 s.clu.wanted s.clu.running) := .raise (Works.update .refl) _ _ _ _
  have hraised' : Works s .full (State.raise { s with clu := { s.clu with confirmation := .failed, confirmEnd := none } }
      .coolerNoResponse 0 s.clu.wanted s.clu.running) := .raise (Works.update .refl) _ _ _ _
  unfold State.coolerFails
  dsimp only
  generalize State.raise { s with clu := { s.clu with confirmation := .failed, confirmEnd := none } }
    .coolerNoResponse 0 s.clu.wanted s.clu.running = u at hraised hraised' ⊢
  exact .regulated (hraised'.workPercentage (by simp)) fun hactive hshared =>
    (hshared.same hraised.sameLoads).workPercentage (hraised.active.trans hactive)

/-! ### Line samples, trips and steps (R67, R69, R93) -/

theorem Task.takeLineSample (s : State) (il vl : Nat) : Task s (s.takeLineSample il vl) := by
  unfold State.takeLineSample State.workLineSample
  dsimp only
  split
  · have hworked : Works s .full ((s.sampleStages il vl).composeStage s.sampleInterval.1).workTrim :=
      Works.workTrim (Works.composeStage (Works.sampleStages .refl il vl) _) (by simp)
    generalize ((s.sampleStages il vl).composeStage s.sampleInterval.1).workTrim = u at hworked ⊢
    exact .regulated (hworked.allocate (by simp)) fun hactive _ => State.shared_allocate (hworked.active.trans hactive)
  · exact .refl s

theorem Task.trip (s : State) : Task s s.trip.regulate := .regulated (Works.trip .refl (by simp)) fun _ _ => s.shared_trip

theorem Task.openStep (s : State) (g : Fin 8) (hlatch : (s.group g).cfg.latch ≠ 0) : Task s (s.modGroup g Group.openStep).regulate :=
  .regulated (Works.moveGroup .refl g (by simp) rfl fun _ h => absurd h hlatch) fun _ hshared => hshared.same State.sameLoads_modGroup

end
end Sys2Proof.Machine
end

section
/-! SUPPORT. What a WRITE, a command and a request come to, each a `Task`. -/

namespace Sys2Proof.Machine

section
variable {s t : State}

/-! ### WRITE (R4 to R6, R41, R66, R80, R87, R115, R120, R144, R145, R169, R172) -/

theorem Task.writePot (s : State) (index field : Nat) (values : List Byte) : Task s (s.writePot index field values).1 := by
  have hcfg : ∀ (p : Fin 384) (f : PotConfig → PotConfig), Works s .still (s.setPotCfg p f) := fun p f => Works.pot .refl p
  have hband : ∀ (p : Fin 384) (f : PotConfig → PotConfig), Works s .still (s.setPotBand p f) := fun p f => Works.pot .refl p
  refine State.indexed_keeps (Task s) (.refl s) (fun p => s.writePotField p field _) fun p => ?_
  unfold State.writePotField
  split
  case h_1 =>
    refine State.writeFlag_keeps (Task s) (.refl s) fun b => ?_
    split
    · exact .still (Works.enablePot .refl p)
    · exact .still (Works.disablePot .refl p)
  case h_8 => exact State.writeFlag_keeps (Task s) (.refl s) fun b => .still (hcfg p _)
  case h_10 => exact State.writeFlag_keeps (Task s) (.refl s) fun b => .still ((hcfg p _).tryQuench p)
  case h_3 | h_4 | h_9 => exact writeClamped_fst _ _ _ _ ▸ .still (hband p _)
  case h_12 => exact .refl s
  all_goals exact writeClamped_fst _ _ _ _ ▸ .still (hcfg p _)

theorem Task.writeSection (s : State) (index field : Nat) (values : List Byte) : Task s (s.writeSection index field values).1 := by
  refine State.indexed_keeps (Task s) (.refl s) (fun w => s.writeSectionField w field _) fun w => ?_
  unfold State.writeSectionField
  split
  case h_1 => exact State.writeFlag_keeps (Task s) (.refl s) fun _ => .update
  case h_2 => exact State.writeUpTo_keeps (Task s) (.refl s) fun _ => .update
  case h_3 =>
    split
    · exact .update
    · exact .refl s
  case h_4 => exact State.writeChoice_keeps (Task s) (.refl s) fun _ => .update
  case h_5 => exact .update
  case h_6 => exact .refl s

theorem Task.writeMap (s : State) (index : Nat) (values : List Byte) : Task s (s.writeMap index values).1 := by
  refine State.indexed_keeps (Task s) (.refl s) (fun i => s.writeMapEntry i _) fun i => ?_
  have hset : ∀ m, Task s { s with smap := { s.smap with potMap := m } } := fun m => .update
  unfold State.writeMapEntry
  dsimp only
  split
  · rw [State.wrote_fst]
    exact hset _
  · split
    · rw [State.wrote_fst]
      exact hset _
    · exact .refl s

theorem Task.writePresent (s : State) (g : Fin 8) (v : Nat) :
    Task s (s.writePresent g v).1 := by
  unfold State.writePresent
  dsimp only
  split_ifs with hv hsame hone htaken hreleased
  · exact .refl s
  · exact .refl s
  · exact .refl s
  · rw [State.wrote_fst]
    refine .changePresence s g true (.inr ⟨rfl, ?_⟩)
    cases hp : (s.group g).cfg.present
    · rfl
    · exact absurd (hp.trans (by simp [hone])) hsame
  · rw [State.wrote_fst]
    exact .changePresence s g false (.inl hreleased)
  · exact .refl s

/-- A configuration field of a group that no law reads. -/
theorem Task.groupCfg (s : State) (g : Fin 8) {f : GroupConfig → GroupConfig}
    (hf : ∀ c, (f c).present = c.present ∧ (f c).deadband = c.deadband ∧ (f c).latch = c.latch) : Task s (s.setGroupCfg g f) := by
  obtain ⟨hpresent, hdeadband, hlatch⟩ := hf (s.group g).cfg
  refine .still (Works.standGroup .refl g ?_ id fun h hzero => h (hlatch.symm.trans hzero))
  simp only [Group.core, Group.sentForm, hpresent, hdeadband]

theorem Task.writeNode (s : State) (g : Fin 8) (v : Nat) : Task s (s.writeNode g v).1 := by
  unfold State.writeNode
  dsimp only
  split_ifs
  · exact .refl s
  · rw [writeClamped_fst]
    exact .groupCfg s g fun _ => ⟨rfl, rfl, rfl⟩
  · exact .refl s

theorem Task.writeGroup (s : State) (index field : Nat) (values : List Byte) : Task s (s.writeGroup index field values).1 := by
  refine State.indexed_keeps (Task s) (.refl s) (fun g => s.writeGroupField g field _) fun g => ?_
  unfold State.writeGroupField
  split
  case h_1 => exact .writePresent s g _
  case h_2 => exact .writeNode s g _
  case h_5 => exact State.writeChoice_keeps (Task s) (.refl s) fun _ => .groupCfg s g fun _ => ⟨rfl, rfl, rfl⟩
  case h_6 =>
    refine State.writeChoice_keeps (Task s) (.refl s) fun k => .still ?_
    exact Works.standGroup (f := fun q => q.setClock k) .refl g
  case h_7 => 
    have hstands := (s.group g).stands_setLatch (clampNat 0 255 (valueOf values))
    exact .still (Works.modGroup (d := .still) .refl g (fun q => q.setLatch _) hstands)
  case h_8 =>
    rw [writeClamped_fst]
    have hcfg : Works s .full (s.setGroupCfg g fun c => { c with deadband := clampNat 1 65535 (valueOf values) }) :=
      Works.moveGroup .refl g (by simp)
    exact .regulated hcfg fun _ hshared => hshared.same State.sameLoads_modGroup
  case h_9 | h_10 => exact State.writeFlag_keeps (Task s) (.refl s) fun _ => .groupCfg s g fun _ => ⟨rfl, rfl, rfl⟩
  case h_14 => exact .refl s
  all_goals
    rw [writeClamped_fst]
    exact .groupCfg s g fun _ => ⟨rfl, rfl, rfl⟩

theorem Task.writeCurve (s : State) (index field : Nat) (values : List Byte) : Task s (s.writeCurve index field values).1 := by
  have hput : ∀ g curve, Task s (s.putCurve g field values curve).1 := fun g curve => by
    unfold State.putCurve
    split
    · exact .still (Works.standGroup (f := fun q => { q with curve := curve }) .refl g)
    · exact .refl s
  refine State.indexed_keeps (Task s) (.refl s)
    (fun g => if field ≤ 8 then s.writeCurveAt g field values else s.refuse .badIndex) fun g => ?_
  unfold State.writeCurveAt
  dsimp only
  split_ifs
  · exact hput _ _
  · exact .refl s
  · exact hput _ _
  · exact .refl s

theorem Task.writeStage (s : State) (index field : Nat) (values : List Byte) : Task s (s.writeStage index field values).1 := by
  have hthreshold : ∀ k v f, Task s (s.writeThreshold k v f).1 := fun k v f => by
    unfold State.writeThreshold
    dsimp only
    split
    · exact .still (Works.evaluateStage (.update .refl))
    · exact .refl s
  refine State.needing_keeps (Task s) (.refl s) ?_
  split
  · unfold State.writeStageField
    split
    · exact hthreshold _ _ _
    · exact hthreshold _ _ _
    · rw [writeClamped_fst]
      exact .workPercentage (s.unread_clu rfl rfl)
    · exact .refl s
  · exact .refl s

theorem Task.writeProfileStep (s : State) (index field : Nat) (values : List Byte) : Task s (s.writeProfileStep index field values).1 := by
  have hset : ∀ v, Task s { s with line.steps := v } := fun v => .update
  refine State.indexed_keeps (Task s) (.refl s) (fun k => s.writeStepField k field _) fun k => ?_
  unfold State.writeStepField
  split
  · exact hset _
  · exact hset _
  · exact State.writeUpTo_keeps (Task s) (.refl s) fun _ => hset _
  · exact State.writeFlag_keeps (Task s) (.refl s) fun _ => hset _
  · exact .refl s

theorem Task.writeProfile (s : State) (index field : Nat) (values : List Byte) : Task s (s.writeProfile index field values).1 := by
  have hset : ∀ v, Task s { s with line.profiles := v } := fun v => .update
  refine State.indexed_keeps (Task s) (.refl s) (fun n => s.writeProfileField n field _) fun n => ?_
  unfold State.writeProfileField
  split
  · exact hset _
  · exact State.writeChoice_keeps (Task s) (.refl s) fun _ => hset _
  · exact .refl s

theorem Task.writeTariffWindow (s : State) (index field : Nat) (values : List Byte) : Task s (s.writeTariffWindow index field values).1 := by
  have hset : ∀ v, Task s { s with tru.written.windows := v } := fun v => .update
  refine State.indexed_keeps (Task s) (.refl s) (fun w => s.writeWindowField w field _) fun w => ?_
  unfold State.writeWindowField
  split
  case h_1 | h_9 => exact State.writeFlag_keeps (Task s) (.refl s) fun _ => hset _
  case h_2 | h_5 | h_8 => exact State.writeUpTo_keeps (Task s) (.refl s) fun _ => hset _
  case h_3 =>
    split
    · exact hset _
    · exact .refl s
  case h_4 => exact State.writeChoice_keeps (Task s) (.refl s) fun _ => hset _
  case h_10 => exact .refl s
  all_goals exact hset _

theorem Task.writeTariffDefault (s : State) (index field : Nat) (values : List Byte) :
    Task s (s.writeTariffDefault index field values).1 := by
  refine State.needing_keeps (Task s) (.refl s) ?_
  split
  · unfold State.writeDefaultField
    split
    · exact .update
    · exact .update
    · exact State.writeUpTo_keeps (Task s) (.refl s) fun _ => .update
    · exact .refl s
  · exact .refl s

theorem holdLaw_workAeHold (s : State) : holdLaw s.workAeHold := rfl

theorem Task.writeLine (s : State) (field : Nat) (values : List Byte) : Task s (s.writeLine field values).1 := by
  have hvoltage : ∀ lo hi v f, (∀ c : AeConfig, (f c).holdLimit = c.holdLimit) → Task s (s.writeVoltage lo hi v f).1 := fun lo hi v f hf => by
    unfold State.writeVoltage
    split
    · rw [State.wrote_fst]
      refine .update ?_
      have hlimit := hf s.line.ae
      generalize f s.line.ae = c at hlimit
      unfold State.Unread
      simp only [← hlimit]
    · exact .refl s
  refine State.needing_keeps (Task s) (.refl s) ?_
  unfold State.writeLineField
  split
  case h_9 => exact .still (.heat .refl { s.line with cfg := { s.line.cfg with hl := _ } } ⟨id, id, id⟩ fun _ => rfl)
  case h_11 | h_12 | h_13 => exact hvoltage _ _ _ _ fun _ => rfl
  case h_17 =>
    exact .still (.line .refl { s.line with ae := { s.line.ae with holdLimit := _ }, aeHold := decide (_ ≤ s.aeu.count) }
      ⟨id, id, fun _ => rfl⟩ id fun _ => rfl)
  case h_19 => exact State.writeFlag_keeps (Task s) (.refl s) fun _ => .update
  case h_20 => exact .refl s
  all_goals exact .update

theorem Task.writeEvents (s : State) (index : Nat) (values : List Byte) : Task s (s.writeEvents index values).1 := by
  refine State.needing_keeps (Task s) (.refl s) ?_
  split
  · split
    · exact State.writeFlag_keeps (Task s) (.refl s) fun _ => .update
    · exact .refl s
  · exact .refl s

/-- A WRITE of one of the four node addresses: 0xFFFF is refused (R169). -/
theorem Task.writeAddress (s : State) (index : Nat) (values : List Byte) {f : Addr → State}
    (hf : ∀ a : Addr, a ≠ Config.broadcast → Task s (f a)) : Task s (s.writeAddress index values f).1 := by
  unfold State.writeAddress
  refine State.needing_keeps (Task s) (.refl s) ?_
  dsimp only
  split
  · split
    · exact .refl s
    · next hgood =>
      have hv : valueOf values < 65535 := Nat.lt_of_not_le fun h => hgood (.inl h)
      refine hf _ fun hbroadcast => ?_
      have hnat := congrArg BitVec.toNat hbroadcast
      have hcast : (Config.broadcast).toNat = 65535 := rfl
      rw [hcast, BitVec.toNat_ofNat, Nat.mod_eq_of_lt (by omega)] at hnat
      omega
  · exact .refl s

theorem Task.writeObject (s : State) (o : Object) (index field : Nat) (values : List Byte) :
    Task s (s.writeObject o index field values).1 := by
  cases o with
  | pot => exact .writePot s index field values
  | map => exact .writeMap s index values
  | sectionWindow => exact .writeSection s index field values
  | group => exact .writeGroup s index field values
  | curve => exact .writeCurve s index field values
  | stage => exact .writeStage s index field values
  | profileStep => exact .writeProfileStep s index field values
  | profile => exact .writeProfile s index field values
  | tariffWindow => exact .writeTariffWindow s index field values
  | tariffDefault => exact .writeTariffDefault s index field values
  | line => exact .writeLine s field values
  | mgmtAddress => exact .writeAddress s index values fun _ _ => .update
  | supervisorAddress => exact .writeAddress s index values fun a ha => .still (.address .refl a s.meu.server s.meu.cooler fun _ h h' => ⟨ha, h, h'⟩)
  | serverAddress => exact .writeAddress s index values fun a ha => .still (.address .refl s.meu.supervisor a s.meu.cooler fun h _ h' => ⟨h, ha, h'⟩)
  | coolerAddress => exact .writeAddress s index values fun a ha => .still (.address .refl s.meu.supervisor s.meu.server a fun h h' _ => ⟨h, h', ha⟩)
  | events => exact .writeEvents s index values
  | energyRecord | aeLog | trace | errorLog | counters => exact .refl s

/-! ### Commands (R70, R81, R91, R103, R109, R139, R155, R170, R172, R177, R178) -/

theorem Task.commandClaim (s : State) (arg : Nat) : Task s (s.commandClaim arg).1 := by
  refine State.onGroup_keeps (Task s) (.refl s) fun g => ?_
  split
  · next hg =>
    have hactive : s.active = true := by
      simp only [State.claimable, Bool.and_eq_true] at hg
      have hmode : s.meu.mode = .supervising := by simpa [State.supervising] using hg.2
      simp [State.active_iff, hmode]
    rw [State.done_fst]
    exact .regulated (Works.claimGroup .refl g trivial hg) fun _ _ => State.shared_claimGroup hactive g
  · exact .refl s

theorem Task.commandRelease (s : State) (arg : Nat) : Task s (s.commandRelease arg).1 := by
  refine State.onGroup_keeps (Task s) (.refl s) fun g => ?_
  dsimp only
  split
  · have hreleased : Works s .full (s.releaseGroup g) := Works.releaseGroup .refl g trivial
    have htask : Task s (s.releaseGroup g).regulate := .regulated hreleased fun hactive hshared => hshared.releaseGroup hactive g
    dsimp only
    exact htask
  · exact .refl s

theorem Task.commandSetFull (s : State) (arg : Nat) : Task s (s.commandSetFull arg).1 := by
  refine State.onGroup_keeps (Task s) (.refl s) fun g => ?_
  dsimp only
  split
  · split
    · exact .refl s
    · split
      · rw [State.done_fst]
        exact .setFull s g
      · exact .refl s
  · exact .refl s

theorem Task.commandPlay (s : State) (arg : Nat) : Task s (s.commandPlay arg).1 := by
  refine State.onGroup_keeps (Task s) (.refl s) fun n => ?_
  split
  · exact .refl s
  · exact .still (Works.startProfile .refl n)

theorem Task.player (p : Player) (hp : playerLaw s → playerLaw { s with line.player := p }) : Task s { s with line.player := p } :=
  .still (.line .refl { s.line with player := p } ⟨id, hp, id⟩ id fun _ => rfl)

theorem Task.commandHold (s : State) : Task s s.commandHold.1 := by
  unfold State.commandHold
  split
  · next hplaying =>
    refine .player _ fun ⟨_, h, _⟩ => ?_
    obtain ⟨hprofile, hend, -⟩ := h hplaying
    refine ⟨nofun, nofun, fun _ => ⟨hprofile, ?_, rfl⟩⟩
    simpa [Player.hold] using hend
  · exact .refl s

theorem Task.commandResume (s : State) : Task s s.commandResume.1 := by
  unfold State.commandResume
  split
  · next hheld =>
    refine .player _ fun ⟨_, _, h⟩ => ?_
    obtain ⟨hprofile, hremaining, -⟩ := h hheld
    refine ⟨nofun, fun _ => ⟨hprofile, ?_, rfl⟩, nofun⟩
    simpa [Player.resume] using hremaining
  · exact .refl s

theorem Task.commandLineRestart (s : State) : Task s s.commandLineRestart.1 := by
  unfold State.commandLineRestart
  split
  · have hline : Works s .full { s with line := s.line.restarted s.clu.ic } := Works.restartedLine .refl (by simp)
    rw [State.done_fst]
    exact .regulated (hline.allocate (by simp)) fun hactive _ => State.shared_allocate hactive
  · exact .refl s

theorem Task.command (s : State) (c : Command) (arg : Nat) : Task s (s.command c arg).1 := by
  cases c with
  | start =>
    show Task s s.commandStart.1
    unfold State.commandStart
    split
    · exact .refl s
    · rw [State.done_fst]
      exact .restart s
  | stop =>
    show Task s s.commandStop.1
    unfold State.commandStop
    split
    · rw [State.done_fst]
      exact .stop s
    · exact .refl s
  | restart =>
    show Task s s.commandRestart.1
    unfold State.commandRestart
    rw [State.done_fst]
    exact .restart s
  | claim => exact .commandClaim s arg
  | release => exact .commandRelease s arg
  | setFull => exact .commandSetFull s arg
  | profilePlay => exact .commandPlay s arg
  | profileHold => exact .commandHold s
  | profileResume => exact .commandResume s
  | profileStop =>
    show Task s s.commandStopProfile.1
    unfold State.commandStopProfile
    split
    · exact .refl s
    · exact .player _ fun _ => playerLaw_stopped s s.line.player
  | lineRestart => exact .commandLineRestart s
  | cacheInvalidate => exact .update
  | energyRelease =>
    refine .still (.energy .refl (s.egu.release arg) ?_)
    have hlength : (s.egu.release arg).queue.length ≤ s.egu.queue.length := (List.drop_sublist arg _).length_le
    omega
  | clearError => exact .update
  | ackEvents =>
    show Task s (s.commandAck arg).1
    unfold State.commandAck
    split
    · exact .update
    · exact .refl s

/-! ### Requests (R167, R169) -/

theorem Task.workRequest (s : State) (r : Request) : Task s (s.workRequest r).1 := by
  unfold State.workRequest
  split
  · exact .refl s
  · split
    · exact .refl s
    · exact .command s _ _
  · split
    · exact .refl s
    · rw [State.readObject_fst]
      exact .refl s
  · split
    · exact .refl s
    · split
      · exact .refl s
      · exact .writeObject s _ _ _ _

theorem Task.deny (s : State) (src : Addr) : Task s (s.deny src).1 := .update

end
end Sys2Proof.Machine
end

section
/-! SUPPORT. What every row and every step comes to (`Row`): changes of no depth, then the task of a frame, a command or an expiry, and the
reply to a request; or the power-on state. -/

namespace Sys2Proof.Machine

/-- What a row may come to on a state `s`. -/
inductive Row (s : State) : State → Prop
  | task {u t : State} (hu : Works s .still u) (h : Task u t) : Row s t
  | replied {u t : State} (f : Frame) (hu : Works s .still u) (hroom : u.meu.sendList.length < Config.replyPlaces) (h : Task u t) :
    Row s (t.sendReply f)
  | released (straps : Byte) : Row s { State.powerOn straps with pending := s.pending }

section
variable {s t : State}

theorem Task.row (h : Task s t) : Row s t := .task .refl h

theorem Works.row (h : Works s .still t) : Row s t := .task h (.refl t)

theorem Row.update (hu : s.Unread t := by rfl) : Row s t := Works.row (.unread .refl hu)

/-! ### Frames and requests (R158, R159, R167) -/

/-- A request that is taken is counted, worked or denied, and answered; the other is counted (R167, R169). -/
theorem Row.answerRequest {work : State → Worked} (hwork : ∀ t, Task t (work t).1) (hu : Works s .still t) (src : Addr) (seq : Byte) :
    Row s (t.answerRequest src seq work) := by
  unfold State.answerRequest
  split
  · exact (Works.update hu).row
  · next hroom =>
    have htaken : Works s .still { t with meu.requestsTaken := bump32 t.meu.requestsTaken } := hu.update
    refine .replied _ htaken (Nat.lt_of_not_le hroom) ?_
    split
    · exact hwork _
    · exact Task.deny _ src

theorem Works.passOn (h : Works s .still t) (f : Frame) : Works s .still (t.passOn f) := by
  unfold State.passOn
  split
  · exact h
  · exact .forward h f

theorem Row.arrive {work : State → State} (hwork : ∀ u, Works s .still u → Row s (work u)) (f : Frame) : Row s (s.arrive f work) := by
  have hpassed : Works s .still (s.passOn f) := Works.passOn .refl f
  unfold State.arrive
  split
  · exact .update
  · split
    · exact .update
    · unfold State.distribute
      dsimp only
      split
      · split
        · exact (Works.update hpassed).row
        · exact hpassed.row
      · split
        · split
          · exact (Works.update hpassed).row
          · exact hwork _ hpassed
        · exact hpassed.row

theorem Row.handOver (hu : Works s .still t) (f : Frame) : Row s (t.handOver f) := by
  unfold State.handOver
  split
  · exact hu.row
  · next k _ =>
    unfold State.deliver
    dsimp only
    split
    · exact .task hu (.still (Works.takePotSample .refl _ _))
    · exact .task hu (.takeLineSample _ _ _)
    · exact .task hu (.still (Works.takeMark .refl _ _))
    · exact .task hu (.takeStatus _ _ _ _ _ _)
    · exact .task hu (.takeStatus _ _ _ _ _ _)
    · exact .task hu (.takeGroupAnswer _ _ _ _ _)
    · exact .task hu (.takeProbe _ _ _ _ _ _)
    · exact .task hu (.still (Works.takePotAnswer .refl _ _ _ _))
    · exact .task hu (.takeCoolerStatus _ _ _ _)
    · exact .task hu (.still (Works.takeCalendarEntry .refl _ _))
    · exact Row.answerRequest (fun t => .workRequest t _) hu f.src f.seq

theorem Row.receiveBytes (s : State) (bytes : List Byte) : Row s (s.receiveBytes bytes) := by
  unfold State.receiveBytes
  split
  · exact .update
  · exact .update
  · exact .arrive (fun _ hu => .handOver hu _) _

theorem Row.onRing {work : State → State} (bytes : List Byte) (h : Row s (work s)) : Row s (s.onRing bytes work) := by
  unfold State.onRing
  split
  · exact .update
  · exact h

theorem Row.frameRow {work : State → State} (hwork : ∀ u, Works s .still u → Row s (work u)) (f : Frame) : Row s (s.frameRow f work) :=
  .onRing _ (.arrive hwork f)

theorem Row.requestRow {work : State → Worked} (hwork : ∀ t, Task t (work t).1) (h : Header) (payload : List Byte) :
    Row s (s.requestRow h payload work) :=
  .frameRow (fun _ hu => .answerRequest hwork hu h.src h.seq) _

/-! ### Expiries and the passing of time -/

/-- An expiry, where it is due, comes to its effect. -/
theorem row_expire {due : Bool} {effect : State} (h : due = true → Task s effect) : ∃ t, s.expire due effect = .next t ∧ Row s t := by
  refine ⟨_, rfl, ?_⟩
  split
  · next hdue => exact (h hdue.2).row
  · exact (Task.refl s).row

theorem State.suspect_of_qualificationDue {p : Fin 384} (h : s.qualificationDue p = true) : (s.pot p).ae = .suspect := by
  simp only [State.qualificationDue, Bool.and_eq_true, beq_iff_eq] at h
  exact h.1.2

theorem State.latch_of_stepTimerDue {g : Fin 8} (h : s.stepTimerDue g = true) : (s.group g).cfg.latch ≠ 0 := by
  simp only [State.stepTimerDue, Bool.and_eq_true, decide_eq_true_eq] at h
  exact h.1

theorem State.observing_of_takeoverDue (h : s.takeoverDue = true) : s.meu.mode = .observing := by
  simp only [State.takeoverDue, Bool.and_eq_true, beq_iff_eq] at h
  exact h.1

/-- One millisecond passes (R93, R126). -/
theorem Works.tick : Works s .still s.tick := by
  have hcounted : Works s .still { s with gau.groups := s.gau.groups.map fun q => q.countDown (s.time + 1) } := by
    refine .mapGroups .refl _ fun g => ?_
    unfold Group.countDown
    split
    · exact ⟨rfl, id, id⟩
    · exact ⟨rfl, id, id⟩
  exact hcounted.update

/-- Every command comes to a row's work. -/
theorem exec_row (s : State) (i : Instr) : ∃ t, exec i s = .next t ∧ Row s t := by
  have hframe : ∀ {f : Frame} {work : State → State}, (∀ u, Task u (work u)) → Row s (s.frameRow f work) :=
    fun hwork => .frameRow (fun u hu => .task hu (hwork u)) _
  have hcommand : ∀ {hd : Header} {payload : List Byte} (c : Command) (arg : Nat),
      Row s (s.requestRow hd payload fun t => t.command c arg) := fun c arg => .requestRow (fun t => .command t c arg) _ _
  have hwrite : ∀ {hd : Header} {payload : List Byte} (o : Object) (index field : Nat) (values : List Byte),
      Row s (s.requestRow hd payload fun t => t.writeObject o index field values) := fun o index field values =>
    .requestRow (fun t => .writeObject t o index field values) _ _
  cases i with
  | resetLow => exact ⟨_, rfl, .update⟩
  | resetRelease straps =>
    refine ⟨_, rfl, ?_⟩
    split
    · exact .released straps
    · exact .update
  | frameRejected bytes => exact ⟨_, rfl, .onRing bytes (.receiveBytes s bytes)⟩
  | framePassing f | unknownKind f => exact ⟨_, rfl, .frameRow (fun _ hu => .handOver hu f) f⟩
  | potSample => exact ⟨_, rfl, hframe fun _ => .still (Works.takePotSample .refl _ _)⟩
  | lineSample => exact ⟨_, rfl, hframe fun t => .takeLineSample t _ _⟩
  | timeMark => exact ⟨_, rfl, hframe fun _ => .still (Works.takeMark .refl _ _)⟩
  | groupStatusFull | groupStatusShort => exact ⟨_, rfl, hframe fun t => .takeStatus t _ _ _ _ _⟩
  | groupAnswer => exact ⟨_, rfl, hframe fun t => .takeGroupAnswer t _ _ _ _⟩
  | groupProbe | watch | unwatch | takeLocal | returnRemote => exact ⟨_, rfl, hframe fun t => .takeProbe t _ _ _ _ _⟩
  | potAnswer => exact ⟨_, rfl, hframe fun _ => .still (Works.takePotAnswer .refl _ _ _ _)⟩
  | coolerStatus => exact ⟨_, rfl, hframe fun t => .takeCoolerStatus t _ _ _⟩
  | calendarEntry => exact ⟨_, rfl, hframe fun _ => .still (Works.takeCalendarEntry .refl _ _)⟩
  | ringOutSend =>
    refine ⟨_, rfl, ?_⟩
    split
    · exact .update
    · exact Works.row (.sendNext .refl)
  | deferralTimerExpiry => exact row_expire fun _ => .still (.deferralExpires .refl)
  | potLost p => exact row_expire fun _ => .still (Works.losePot .refl p)
  | inhibitEnd p => exact row_expire fun _ => .still (Works.pot .refl p)
  | adviceExpiry p => exact row_expire fun _ => .still (Works.update (Works.clearAdvice .refl p))
  | qualificationEnd p => exact row_expire fun hdue => .still (Works.potEnded .refl p (.inl (.inr (State.suspect_of_qualificationDue hdue))))
  | quenchDue p => exact row_expire fun _ => .still (Works.decideQuench .refl p)
  | quenchTimeout p => exact row_expire fun _ => .still (Works.quenchExpires .refl p)
  | clearEnd p => exact row_expire fun _ => .still (Works.effectEnds .refl p)
  | lineTrip => exact row_expire fun _ => .trip s
  | stepEnd => exact row_expire fun _ => .still (Works.runOut .refl)
  | stepTimer g => exact row_expire fun hdue => .openStep s g (State.latch_of_stepTimerDue hdue)
  | groupOrderTimeout g => exact row_expire fun _ => .orderTimeout s g
  | groupHolding g => exact row_expire fun _ => .holdGroup s g
  | groupSilent g => exact row_expire fun _ => .silenceGroup s g
  | stageUp | stageDown => exact row_expire fun _ => .changeStage s _
  | coolerNoResponse => exact row_expire fun _ => .coolerFails s
  | slotEnd => exact row_expire fun _ => .still (Works.endSlot .refl)
  | prefetch => exact row_expire fun _ => .still (Works.makePrefetch .refl)
  | fetchTimeout k => exact row_expire fun _ => .still (Works.fetchExpires .refl k)
  | takeover => exact row_expire fun hdue => .takeOver (State.observing_of_takeoverDue hdue)
  | stationDayEnd => exact row_expire fun _ => .update
  | start => exact ⟨_, rfl, hcommand .start 0⟩
  | restart => exact ⟨_, rfl, hcommand .restart 0⟩
  | stop => exact ⟨_, rfl, hcommand .stop 0⟩
  | claim _ arg => exact ⟨_, rfl, hcommand .claim arg.toNat⟩
  | release _ arg => exact ⟨_, rfl, hcommand .release arg.toNat⟩
  | setFull _ arg => exact ⟨_, rfl, hcommand .setFull arg.toNat⟩
  | profilePlay _ arg => exact ⟨_, rfl, hcommand .profilePlay arg.toNat⟩
  | profileHold => exact ⟨_, rfl, hcommand .profileHold 0⟩
  | profileResume => exact ⟨_, rfl, hcommand .profileResume 0⟩
  | profileStop => exact ⟨_, rfl, hcommand .profileStop 0⟩
  | lineRestart => exact ⟨_, rfl, hcommand .lineRestart 0⟩
  | cacheInvalidate => exact ⟨_, rfl, hcommand .cacheInvalidate 0⟩
  | energyRelease _ arg => exact ⟨_, rfl, hcommand .energyRelease arg.toNat⟩
  | clearError => exact ⟨_, rfl, hcommand .clearError 0⟩
  | ackEvents _ arg => exact ⟨_, rfl, hcommand .ackEvents arg.toNat⟩
  | mgmtWrite => exact ⟨_, rfl, .requestRow (fun t => .workRequest t _) _ _⟩
  | potWrite | potEnable | potDisable | automaticQuenchWrite => exact ⟨_, rfl, hwrite .pot _ _ _⟩
  | hlWrite | aeHoldLimitWrite => exact ⟨_, rfl, hwrite .line 0 _ _⟩
  | groupPresentWrite | nodeAddressWrite | stepLatchWrite | stepClockWrite => exact ⟨_, rfl, hwrite .group _ _ _⟩
  | stageWrite => exact ⟨_, rfl, hwrite .stage _ _ _⟩
  | eventsWrite => exact ⟨_, rfl, hwrite .events _ 0 _⟩
  | mgmtAddressWrite => exact ⟨_, rfl, hwrite .mgmtAddress _ 0 _⟩

/-- The state on which a step works: the command at the front has left the queue. -/
def State.popped (s : State) : State := { s with pending := s.pending.tail }

/-- Every step comes to a row's work on the state without the command that it takes. -/
theorem step_row (s : State) : ∃ t, step s = .next t ∧ Row s.popped t := by
  unfold Machine.step
  split
  · next hempty =>
    have htail : s.pending.tail = s.pending := by simp [hempty]
    have hsame : s.popped = s := by
      unfold State.popped
      rw [htail]
    rw [hsame]
    unfold State.idle
    split
    · exact ⟨s, rfl, .update⟩
    · split
      · next i _ => exact exec_row s i
      · exact ⟨s.tick, rfl, Works.tick.row⟩
  · next i rest hfull =>
    have hpopped : s.popped = { s with pending := rest } := by simp [State.popped, hfull]
    rw [hpopped]
    exact exec_row _ i

end
end Sys2Proof.Machine
end

section
/-! SUPPORT. A law that every chain of changes keeps, and each answer and reply, every step keeps (`RowKept`). -/

namespace Sys2Proof.Machine

/-! ### What a task leaves of the waiting commands and replies -/

/-- From `s` to `t` the queue of commands and the part's address stand, and no reply has come to wait. -/
def State.Framed (s t : State) : Prop :=
  t.pending = s.pending ∧ t.address = s.address ∧ t.meu.sendList.length ≤ s.meu.sendList.length

section
variable {s t u : State}

theorem State.Framed.refl (s : State) : s.Framed s := ⟨rfl, rfl, le_rfl⟩

theorem State.Framed.trans (h : s.Framed t) (h' : t.Framed u) : s.Framed u :=
  ⟨h'.1.trans h.1, h'.2.1.trans h.2.1, h'.2.2.trans h.2.2⟩

theorem State.Framed.settle (h : s.Framed t) : s.Framed t.settle :=
  h.trans ⟨t.settle_pending, t.settle_address, t.settle_drained.meu.length_le⟩

theorem Works.framed {d : Depth} (h : Works s d t) : s.Framed t := ⟨h.outlined.pending, h.outlined.address, h.outlined.replies⟩

theorem State.framed_sendAnswer (s : State) (f : Frame) : s.Framed (s.sendAnswer f) := by
  unfold State.sendAnswer
  dsimp only
  split
  · exact State.Framed.settle ⟨rfl, rfl, le_rfl⟩
  · exact .refl s

theorem State.framed_regulate (s : State) : s.Framed s.regulate := (Works.regulate (d := .full) .refl trivial).framed

theorem Task.framed (h : Task s t) : s.Framed t := by
  cases h with
  | still h => exact h.framed
  | regulated h _ => exact h.framed.trans (State.framed_regulate _)
  | answered f _ _ h _ => exact (h.framed.trans (State.framed_sendAnswer _ f)).trans (State.framed_regulate _)
  | answeredOnly f _ => exact s.framed_sendAnswer f
  | halted h _ _ => exact h.framed
  | tookOver _ h _ =>
    have hsupervised : s.Framed s.supervised := ⟨rfl, rfl, le_rfl⟩
    exact (hsupervised.trans h.framed).trans (State.framed_regulate _)

theorem State.sendReply_pending (s : State) (f : Frame) : (s.sendReply f).pending = s.pending := by
  unfold State.sendReply
  split
  · exact State.settle_pending _
  · rfl

/-- A row keeps the queue of waiting commands. -/
theorem Row.pending (h : Row s t) : t.pending = s.pending := by
  cases h with
  | task hu h => exact h.framed.1.trans hu.framed.1
  | replied f hu _ h => exact (State.sendReply_pending _ f).trans (h.framed.1.trans hu.framed.1)
  | released => rfl

/-- Settles O3: every command comes to a row's work (`exec_row`), and a row's work keeps the queue. -/
theorem everyCommandAnswersAndKeepsQueue : Obligations.EveryCommandAnswersAndKeepsQueue := by
  intro c s
  obtain ⟨t, hexec, hrow⟩ := exec_row s c
  exact ⟨t, hexec, hrow.pending⟩

/-! ### Laws that every step keeps -/

/-- A law that the chains, the answers and the replies keep, and the change of mode at the takeover. -/
structure RowKept (P : State → Prop) : Prop where
  works : ∀ {s t : State} {d : Depth}, Works s d t → P s → P t
  answer : ∀ (s : State) (f : Frame), s.gau.answers < Config.noticePlaces → P s → P (s.sendAnswer f)
  reply : ∀ (s : State) (f : Frame), s.meu.sendList.length < Config.replyPlaces → P s → P (s.sendReply f)
  supervised : ∀ s : State, s.meu.mode = .observing → P s → P s.supervised
  popped : ∀ s : State, P s → P s.popped
  powerOn : ∀ (straps : Byte) (q : List Instr), P { State.powerOn straps with pending := q }

section
variable {P : State → Prop} (k : RowKept P)
include k

theorem RowKept.regulate (h : P s) : P s.regulate := k.works (Works.regulate (d := .full) .refl trivial) h

theorem RowKept.task (h : Task s t) (hs : P s) : P t := by
  cases h with
  | still h => exact k.works h hs
  | regulated h _ => exact k.regulate (k.works h hs)
  | answered f _ ha h _ => exact k.regulate (k.answer _ f (h.outlined.answers.trans_lt ha) (k.works h hs))
  | answeredOnly f ha => exact k.answer s f ha hs
  | halted h _ _ => exact k.works h hs
  | tookOver hmode h _ => exact k.regulate (k.works h (k.supervised s hmode hs))

theorem RowKept.row (h : Row s t) (hs : P s) : P t := by
  cases h with
  | task hu h => exact k.task h (k.works hu hs)
  | replied f hu hroom h => exact k.reply _ f (h.framed.2.2.trans_lt hroom) (k.task h (k.works hu hs))
  | released straps => exact k.powerOn straps _

theorem RowKept.step (s t : State) (hs : P s) (hstep : step s = .next t) : P t := by
  obtain ⟨t', hnext, hrow⟩ := step_row s
  rw [hnext] at hstep
  cases hstep
  exact k.row hrow (k.popped s hs)

end

/-! ### Replies and answers -/

/-- A reply reaches MEU's send list and the insert queue alone. -/
theorem State.aside_sendReply (s : State) (f : Frame) : Aside s (s.sendReply f) := by
  unfold State.sendReply
  split
  · exact Aside.settled (.of_pots rfl rfl)
  · exact .refl s

theorem State.aside_sendAnswer (s : State) (f : Frame) : Aside s (s.sendAnswer f) := by
  unfold State.sendAnswer
  dsimp only
  split
  · exact Aside.settled (.of_pots rfl rfl)
  · exact .refl s

/-- A law of the pot, line and tariff records is kept where they stand. -/
theorem rowKept_of_aside {P : State → Prop} (haside : ∀ {s t : State}, Aside s t → P s → P t)
    (hworks : ∀ {s t : State} {d : Depth}, Works s d t → P s → P t)
    (hpower : ∀ (straps : Byte) (q : List Instr), P { State.powerOn straps with pending := q }) : RowKept P where
  works := hworks
  answer := fun s f _ => haside (s.aside_sendAnswer f)
  reply := fun s f _ => haside (s.aside_sendReply f)
  supervised := fun _ _ => haside (.of_pots rfl rfl)
  popped := fun _ => haside (.of_pots rfl rfl)
  powerOn := hpower

end
end Sys2Proof.Machine
end

section
/-! PROOFS. The laws of the records, the lists and the authority of the groups, kept by every step (O11 to O14, and parts of O9 and O15). -/

namespace Sys2Proof.Machine

/-! ### The records -/

theorem rowKept_targetLaw : RowKept targetLaw :=
  rowKept_of_aside Aside.targetLaw Works.targetLaw fun _ _ => have ⟨_, _, h, _⟩ := lawsHoldAfterPowerOn; h

theorem rowKept_playerLaw : RowKept playerLaw :=
  rowKept_of_aside Aside.playerLaw Works.playerLaw fun _ _ => have ⟨_, _, _, _, h, _⟩ := lawsHoldAfterPowerOn; h

theorem rowKept_heatLaw : RowKept heatLaw :=
  rowKept_of_aside Aside.heatLaw Works.heatLaw fun _ _ => have ⟨_, _, _, _, _, h, _⟩ := lawsHoldAfterPowerOn; h

theorem rowKept_holdLaw : RowKept holdLaw :=
  rowKept_of_aside Aside.holdLaw Works.holdLaw fun _ _ => have ⟨_, _, _, _, _, _, h, _⟩ := lawsHoldAfterPowerOn; h

theorem rowKept_logLaw : RowKept logLaw :=
  rowKept_of_aside Aside.logLaw Works.logLaw fun _ _ => have ⟨_, _, _, _, _, _, _, _, _, h, _⟩ := lawsHoldAfterPowerOn; h

theorem rowKept_cacheLaw : RowKept cacheLaw :=
  rowKept_of_aside Aside.cacheLaw Works.cacheLaw fun _ _ => have ⟨_, _, _, _, _, _, _, _, _, _, _, h, _⟩ := lawsHoldAfterPowerOn; h

/-- Settles O11: the log and the trace store agree through every change of a chain (`Works.logLaw`). -/
theorem logAndTraceAgree : Obligations.LogAndTraceAgree := rowKept_logLaw.step

/-- Settles O13: the cache and the fetches keep their law through every change of a chain (`Works.cacheLaw`). -/
theorem cacheTagsAndFetchesAreDistinct : Obligations.CacheTagsAndFetchesAreDistinct := rowKept_cacheLaw.step

/-! ### The lists -/

section
variable {s : State}

/-- A reply that is sent enters MEU's send list. -/
theorem State.sendReply_keeps {P : State → Prop} (f : Frame)
    (hsent : f.dest ≠ Config.broadcast → P (State.settle { s with meu.sendList := s.meu.sendList ++ [f] })) (hs : P s) : P (s.sendReply f) := by
  unfold State.sendReply
  split
  · next hsend => exact hsent ((sendable_iff f).mp hsend)
  · exact hs

/-- GAU's unit with an answer placed at the tail of its send list (R104). -/
def Gau.answering (u : Gau) (f : Frame) : Gau := { u.makeRoom with sendList := u.makeRoom.sendList ++ [{ tag := .answer, frame := f }] }

theorem State.sendAnswer_keeps {P : State → Prop} (f : Frame)
    (hsent : f.dest ≠ Config.broadcast → P (State.settle { s with gau := s.gau.answering f })) (hs : P s) : P (s.sendAnswer f) := by
  unfold State.sendAnswer
  dsimp only
  split
  · next hsend => exact hsent ((sendable_iff f).mp hsend)
  · exact hs

theorem rowKept_boundsLaw : RowKept boundsLaw where
  works := Works.boundsLaw
  answer := fun s f ha hs => State.sendAnswer_keeps f (fun _ => boundsLaw_settle (boundsLaw_placed hs ha _ rfl)) hs
  reply := fun s f hroom hs => by
    refine State.sendReply_keeps f (fun _ => boundsLaw_settle ?_) hs
    obtain ⟨h1, h2, h3, h4, -, hrest⟩ := hs
    exact ⟨h1, h2, h3, h4, by simpa using hroom, hrest⟩
  supervised := fun _ _ hs => hs
  popped := fun _ hs => hs
  powerOn := fun _ _ => have ⟨_, _, _, _, _, _, _, _, _, _, _, _, h, _⟩ := lawsHoldAfterPowerOn; h

theorem rowKept_addressLaw : RowKept addressLaw where
  works := Works.addressLaw
  answer := fun s f _ hs => by
    refine State.sendAnswer_keeps f (fun hf => addressLaw_settle ?_) hs
    obtain ⟨h1, h2, h3, h4, hrest⟩ := hs
    exact ⟨h1, h2, h3, mem_appended (fun i hi => h4 i (s.gau.makeRoom_sublist.subset hi)) hf, hrest⟩
  reply := fun s f _ hs => by
    refine State.sendReply_keeps f (fun hf => addressLaw_settle ?_) hs
    obtain ⟨h1, h2, hrest⟩ := hs
    exact ⟨h1, mem_appended h2 hf, hrest⟩
  supervised := fun _ _ hs => hs
  popped := fun _ hs => hs
  powerOn := fun _ _ => have ⟨_, _, _, _, _, _, _, _, _, _, _, _, _, h, _⟩ := lawsHoldAfterPowerOn; h

theorem rowKept_settled : RowKept State.Settled where
  works := Works.settled
  answer := fun s f _ hs => State.sendAnswer_keeps f (fun _ => State.settled_settle _) hs
  reply := fun s f _ hs => State.sendReply_keeps f (fun _ => State.settled_settle _) hs
  supervised := fun s hmode hs => hs.of_offers rfl fun src => by
    have hactive : s.supervised.active = s.active := by
      simp only [State.supervised, State.active, hmode]
      rfl
    cases src <;> simp only [State.offers, hactive] <;> rfl
  popped := fun _ hs => hs
  powerOn := fun _ _ => settled_reset

/-- Settles O14: every list keeps its places through each change of a chain, and no frame for 0xFFFF comes in (`Works.boundsLaw`,
`Works.addressLaw`). -/
theorem queuesStayWithinTheirPlaces : Obligations.QueuesStayWithinTheirPlaces := ⟨rowKept_boundsLaw.step, rowKept_addressLaw.step⟩

/-! ### Authority -/

/-- An answer is no order. -/
theorem State.groupLaw_sendAnswer (f : Frame) (hs : groupLaw s) : groupLaw (s.sendAnswer f) := by
  refine State.sendAnswer_keeps f (fun _ => ?_) hs
  have hplaced : s.BonesStand { s with gau := s.gau.answering f } := fun g => by
    refine ⟨congrArg (fun v : Vector Group 8 => v[g].bones) s.gau.makeRoom_groups, ?_⟩
    have hframes : (s.gau.answering f).sendList.countP (GauItem.isOrderOf g) = s.gau.makeRoom.sendList.countP (GauItem.isOrderOf g) := by
      simp [Gau.answering, GauItem.isOrderOf]
    exact hframes.le.trans s.gau.makeRoom_sublist.countP_le
  exact (GroupsAside.settle (.refl _)).bonesStand.groupLaw (hplaced.groupLaw hs)

theorem rowKept_groupLaw : RowKept groupLaw where
  works := Works.groupLaw
  answer := fun s f _ => s.groupLaw_sendAnswer f
  reply := fun s f _ hs =>
    State.sendReply_keeps f (fun _ => GroupsAside.bonesStand (GroupsAside.settle (.of_gau rfl (.refl _) rfl rfl rfl)) |>.groupLaw hs) hs
  supervised := fun _ _ hs => hs
  popped := fun _ hs => hs
  powerOn := fun _ _ => have ⟨_, _, _, _, _, _, _, _, _, _, h, _⟩ := lawsHoldAfterPowerOn; h

/-- Settles O12: authority, order and watcher agree through every change of a chain (`Works.groupLaw`), and an answer is no order. -/
theorem releasedGroupsHaveNoOrder : Obligations.ReleasedGroupsHaveNoOrder := rowKept_groupLaw.step

end
end Sys2Proof.Machine
end

section
/-! PROOFS. After each step no group order is left to decide (O15), and the law of the allocation stands (O9). -/

namespace Sys2Proof.Machine

section
variable {s t u : State}

theorem State.groupsStand_sendAnswer (s : State) (f : Frame) : GroupsStand s (s.sendAnswer f) :=
  State.sendAnswer_keeps f (fun _ => GroupsStand.of_placed (t := { s with gau := s.gau.answering f }) s.gau.makeRoom_groups rfl rfl rfl) (.refl s)

theorem State.groupsStand_sendReply (s : State) (f : Frame) : GroupsStand s (s.sendReply f) :=
  State.sendReply_keeps f (fun _ => .of_placed rfl rfl rfl rfl) (.refl s)

/-! ### Orders left to decide (R93, R94, R110) -/

/-- A part on which no group is due an order, and every latch of 0 has its step closed, is regulated. -/
theorem State.regulated_iff : s.Regulated ↔ ∀ g,
    (s.orderDue (s.group g) = false ∧ s.zeroOrderDue (s.group g) = false) ∧ (s.group g).latched := by
  unfold State.Regulated Group.latched
  simp only [and_assoc]

theorem GroupsStand.regulated (h : GroupsStand s t) (hs : s.Regulated) : t.Regulated := by
  rw [State.regulated_iff] at hs ⊢
  intro g
  obtain ⟨hdue, hlatched⟩ := hs g
  obtain ⟨horder, hzero⟩ := State.dues_congr h.mode (h.groups g)
  exact ⟨⟨horder.trans hdue.1, hzero.trans hdue.2⟩, Group.latched_of_sentForm (h.groups g) hlatched⟩

/-- Where the core of a record stands and no step has opened, no order has become due (R94, R110). -/
theorem State.not_due_of_stands {q r : Group} (hsupervising : t.supervising = s.supervising) (h : q.Stands r) (hlatched : q.latched)
    (hdue : s.orderDue q = false ∧ s.zeroOrderDue q = false) : t.orderDue r = false ∧ t.zeroOrderDue r = false := by
  obtain ⟨hcore, hstep, -⟩ := h
  simp only [Group.core, Group.mk.injEq, GroupConfig.mk.injEq] at hcore
  have hnone : r.order.isNone = q.order.isNone := by
    rw [← Option.not_isSome, ← Option.not_isSome, Group.isSome_of_sentForm (q := q) (r := r) (by simp only [hcore])]
  refine ⟨Bool.eq_false_iff.mpr fun hr => Bool.eq_false_iff.mp hdue.1 ?_, ?_⟩
  · have hopen : q.stepOpen = true := hstep (by simp only [State.orderDue, Bool.and_eq_true] at hr; exact hr.1.1.1.1.1.1.2)
    have hlatch : q.cfg.latch ≠ 0 := fun hzero => absurd (hlatched hzero) (by simp [hopen])
    simp only [State.orderDue, Group.basicRestricted, hcore, hsupervising, Bool.and_eq_true, decide_eq_true_eq] at hr ⊢
    exact ⟨⟨⟨⟨⟨⟨⟨hr.1.1.1.1.1.1.1, hopen⟩, hr.1.1.1.1.1.2⟩, hr.1.1.1.1.2⟩, hr.1.1.1.2⟩, hr.1.1.2⟩, hr.1.2⟩, hlatch⟩
  · simpa only [State.zeroOrderDue, hnone, hcore, hsupervising] using hdue.2

theorem Works.regulated (h : Works s .still t) (hs : s.Regulated) : t.Regulated := by
  rw [State.regulated_iff] at hs ⊢
  obtain ⟨hgroups, -⟩ := groupsKept_still.works h rfl
  intro g
  obtain ⟨hdue, hlatched⟩ := hs g
  exact ⟨State.not_due_of_stands (State.supervising_congr (h.mode (by simp))) (hgroups g) hlatched hdue, (hgroups g).2.2 hlatched⟩

/-- Every latch of 0 has its step closed (R93). -/
def State.Latched (s : State) : Prop := ∀ g, (s.group g).latched

/-- Once the step's orders are decided the part is regulated, its latches given. -/
theorem State.regulated_regulate (h : s.Latched) : s.regulate.Regulated :=
  State.regulated_iff.mpr fun g => ⟨s.regulate_not_due g, (Works.regulate (d := .full) .refl trivial).latched (h g)⟩

/-- Outside SUPERVISING no order is due (R91, R94). -/
theorem State.regulated_of_not_supervising (hmode : s.supervising = false) (h : s.Latched) : s.Regulated :=
  State.regulated_iff.mpr fun g => ⟨⟨by simp [State.orderDue, hmode], by simp [State.zeroOrderDue, hmode]⟩, h g⟩

theorem State.Regulated.latched (h : s.Regulated) : s.Latched := fun g => (h g).2.2

theorem GroupsStand.latched (h : GroupsStand s t) (hs : s.Latched) : t.Latched := fun g => Group.latched_of_sentForm (h.groups g) (hs g)

theorem Task.leavesRegulated (h : Task s t) (hs : s.Regulated) : t.Regulated := by
  have hlatched : s.Latched := hs.latched
  cases h with
  | still h => exact h.regulated hs
  | regulated h _ => exact State.regulated_regulate fun g => h.latched (hlatched g)
  | answered f _ _ h _ =>
    exact State.regulated_regulate ((State.groupsStand_sendAnswer _ f).latched fun g => h.latched (hlatched g))
  | answeredOnly f _ => exact (s.groupsStand_sendAnswer f).regulated hs
  | halted h hmode _ => exact State.regulated_of_not_supervising hmode fun g => h.latched (hlatched g)
  | tookOver _ h _ => exact State.regulated_regulate fun g => h.latched (hlatched g)

theorem Row.regulated (h : Row s t) (hs : s.Regulated) : t.Regulated := by
  cases h with
  | task hu h => exact h.leavesRegulated (hu.regulated hs)
  | replied f hu _ h => exact (State.groupsStand_sendReply _ f).regulated (h.leavesRegulated (hu.regulated hs))
  | released straps =>
    have ⟨_, _, _, _, _, _, _, _, _, _, _, _, _, _, _, hreset⟩ := lawsHoldAfterPowerOn
    exact hreset

/-- Settles O15: a step's chains leave nothing to admit (`Works.settled`), and its orders are decided last (`State.regulate_not_due`) or it
changes nothing that they rest on (`Works.regulated`). -/
theorem stepsLeaveNothingToAdmitOrDecide : Obligations.StepsLeaveNothingToAdmitOrDecide := by
  refine ⟨rowKept_settled.step, fun s t hs hstep => ?_⟩
  obtain ⟨t', hnext, hrow⟩ := step_row s
  rw [hnext] at hstep
  cases hstep
  exact hrow.regulated hs

/-! ### The law of the allocation (R84, R85, R178, R179) -/

theorem allocationLaw_iff : allocationLaw s ↔ (s.supervising = false → s.AllReleased) ∧ s.Shared := by
  unfold allocationLaw State.Shared State.AllReleased
  simp [State.supervising]

theorem Works.releasedLaw {d : Depth} (h : Works s d t) (hd : d ≠ .mode) (hs : s.supervising = false → s.AllReleased) :
    t.supervising = false → t.AllReleased := fun ht =>
  have hmode := (State.supervising_congr (h.mode hd)).symm.trans ht
  (h.released hmode (hs hmode)).2

theorem GroupsStand.releasedLaw (h : GroupsStand s t) (hs : s.supervising = false → s.AllReleased) :
    t.supervising = false → t.AllReleased := fun ht => (hs ((State.supervising_congr h.mode).symm.trans ht)).of_sentForm h.groups

/-- RELEASED groups are not available, so nothing is to be shared. -/
theorem State.AllReleased.shared (h : s.AllReleased) : s.Shared :=
  .of_empty fun g => by simp [Group.available, h g, Authority.isHeld]

/-- The decision of orders keeps the law of the allocation, whatever the mode. -/
theorem State.Shared.regulate_of_law (h : s.active = true → s.Shared) (hreleased : s.supervising = false → s.AllReleased) :
    s.regulate.Shared := by
  cases hactive : s.active with
  | true => exact (h hactive).regulate hactive
  | false =>
    have hmode : s.supervising = false := by
      have hforward : s.meu.mode = .forwardOnly := by simpa [State.active_iff] using Bool.eq_false_iff.mp hactive
      simp [State.supervising, hforward]
    have hregulated : Works s .full s.regulate := Works.regulate .refl trivial
    exact (hregulated.released hmode (hreleased hmode)).2.shared

theorem allocationLaw_regulate (h : s.active = true → s.Shared) (hreleased : s.supervising = false → s.AllReleased) :
    allocationLaw s.regulate := by
  have hregulated : Works s .full s.regulate := Works.regulate .refl trivial
  exact allocationLaw_iff.mpr ⟨hregulated.releasedLaw (by simp) hreleased, .regulate_of_law h hreleased⟩

theorem GroupsStand.allocationLaw (h : GroupsStand s t) (hs : allocationLaw s) : allocationLaw t := by
  obtain ⟨hreleased, hshared⟩ := allocationLaw_iff.mp hs
  exact allocationLaw_iff.mpr ⟨h.releasedLaw hreleased, hshared.same h.sameLoads⟩

theorem Works.allocationLaw (h : Works s .still t) (hs : allocationLaw s) : allocationLaw t := by
  obtain ⟨hreleased, hshared⟩ := allocationLaw_iff.mp hs
  exact allocationLaw_iff.mpr ⟨h.releasedLaw (by simp) hreleased, hshared.same h.sameLoads⟩

theorem Task.allocationLaw (h : Task s t) (hs : allocationLaw s) : allocationLaw t := by
  obtain ⟨hreleased, hshared⟩ := allocationLaw_iff.mp hs
  cases h with
  | still h => exact h.allocationLaw hs
  | @regulated u h hu =>
    exact allocationLaw_regulate (fun hactive => hu (h.active.symm.trans hactive) hshared) (h.releasedLaw (by simp) hreleased)
  | @answered u f _ _ h hu =>
    have hstand := u.groupsStand_sendAnswer f
    exact allocationLaw_regulate (fun _ => (hu hshared).same hstand.sameLoads) (hstand.releasedLaw (h.releasedLaw (by simp) hreleased))
  | answeredOnly f _ => exact (s.groupsStand_sendAnswer f).allocationLaw hs
  | halted _ _ hall => exact allocationLaw_iff.mpr ⟨fun _ => hall, hall.shared⟩
  | @tookOver u _ h hu =>
    have hmode : u.supervising = true := State.supervising_congr (h.mode (by simp))
    exact allocationLaw_regulate (fun _ => hu hshared) fun hfalse => absurd (hmode.symm.trans hfalse) (by simp)

theorem Row.allocationLaw (h : Row s t) (hs : allocationLaw s) : allocationLaw t := by
  cases h with
  | task hu h => exact h.allocationLaw (hu.allocationLaw hs)
  | replied f hu _ h => exact (State.groupsStand_sendReply _ f).allocationLaw (h.allocationLaw (hu.allocationLaw hs))
  | released straps =>
    have ⟨_, _, _, hreset, _⟩ := lawsHoldAfterPowerOn
    exact hreset

/-- Settles O9: four laws are kept by every change of a chain (`Works.targetLaw` and the like); the allocation is worked anew where a change
touches what it rests on, also after the step's orders (`State.Shared.regulate`). -/
theorem lineLawsAreKept : Obligations.LineLawsAreKept := by
  refine ⟨rowKept_targetLaw.step, rowKept_holdLaw.step, rowKept_heatLaw.step, rowKept_playerLaw.step, fun s t hs hstep => ?_⟩
  obtain ⟨t', hnext, hrow⟩ := step_row s
  rw [hnext] at hstep
  cases hstep
  exact hrow.allocationLaw hs

end
end Sys2Proof.Machine
end

section
/-! SUPPORT. Requests that the part admits, worked on a settled part: the answer as `replied` gives it. PROOFS. The commands on errors, events and
energy (O57). -/

namespace Sys2Proof.Machine

/-! ### The count of the requests taken (R167; log 46) -/

/-- The state with one request more counted as taken. -/
def State.counted (s : State) : State := { s with meu.requestsTaken := bump32 s.meu.requestsTaken }

section
variable {s t : State} {h : Header} {p : List Byte} {r : Reply} {d : Depth}

/-- A row that is admitted on `s` and worked to `t`: the part has the answer's frame placed. -/
theorem State.requestRow_replied {work : State → Worked} (ha : s.admits h p = true) (hwork : work s.counted = (t.counted, r))
    (ht : t.Settled) (haddress : t.address = s.address) : s.requestRow h p work = t.replied h r := by
  have hrow := State.requestRow_of_admits work ha
  dsimp only at hrow
  rw [show ({ s with meu.requestsTaken := bump32 s.meu.requestsTaken } : State) = s.counted from rfl, hwork, ← haddress] at hrow
  exact hrow.trans (State.sendReply_eq_replied ht h r)

/-- The same, with `t` reached by a chain of changes. -/
theorem Works.requestRow {work : State → Worked} (hst : Works s d t) (ha : s.admits h p = true) (hs : s.Settled)
    (hwork : work s.counted = (t.counted, r)) : s.requestRow h p work = t.replied h r :=
  State.requestRow_replied ha hwork (hst.settled hs) hst.outlined.address

theorem State.Unread.requestRow {work : State → Worked} (ha : s.admits h p = true) (hs : s.Settled)
    (hwork : work s.counted = (t.counted, r)) (hst : s.Unread t := by rfl) : s.requestRow h p work = t.replied h r :=
  Works.requestRow (d := .still) (.unread .refl hst) ha hs hwork

/-- A request that is refused, or changes nothing. -/
theorem State.requestRow_answered {work : State → Worked} (ha : s.admits h p = true) (hs : s.Settled)
    (hwork : work s.counted = (s.counted, r)) : s.requestRow h p work = s.replied h r :=
  State.requestRow_replied ha hwork hs rfl

/-! ### The rows of a WRITE -/

theorem exec_mgmtWrite (h : Header) (op object : Byte) (index : Half) (field : Byte) (values : List Byte) (s : State) :
    exec (.mgmtWrite h op object index field values) s = .next (s.requestRow h
      (Request.bytes { op := op, object := object, index := index, field := field, values := values })
      fun t => t.workRequest { op := op, object := object, index := index, field := field, values := values }) := rfl

/-- The MGMT_WRITE row of an object's WRITE. -/
theorem exec_writeRow {o : Object} (ho : o.readOnly = false) (h : Header) (index : Half) (field : Byte) (values : List Byte) (s : State) :
    exec (writeRow o h index field values) s
      = .next (s.requestRow h (writePayload o index field values) fun t => t.writeObject o index.toNat field.toNat values) := by
  have hwork : (fun t : State => t.workRequest { op := 2, object := o.code, index := index, field := field, values := values })
      = fun t => t.writeObject o index.toNat field.toNat values := by
    funext t
    exact (congrArg t.workRequest (requestOf_bytes _)).symm.trans (t.workRequest_writePayload ho index field values)
  exact congrArg (fun work => Host.Outcome.next (s.requestRow h (writePayload o index field values) work)) hwork

/-! ### Values of a WRITE -/

@[simp] theorem valueOf_be32 (v : Long) (rest : List Byte) : valueOf (be32 v ++ rest) = v.toNat := congrArg BitVec.toNat (longAt_be32 v rest)

theorem State.needing_be32 (s : State) (v : Long) (rest : List Byte) (w : Worked) : s.needing 4 (be32 v ++ rest) w = w := by
  simp [State.needing]

theorem Long.ofNat_toNat (v : Long) : (BitVec.ofNat 32 v.toNat : Long) = v := BitVec.ofNat_toNat 32 v

theorem State.writeFlag_of_le {s : State} {v : Long} (hv : v.toNat ≤ 1) (f : Bool → State) :
    s.writeFlag v.toNat f = ((f (decide (v = 1))), replyOf .ok (be32 v)) := by
  have hone : (v.toNat == 1) = decide (v = 1) := by
    rw [Bool.eq_iff_iff, beq_iff_eq, decide_eq_true_iff, ← BitVec.toNat_inj]
    rfl
  unfold State.writeFlag State.writeUpTo
  dsimp only
  rw [if_pos hv, hone, BitVec.ofNat_toNat]
  rfl

theorem State.writeFlag_of_lt {s : State} {v : Nat} (hv : 1 < v) (f : Bool → State) : s.writeFlag v f = s.refuse .badValue :=
  if_neg (Nat.not_le.mpr hv)

theorem State.writeUpTo_of_le {s : State} {hi : Nat} {v : Long} (hv : v.toNat ≤ hi) (f : Nat → State) :
    s.writeUpTo hi v.toNat f = (f v.toNat, replyOf .ok (be32 v)) := by
  unfold State.writeUpTo
  rw [if_pos hv, BitVec.ofNat_toNat]
  rfl

theorem State.writeUpTo_of_lt {s : State} {hi v : Nat} (hv : hi < v) (f : Nat → State) : s.writeUpTo hi v f = s.refuse .badValue :=
  if_neg (Nat.not_le.mpr hv)

theorem writeReply_self (v : Long) : writeReply v v.toNat = replyOf .ok (be32 v) := by
  simp [writeReply]

/-- The two spellings of the nearest number. -/
theorem clampNat_eq_nearest {lo hi : Nat} (h : lo ≤ hi) (v : Nat) : clampNat lo hi v = nearest lo hi v := by
  unfold clampNat nearest
  split_ifs <;> omega

theorem writeClamped_eq {lo hi : Nat} (hle : lo ≤ hi) (v : Long) (f : Nat → State) :
    writeClamped lo hi v.toNat f = (f (nearest lo hi v.toNat), writeReply v (nearest lo hi v.toNat)) := by
  unfold writeClamped
  dsimp only
  rw [clampNat_eq_nearest hle]
  unfold State.wrote writeReply replyOf
  congr 2
  by_cases h : nearest lo hi v.toNat = v.toNat <;> simp [h]

/-! ### Events (R172, R173) -/

theorem EventKind.all_index (k : EventKind) : EventKind.all[k.index.val]? = some k := by cases k <;> rfl

theorem EventKind.mem_all (k : EventKind) : k ∈ EventKind.all := List.mem_of_getElem? k.all_index

theorem EventKind.index_inj {j k : EventKind} (h : j.index = k.index) : j = k :=
  Option.some.inj (j.all_index.symm.trans ((congrArg (fun i : Fin 26 => EventKind.all[i.val]?) h).trans k.all_index))

theorem kindOfIndex_code (k : EventKind) : kindOfIndex k.code = some k := by cases k <;> rfl

theorem kindOfIndex_of_outside {n : Nat} (h : n = 0 ∨ 26 < n) : kindOfIndex n = none := by
  refine List.find?_eq_none.mpr fun k _ => ?_
  have hk : k.code ≤ 26 := k.index.isLt
  have hpos : k.code ≠ 0 := Nat.succ_ne_zero _
  simp only [beq_iff_eq]
  omega

/-- The pending flags that an acknowledgement of the kinds in `l` leaves. -/
theorem acknowledged_fold (level : Nat) (k : EventKind) : ∀ (l : List EventKind) (events : Vector EventSummary 26),
    (l.foldl (fun ev j => if j.level.code ≤ level then ev.set j.index { ev[j.index] with pending := false } else ev) events)[k.index]
      = { events[k.index] with pending := events[k.index].pending && !decide (k ∈ l ∧ k.level.code ≤ level) }
  | [], events => by simp
  | j :: l, events => by
    rw [List.foldl_cons, acknowledged_fold level k l]
    by_cases hj : j = k
    · subst hj
      by_cases hl : j.level.code ≤ level <;> simp [hl]
    · have hindex : (j.index : Nat) ≠ k.index := fun h => hj (EventKind.index_inj (Fin.ext h))
      have hk : k ≠ j := Ne.symm hj
      by_cases hl : j.level.code ≤ level <;> simp [hl, hk, hindex]

theorem acknowledged_getElem (events : Vector EventSummary 26) (level : Nat) (k : EventKind) :
    (acknowledged events level)[k.index]
      = { events[k.index] with pending := events[k.index].pending && decide (level < k.level.code) } := by
  refine (acknowledged_fold level k EventKind.all events).trans ?_
  have hmem : decide (k ∈ EventKind.all ∧ k.level.code ≤ level) = decide (k.level.code ≤ level) :=
    decide_eq_decide.mpr (and_iff_right k.mem_all)
  rw [hmem, ← decide_not]
  simp only [Nat.not_le]

theorem State.writeEvents_of_none {i : Nat} {v : Long} {rest : List Byte} (hi : kindOfIndex i = none) :
    s.writeEvents i (be32 v ++ rest) = s.refuse .badIndex := by
  unfold State.writeEvents
  simp only [hi, State.needing_be32]

theorem State.writeEvents_of_some {i : Nat} {k : EventKind} {v : Long} {rest : List Byte} (hi : kindOfIndex i = some k) :
    s.writeEvents i (be32 v ++ rest) = if k.alarming then s.writeEnable k v.toNat else s.refuse .badIndex := by
  unfold State.writeEvents
  simp only [hi, State.needing_be32, valueOf_be32]

theorem EventKind.alarming_iff (k : EventKind) : k.alarming = true ↔ k.level = .major ∨ k.level = .urgent := by
  cases k <;> decide

/-- Settles O57: each command's work, on the part with the request counted. -/
theorem errorEventAndEnergyCommands : Obligations.ErrorEventAndEnergyCommands := by
  refine ⟨?invalidate, ?release, ?clear, ?ack, ?events⟩
  case invalidate => exact fun h arg tail s ha hs => congrArg Host.Outcome.next (State.Unread.requestRow ha hs rfl)
  case release =>
    intro h arg tail s ha hs
    have hlength : (s.egu.release arg.toNat).queue.length ≤ max s.egu.queue.length Config.energyPlaces := by
      have : (s.egu.queue.drop arg.toNat).length ≤ s.egu.queue.length := by simp
      exact this.trans (le_max_left _ _)
    have hworks : Works s .still { s with egu := s.egu.release arg.toNat } := .energy .refl _ hlength
    refine (congrArg Host.Outcome.next (hworks.requestRow ha hs rfl)).trans ?_
    simp only [Egu.release, List.length_drop]
    rfl
  case clear => exact fun h arg tail s ha hs => congrArg Host.Outcome.next (State.Unread.requestRow ha hs rfl)
  case ack =>
    intro h arg tail s ha hs
    refine ⟨fun hbad => congrArg Host.Outcome.next (State.requestRow_answered ha hs ?_), fun hgood => ?_⟩
    · exact if_neg (Nat.not_le.mpr hbad)
    · refine ⟨acknowledged s.meu.events arg.toNat, acknowledged_getElem _ _, congrArg Host.Outcome.next (State.Unread.requestRow ha hs ?_)⟩
      exact if_pos hgood
  case events =>
    intro h kind field v rest s ha hs
    have hexec : exec (.eventsWrite h kind field (be32 v ++ rest)) s
        = .next (s.requestRow h (writePayload .events kind field (be32 v ++ rest)) fun t => t.writeEvents kind.toNat (be32 v ++ rest)) := rfl
    have hrefused : ∀ c, s.counted.writeEvents kind.toNat (be32 v ++ rest) = s.counted.refuse c →
        exec (.eventsWrite h kind field (be32 v ++ rest)) s = .next (s.replied h (replyOf c [])) := fun c hc =>
      hexec.trans (congrArg Host.Outcome.next (State.requestRow_answered ha hs hc))
    refine ⟨fun hkind => hrefused .badIndex ?_, fun k hk => ?_⟩
    · have houtside : kind.toNat = 0 ∨ 26 < kind.toNat := hkind.imp_left fun h => congrArg BitVec.toNat h
      exact State.writeEvents_of_none (kindOfIndex_of_outside houtside)
    · have hwrite := State.writeEvents_of_some (s := s.counted) (v := v) (rest := rest) (kindOfIndex_code k)
      refine ⟨fun hlevel => hrefused .badIndex ?_, fun hlevel hv => hrefused .badValue ?_, fun hlevel hv => ?_⟩
      · have hquiet : ¬k.alarming = true := fun h => by
          rcases k.alarming_iff.mp h with h | h <;> rcases hlevel with h' | h' <;> exact absurd (h.symm.trans h') (by simp)
        rw [hk, hwrite, if_neg hquiet]
      · rw [hk, hwrite, if_pos (k.alarming_iff.mpr hlevel)]
        exact State.writeFlag_of_lt hv _
      · rw [if_pos (k.alarming_iff.mpr hlevel)] at hwrite
        refine hexec.trans (congrArg Host.Outcome.next (State.Unread.requestRow ha hs ?_))
        rw [hk, hwrite]
        exact State.writeFlag_of_le hv _

end
end Sys2Proof.Machine
end

section
/-! PROOFS. The derating curve, its WRITE and its READ (O47). -/

namespace Sys2Proof.Machine

/-! ### The curve read at a temperature (R116) -/

/-- A quotient rounded up lies less than one above the quotient. -/
theorem ceilDiv_bounds (a : Nat) {b : Nat} (hb : 0 < b) : a ≤ ceilDiv a b * b ∧ ceilDiv a b * b < a + b := by
  have hdiv := Nat.div_add_mod (a + b - 1) b
  have hmod := Nat.mod_lt (a + b - 1) hb
  unfold ceilDiv
  rw [Nat.mul_comm]
  generalize b * ((a + b - 1) / b) = m at hdiv ⊢
  omega

theorem curveOrdered_cons {a b : CurvePoint} {l : List CurvePoint} :
    curveOrdered (a :: b :: l) = true ↔ a.t ≤ b.t ∧ b.p ≤ a.p ∧ curveOrdered (b :: l) = true := by
  simp [curveOrdered, and_assoc]

/-- On an ordered curve each point is followed by one that is not colder and not at a higher percentage (R115). -/
theorem curveOrdered_iff : ∀ {l : List CurvePoint},
    curveOrdered l = true ↔ ∀ (i : Nat) (h : i + 1 < l.length), l[i].t ≤ l[i + 1].t ∧ l[i + 1].p ≤ l[i].p
  | [] => by simp [curveOrdered]
  | [_] => by simp [curveOrdered]
  | a :: b :: l => by
    rw [curveOrdered_cons, curveOrdered_iff (l := b :: l)]
    constructor
    · rintro ⟨ht, hp, hrest⟩ (_ | i) h
      · exact ⟨ht, hp⟩
      · exact hrest i (by simpa using h)
    · intro h
      exact ⟨(h 0 (by simp)).1, (h 0 (by simp)).2, fun i hi => h (i + 1) (by simpa using hi)⟩

theorem curveOrdered_head_le : ∀ {a : CurvePoint} {l : List CurvePoint}, curveOrdered (a :: l) = true → ∀ x ∈ l, a.t ≤ x.t
  | _, [], _, _, hx => absurd hx List.not_mem_nil
  | a, b :: l, h, x, hx => by
    obtain ⟨ht, -, hrest⟩ := curveOrdered_cons.mp h
    rcases List.mem_cons.mp hx with rfl | hx
    · exact ht
    · exact ht.trans (curveOrdered_head_le hrest x hx)

/-- Between two neighbouring points the curve is read on their segment. -/
theorem curveFrom_of_between {t : Int} : ∀ {a : CurvePoint} {l : List CurvePoint} {i : Nat} (h : i + 1 < (a :: l).length),
    curveOrdered (a :: l) = true → (a :: l)[i].t ≤ t → t < (a :: l)[i + 1].t → curveFrom t a l = segment (a :: l)[i] (a :: l)[i + 1] t
  | a, b :: l, 0, _, _, hlow, hhigh => if_pos ⟨hlow, hhigh⟩
  | a, b :: l, i + 1, h, hordered, hlow, hhigh => by
    obtain ⟨-, -, hrest⟩ := curveOrdered_cons.mp hordered
    have hi : i + 1 < (b :: l).length := Nat.lt_of_succ_lt_succ h
    have hbelow : b.t ≤ t := by
      refine le_trans ?_ hlow
      cases i with
      | zero => exact le_refl _
      | succ i => exact curveOrdered_head_le hrest _ (List.getElem_mem (Nat.lt_of_succ_lt_succ (Nat.lt_of_succ_lt hi)))
    have hstep : curveFrom t a (b :: l) = curveFrom t b l := if_neg fun hin => absurd hin.2 (by omega)
    rw [hstep]
    exact curveFrom_of_between hi hrest hlow hhigh

/-- The line between two points, with the fall rounded up. -/
theorem segment_falls {a b : CurvePoint} {t : Int} (hp : b.p ≤ a.p) (hlow : a.t ≤ t) (hhigh : t < b.t) :
    ∃ fall : Nat, (segment a b t : Int) = a.p - fall ∧ ((a.p : Int) - b.p) * (t - a.t) ≤ fall * (b.t - a.t)
      ∧ ((fall : Int) - 1) * (b.t - a.t) < ((a.p : Int) - b.p) * (t - a.t) ∧ b.p ≤ segment a b t ∧ segment a b t ≤ a.p := by
  obtain ⟨d, hd⟩ : ∃ d : Nat, b.t - a.t = d := ⟨(b.t - a.t).toNat, by omega⟩
  obtain ⟨n, hn⟩ : ∃ n : Nat, t - a.t = n := ⟨(t - a.t).toNat, by omega⟩
  obtain ⟨f, hf⟩ : ∃ f : Nat, a.p = b.p + f := ⟨a.p - b.p, by omega⟩
  have hdpos : 0 < d := by omega
  have hnd : n < d := by omega
  obtain ⟨hle, hlt⟩ := ceilDiv_bounds (f * n) hdpos
  have hfall : ceilDiv (f * n) d ≤ f := by
    by_contra hgt
    have hmul : (f + 1) * d ≤ ceilDiv (f * n) d * d := Nat.mul_le_mul_right d (by omega)
    have hfn : f * n ≤ f * d := Nat.mul_le_mul_left f hnd.le
    rw [Nat.add_mul, Nat.one_mul] at hmul
    omega
  have hsegment : segment a b t = a.p - ceilDiv (f * n) d := by
    unfold segment
    rw [hd, hn, hf]
    simp
  refine ⟨ceilDiv (f * n) d, by omega, ?_, ?_, by omega, by omega⟩
  · rw [hd, hn, hf]
    push_cast
    rw [add_sub_cancel_left]
    exact_mod_cast hle
  · rw [hd, hn, hf]
    push_cast
    rw [add_sub_cancel_left, sub_mul, one_mul]
    have hlt' : (ceilDiv (f * n) d : Int) * d < f * n + d := by exact_mod_cast hlt
    omega

theorem toList_eq_cons (curve : Vector CurvePoint 8) : curve.toList = curve[0] :: curve.toList.tail := by
  refine (List.cons_head_tail (l := curve.toList) (by simp)).symm.trans ?_
  congr 1
  simp [List.head_eq_getElem]

theorem curve_first_le {curve : Vector CurvePoint 8} (h : curveOrdered curve.toList = true) {x : CurvePoint} (hx : x ∈ curve) :
    curve[0].t ≤ x.t := by
  rw [← Vector.mem_toList_iff] at hx
  rw [toList_eq_cons] at h hx
  rcases List.mem_cons.mp hx with rfl | hx
  · exact le_refl _
  · exact curveOrdered_head_le h x hx

/-- The order of a curve of eight points, point by point. -/
theorem curveOrdered_toList {curve : Vector CurvePoint 8} :
    curveOrdered curve.toList = true ↔ ∀ (i : Nat) (h : i < 7), curve[i].t ≤ curve[i + 1].t ∧ curve[i + 1].p ≤ curve[i].p := by
  rw [curveOrdered_iff]
  constructor
  · intro h i hi
    have hstep := h i (by rw [Vector.length_toList]; omega)
    rwa [Vector.getElem_toList, Vector.getElem_toList] at hstep
  · intro h i hi
    rw [Vector.getElem_toList, Vector.getElem_toList]
    exact h i (by rw [Vector.length_toList] at hi; omega)

/-- Between its first and its last point a curve is read on the segment that holds the temperature. -/
theorem readCurve_of_between {curve : Vector CurvePoint 8} {t : Int} (hordered : curveOrdered curve.toList = true) {i : Nat} (hi : i < 7)
    (hlow : curve[i].t ≤ t) (hhigh : t < curve[i + 1].t) : readCurve curve t = segment curve[i] curve[i + 1] t := by
  have hcons := toList_eq_cons curve
  have hsteps := curveOrdered_toList.mp hordered
  have hrise : ∀ j k : Nat, (hk : j + k < 8) → curve[j].t ≤ curve[j + k].t := by
    intro j k
    induction k with
    | zero => exact fun _ => le_refl _
    | succ k ih => exact fun hk => (ih (by omega)).trans (hsteps (j + k) (by omega)).1
  have hfirst : ¬t < curve[0].t := by
    have := hrise 0 i (by omega)
    simp only [Nat.zero_add] at this
    omega
  have hlast : ¬curve[7].t ≤ t := by
    have h7 := hrise (i + 1) (6 - i) (by omega)
    have heq : i + 1 + (6 - i) = 7 := by omega
    simp only [heq] at h7
    omega
  unfold readCurve
  rw [if_neg hfirst, if_neg hlast]
  have hget : ∀ (j : Nat) (hj : j < 8), (curve[0] :: curve.toList.tail)[j]'(by simp; omega) = curve[j] := by
    intro j hj
    simp only [← hcons]
    simp
  rw [hcons] at hordered
  refine (curveFrom_of_between (i := i) (by simp; omega) hordered ?_ ?_).trans ?_
  · rw [hget i (by omega)]
    exact hlow
  · rw [hget (i + 1) (by omega)]
    exact hhigh
  · rw [hget i (by omega), hget (i + 1) (by omega)]

/-! ### CURVE written and read (R115) -/

theorem byteAt_drop_append (l r : List Byte) (i : Nat) : byteAt (l ++ r) (l.length + i) = byteAt r i := byteAt_append l r i rfl

/-- The points of a whole curve in a payload. -/
theorem halfAt_points (rest : List Byte) : ∀ (l : List (Half × Half)) (i : Nat) (h : i < l.length),
    halfAt (l.flatMap (fun e => be16 e.1 ++ be16 e.2) ++ rest) (4 * i) = l[i].1
      ∧ halfAt (l.flatMap (fun e => be16 e.1 ++ be16 e.2) ++ rest) (4 * i + 2) = l[i].2
  | [], i, h => absurd h (Nat.not_lt_zero i)
  | e :: l, 0, _ => by
    rw [List.flatMap_cons, List.append_assoc, List.append_assoc]
    refine ⟨halfAt_be16 _ _, ?_⟩
    exact (halfAt_append (be16 e.1) _ 0 rfl).trans (halfAt_be16 _ _)
  | e :: l, i + 1, h => by
    obtain ⟨ht, hp⟩ := halfAt_points rest l i (Nat.lt_of_succ_lt_succ h)
    have hlength : (be16 e.1 ++ be16 e.2).length = 4 := rfl
    have hstep : 4 * (i + 1) = 4 + 4 * i := by omega
    rw [List.flatMap_cons, List.append_assoc, hstep, Nat.add_assoc, halfAt_append _ _ _ hlength, halfAt_append _ _ _ hlength]
    exact ⟨ht, hp⟩

theorem pointsOf_points (points : Vector (Half × Half) 8) (rest : List Byte) :
    pointsOf (points.toList.flatMap (fun e => be16 e.1 ++ be16 e.2) ++ rest) = points.map fun e => ⟨e.1.toInt, e.2.toNat⟩ := by
  refine Vector.ext fun i hi => ?_
  obtain ⟨ht, hp⟩ := halfAt_points rest points.toList i (by simpa using hi)
  simp only [pointsOf, Vector.getElem_ofFn, ht, hp, Vector.getElem_toList, Vector.getElem_map]

/-- The percentages and the order that a written curve needs (R115). -/
theorem curve_good_iff {curve : Vector CurvePoint 8} :
    (curve.toList.all (fun p => decide (p.p ≤ 100)) && curveOrdered curve.toList) = true ↔ (∀ i : Fin 8, curve[i].p ≤ 100)
      ∧ ∀ (i : Nat) (h : i < 7), curve[i].t ≤ curve[i + 1].t ∧ curve[i + 1].p ≤ curve[i].p := by
  rw [Bool.and_eq_true, curveOrdered_toList]
  refine and_congr_left fun _ => ?_
  simp only [List.all_eq_true, decide_eq_true_eq, Vector.mem_toList_iff]
  constructor
  · exact fun h i => h _ (Vector.getElem_mem i.isLt)
  · intro h x hx
    obtain ⟨i, hi, rfl⟩ := Vector.getElem_of_mem hx
    exact h ⟨i, hi⟩

theorem numValue_of_le {n : Nat} (h : n ≤ 100) : numValue n = some (BitVec.ofNat 32 n) := by
  unfold numValue
  rw [if_pos (by omega)]

theorem toList_eq_map_finRange {α : Type} {n : Nat} (v : Vector α n) : v.toList = (List.finRange n).map fun k => v[k] := by
  refine List.ext_getElem (by simp) fun i hi hi' => ?_
  simp

theorem be32_append (x y : Half) : be32 (x ++ y) = be16 x ++ be16 y := by
  have hhigh : ∀ i, i + 8 ≤ 16 → (x ++ y : BitVec (16 + 16)).extractLsb' (16 + i) 8 = x.extractLsb' i 8 := fun i hi => by
    rw [BitVec.extractLsb'_append_eq_ite, dif_neg (by omega)]
    congr 1
    omega
  have hlow : ∀ i, i + 8 ≤ 16 → (x ++ y : BitVec (16 + 16)).extractLsb' i 8 = y.extractLsb' i 8 := fun i hi =>
    BitVec.extractLsb'_append_eq_of_add_le hi
  simp only [be32, be16, List.cons_append, List.nil_append]
  exact congr (congrArg List.cons (hhigh 8 (by decide))) (congr (congrArg List.cons (hhigh 0 (by decide)))
    (congr (congrArg List.cons (hlow 8 (by decide))) (congr (congrArg List.cons (hlow 0 (by decide))) rfl)))

section
variable {s : State} {g : Fin 8} {field : Nat} {values : List Byte} {curve : Vector CurvePoint 8}

theorem State.putCurve_of_good (h : (∀ i : Fin 8, curve[i].p ≤ 100)
      ∧ ∀ (i : Nat) (h : i < 7), curve[i].t ≤ curve[i + 1].t ∧ curve[i + 1].p ≤ curve[i].p) :
    s.putCurve g field values curve
      = ((s.modGroup g fun q => { q with curve := curve }), replyOf .ok (be32 (Config.curveReply g.val field values))) :=
  if_pos (curve_good_iff.mpr h)

theorem State.putCurve_of_not_good (h : ¬((∀ i : Fin 8, curve[i].p ≤ 100)
      ∧ ∀ (i : Nat) (h : i < 7), curve[i].t ≤ curve[i + 1].t ∧ curve[i + 1].p ≤ curve[i].p)) :
    s.putCurve g field values curve = s.refuse .badValue :=
  if_neg fun hgood => h (curve_good_iff.mp hgood)

theorem isTemperature_iff {t : Int} : isTemperature t = true ↔ -32768 ≤ t ∧ t ≤ 32767 := by
  simp [isTemperature]

theorem readBody_packed (first : Byte) (curve : Vector CurvePoint 8) :
    readBody first.toNat (curve.toList.map CurvePoint.packed)
      = [first, 8, 0, 0] ++ (List.finRange 8).flatMap fun k => be16 (BitVec.ofInt 16 curve[k].t) ++ be16 (BitVec.ofNat 16 curve[k].p) := by
  have hmask : ∀ l : List CurvePoint, absentMask (l.map CurvePoint.packed) = 0 := by
    intro l
    induction l with
    | nil => rfl
    | cons x l ih => exact congrArg (2 * ·) ih
  unfold readBody
  rw [hmask, List.length_map, Vector.length_toList, toList_eq_map_finRange, List.flatMap_map, List.flatMap_map, BitVec.ofNat_toNat]
  simp only [CurvePoint.packed, Option.getD_some, be32_append]
  rfl

end

/-- Settles O47: the segment that holds the temperature, the writes through `State.putCurve`, and the points as they are read. -/
theorem curveIsReadBetweenItsPoints : Obligations.CurveIsReadBetweenItsPoints := by
  refine ⟨?reading, ?writing, ?read⟩
  case reading =>
    intro curve t hordered
    refine ⟨fun hlow => if_pos hlow, fun hhigh => ?_, fun i hi hlow hhigh => ?_⟩
    · have hrise : curve[0].t ≤ curve[7].t := curve_first_le hordered (Vector.getElem_mem _)
      exact (if_neg (not_lt.mpr (hrise.trans hhigh))).trans (if_pos hhigh)
    · rw [readCurve_of_between hordered hi hlow hhigh]
      exact segment_falls (curveOrdered_toList.mp hordered i hi).2 hlow hhigh
  case writing =>
    intro h index field values s ha hs c refused short
    have hexec := exec_writeRow (o := .curve) rfl h index field values s
    have hrefused : ∀ code, s.counted.writeCurve index.toNat field.toNat values = s.counted.refuse code → refused code := fun code hw =>
      hexec.trans (congrArg Host.Outcome.next (State.requestRow_answered ha hs hw))
    have hfield : field = 8 ↔ field.toNat = 8 := BitVec.toNat_inj.symm
    have hlong : ¬short → s.counted.writeCurve index.toNat field.toNat values
        = (if h : index.toNat < 8 then
            if field.toNat ≤ 8 then s.counted.writeCurveAt ⟨index.toNat, h⟩ field.toNat values else s.counted.refuse .badIndex
          else s.counted.refuse .badIndex) := by
      intro hlong
      refine if_neg fun hlt => hlong ?_
      split_ifs at hlt with h8 heq
      · exact .inl ⟨h8, hlt⟩
      · exact .inr ⟨hfield.mpr heq, hlt⟩
      · exact absurd hlt (Nat.not_lt_zero _)
    refine ⟨fun hshort => hrefused .badValue (if_pos ?_), fun hns hout => hrefused .badIndex ?_, fun g hg => ?_⟩
    · rcases hshort with ⟨h8, hlt⟩ | ⟨heq, hlt⟩
      · rwa [if_pos h8]
      · rw [hfield.mp heq]
        exact hlt
    · rw [hlong hns]
      rcases hout with hindex | hpoint
      · exact dif_neg (Nat.not_lt.mpr hindex)
      · split_ifs with hindex hle
        · exact absurd hle (Nat.not_le.mpr hpoint)
        · rfl
        · rfl
    · intro good writes
      have hat : ¬short → field.toNat ≤ 8 → s.counted.writeCurve index.toNat field.toNat values = s.counted.writeCurveAt g field.toNat values := by
        intro hns hle
        have hgroup : g = ⟨index.toNat, hg ▸ g.isLt⟩ := Fin.ext hg
        rw [hlong hns, dif_pos (hg ▸ g.isLt), if_pos hle, ← hgroup]
      have hwrites : ∀ curve, s.counted.writeCurve index.toNat field.toNat values = s.counted.putCurve g field.toNat values curve →
          writes curve := by
        intro curve hput
        refine ⟨fun hgood => ⟨Config.curveReply g.val field.toNat values, hexec.trans (congrArg Host.Outcome.next ?_)⟩, fun hbad =>
          hrefused .badValue (hput.trans (State.putCurve_of_not_good hbad))⟩
        have hworks : Works s .still (s.modGroup g fun q => { q with curve := curve }) := .modGroup .refl g _ ⟨rfl, id, id⟩
        exact hworks.requestRow ha hs (hput.trans (State.putCurve_of_good hgood))
      refine ⟨fun k temp pct rest hk hvalues => ?_, fun points rest hwhole hvalues => hwrites _ ?_⟩
      · have hpoint : field.toNat < 8 := hk ▸ k.isLt
        have hns : ¬short := by
          have hlength : values.length = 4 + 4 + rest.length := by
            rw [hvalues, List.length_append, List.length_append, length_be32, length_be32]
          rintro (⟨-, hlt⟩ | ⟨heq, -⟩)
          · omega
          · exact absurd (hfield.mp heq) (by omega)
        have htemp : signedOf values = temp.toInt := by
          rw [hvalues, List.append_assoc]
          exact congrArg BitVec.toInt (longAt_be32 _ _)
        have hpct : (longAt values 4).toNat = pct.toNat := by
          rw [hvalues, List.append_assoc]
          exact congrArg BitVec.toNat (longAt_be32 pct rest)
        have hput : s.counted.writeCurve index.toNat field.toNat values
            = (if isTemperature temp.toInt then s.counted.putCurve g field.toNat values ((s.group g).curve.set k ⟨temp.toInt, pct.toNat⟩)
              else s.counted.refuse .badValue) := by
          rw [hat hns hpoint.le]
          unfold State.writeCurveAt
          rw [dif_pos hpoint, htemp, hpct]
          simp only [hk]
          rfl
        refine ⟨fun hlow hhigh => hwrites _ ?_, fun hout => hrefused .badValue ?_⟩
        · rw [hput, if_pos (isTemperature_iff.mpr ⟨hlow, hhigh⟩)]
        · rw [hput, if_neg fun hin => ?_]
          obtain ⟨hlow, hhigh⟩ := isTemperature_iff.mp hin
          omega
      · have hns : ¬short := by
          rintro (⟨hlt, -⟩ | ⟨-, hlt⟩)
          · exact absurd (hfield.mp hwhole) (by omega)
          · have hlength : ∀ l : List (Half × Half), (l.flatMap fun e => be16 e.1 ++ be16 e.2).length = 4 * l.length := by
              intro l
              induction l with
              | nil => rfl
              | cons e l ih =>
                rw [List.flatMap_cons, List.length_append, ih]
                simp only [List.length_append, length_be16, List.length_cons]
                omega
            rw [hvalues, List.length_append, hlength, Vector.length_toList] at hlt
            omega
        rw [hat hns (hfield.mp hwhole).le]
        unfold State.writeCurveAt
        rw [dif_neg (by rw [hfield.mp hwhole]; decide), hvalues, pointsOf_points]
  case read =>
    intro h index field values s ha hs c
    have hread : ∀ {r : Reply}, s.counted.readCurve index.toNat field.toNat = (s.counted, r) → exec c s = .next (s.replied h r) :=
      fun {r} hw => congrArg Host.Outcome.next (State.requestRow_answered ha hs hw)
    have hfield : field = 8 ↔ field.toNat = 8 := BitVec.toNat_inj.symm
    refine ⟨fun hout => hread ?_, fun g hg hgood => ⟨fun k hk => hread ?_, fun hwhole => hread ?_⟩⟩
    all_goals unfold State.readCurve
    · by_cases hindex : index.toNat < 8
      · rw [Vector.getElem?_eq_getElem hindex]
        dsimp only
        rw [dif_neg (by omega), if_neg (by omega)]
        rfl
      · rw [Vector.getElem?_eq_none (Nat.not_lt.mp hindex)]
        rfl
    all_goals
      rw [← hg, Vector.getElem?_eq_getElem g.isLt]
      dsimp only
    · have hpoint : field.toNat < 8 := hk ▸ k.isLt
      rw [dif_pos hpoint]
      have hcurve : (s.group g).curve[field.toNat] = (s.group g).curve[k] := by simp only [← hk]; rfl
      have hpct : numValue (s.group g).curve[field.toNat].p = some (BitVec.ofNat 32 (s.group g).curve[field.toNat].p) := by
        simp only [← hk]
        exact numValue_of_le (hgood k)
      have hbody : readBody field.toNat (s.group g).curve[field.toNat].fields = [field, 2, 0, 0]
          ++ be32 (BitVec.ofInt 32 (s.group g).curve[field.toNat].t) ++ be32 (BitVec.ofNat 32 (s.group g).curve[field.toNat].p) := by
        unfold readBody CurvePoint.fields
        rw [hpct, BitVec.ofNat_toNat, BitVec.setWidth_eq]
        simp [intValue, absentMask, be16]
      refine (congrArg (fun b => (s.counted, replyOf .ok b)) hbody).trans ?_
      rw [hcurve]
    · have h8 := hfield.mp hwhole
      rw [dif_neg (by omega), if_pos h8, readBody_packed, hwhole]
      rfl

end Sys2Proof.Machine
end

section
/-! SUPPORT. The count of the requests taken stands beside the work of a raise. PROOFS. The profile player's commands, its step end and the
writes of PROFILE-STEP and PROFILE (O40). -/

namespace Sys2Proof.Machine

/-! ### The count of the requests taken is not read -/

theorem State.counted_enterFrom (s : State) (src : Source) : s.counted.enterFrom src = (s.enterFrom src).counted := by
  cases src with
  | report => rfl
  | meu =>
    cases h : s.meu.sendList <;> simp only [State.enterFrom, State.counted, h]
  | gau =>
    rcases h : s.gau.sendList with _ | ⟨⟨tag, f⟩, rest⟩
    · simp only [State.enterFrom, State.counted, h]
    · cases tag <;> simp only [State.enterFrom, State.counted, h] <;> rfl
  | psu =>
    cases h : s.psu.sendList <;> simp only [State.enterFrom, State.counted, h]
    rfl
  | tru => cases h : s.tru.sendList <;> simp only [State.enterFrom, State.counted, h]
  | clu => cases h : s.clu.orderFrame <;> simp only [State.enterFrom, State.counted, h]

theorem State.counted_arbitrate (n : Nat) : ∀ s : State, s.counted.arbitrate n = (s.arbitrate n).counted := by
  induction n with
  | zero => exact fun _ => rfl
  | succ n ih =>
    intro s
    have hnext : s.counted.nextSource = s.nextSource := rfl
    cases h : s.nextSource with
    | none => simp only [State.arbitrate, hnext, h]
    | some src =>
      rw [State.arbitrate_succ h, State.arbitrate_succ (hnext.trans h), ← ih]
      unfold State.round
      rw [State.counted_enterFrom]
      rfl

@[simp] theorem State.counted_settle (s : State) : s.counted.settle = s.settle.counted := s.counted_arbitrate _

@[simp] theorem State.counted_raise (s : State) (k : EventKind) (j a b : Nat) : s.counted.raise k j a b = (s.raise k j a b).counted :=
  State.counted_settle { s with meu := s.meu.takeEvent k, port := s.port.record s.time { kind := k, day := s.stamp.1, ms := s.stamp.2, subject := j, a := a, b := b } }

/-- The line record is not read by the arbiter. -/
theorem State.Settled.withLine {s : State} (hs : s.Settled) (x : Line) : State.Settled { s with line := x } :=
  hs.of_offers rfl fun src => by cases src <;> rfl

theorem State.active_eq_false_iff (s : State) : s.active = false ↔ s.meu.mode = .forwardOnly := by simp [State.active]

/-- An expiry that is due, with the reset line high. -/
theorem State.expire_of_due {s : State} {due : Bool} (hs : s.resetLow = false) (hdue : due = true) (effect : State) :
    s.expire due effect = .next effect := by
  unfold State.expire
  rw [hs, hdue]
  rfl

/-! ### The player -/

@[simp] theorem State.counted_enterStep (s : State) (n : Fin 8) (k : Fin 256) : s.counted.enterStep n k = (s.enterStep n k).counted := by
  unfold State.enterStep
  dsimp only
  by_cases h : s.line.steps[k].marker = 0
  · rw [if_pos h]
    exact if_pos h
  · rw [if_neg h]
    exact (if_neg h).trans (State.counted_raise { s with line.player := _ } _ _ _ _)

theorem State.enterStep_eq (s : State) (n : Fin 8) (k : Fin 256) : s.enterStep n k = s.stepEntered n k := rfl

section
variable {s : State} {h : Header} {index : Half} {field : Byte} {v : Long} {rest : List Byte} {o : Object} {r : Reply}

/-- A WRITE of a value to an object of the part, worked by the rule of the object's owner. -/
theorem exec_writeRow_be32 (ho : o.readOnly = false) {t : State} (ha : s.admits h (writePayload o index field (be32 v ++ rest)) = true)
    (hwork : s.counted.writeObject o index.toNat field.toNat (be32 v ++ rest) = (t.counted, r)) (ht : t.Settled)
    (haddress : t.address = s.address := by rfl) : exec (writeRow o h index field (be32 v ++ rest)) s = .next (t.replied h r) :=
  (exec_writeRow ho h index field _ s).trans (congrArg Host.Outcome.next (State.requestRow_replied ha hwork ht haddress))

theorem State.writeChoice_of_some {α : Type} {f : Nat → Option α} {a : α} (ha : f v.toNat = some a) (g : α → State) :
    s.writeChoice f v.toNat g = (g a, replyOf .ok (be32 v)) := by
  unfold State.writeChoice
  simp only [ha, State.wrote, BitVec.ofNat_toNat, BitVec.setWidth_eq]
  rfl

theorem State.writeChoice_of_none {α : Type} {f : Nat → Option α} {n : Nat} (ha : f n = none) (g : α → State) :
    s.writeChoice f n g = s.refuse .badValue := by
  unfold State.writeChoice
  simp only [ha]

theorem State.writeProfileStep_be32 (s : State) (i f : Nat) (v : Long) (rest : List Byte) : s.writeProfileStep i f (be32 v ++ rest)
    = if h : i < 256 then s.writeStepField ⟨i, h⟩ f v else s.refuse .badIndex := by
  unfold State.writeProfileStep
  rw [State.needing_be32, longAt_be32]

theorem State.writeProfile_be32 (s : State) (i f : Nat) (v : Long) (rest : List Byte) : s.writeProfile i f (be32 v ++ rest)
    = if h : i < 8 then s.writeProfileField ⟨i, h⟩ f v.toNat else s.refuse .badIndex := by
  unfold State.writeProfile
  rw [State.needing_be32, valueOf_be32]

end

/-- Settles O40: the player's commands and writes on the part with the request counted, and the step end by the last flag. -/
theorem profilePlayerTakesItsCommands : Obligations.ProfilePlayerTakesItsCommands := by
  refine ⟨?play, ?hold, ?resume, ?stop, ?stepEnd, ?writeStep, ?writeProfile⟩
  case play =>
    intro h arg tail s ha hs
    refine ⟨fun hbad => ?_, fun hn hbad => ?_, fun n hn hidle hline hmode => ?_⟩
    · exact congrArg Host.Outcome.next (State.requestRow_answered ha hs (dif_neg (Nat.not_lt.mpr hbad)))
    · refine congrArg Host.Outcome.next (State.requestRow_answered ha hs ((dif_pos hn).trans (if_pos ?_)))
      rcases hbad with hplayer | hline | hmode
      · exact .inr (.inr hplayer)
      · exact .inr (.inl hline)
      · exact .inl (s.counted.active_eq_false_iff.mpr hmode)
    · have hworks : Works s .still (s.stepEntered n s.line.profiles[n].startStep) := Works.refl.enterStep n _
      refine congrArg Host.Outcome.next (hworks.requestRow ha hs ?_)
      have hlt : arg.toNat < 8 := hn ▸ n.isLt
      have hgroup : (⟨arg.toNat, hlt⟩ : Fin 8) = n := Fin.ext hn
      have hgood : ¬(s.counted.active = false ∨ s.counted.line.state = .tripped ∨ s.counted.line.player.state ≠ .idle) := by
        rintro (hforward | htripped | hplayer)
        · exact hmode (s.counted.active_eq_false_iff.mp hforward)
        · exact hline htripped
        · exact hplayer hidle
      refine (dif_pos hlt).trans ((if_neg hgood).trans ?_)
      rw [hgroup]
      exact congrArg State.done (State.counted_enterStep s n _)
  case hold =>
    intro h arg tail s ha hs
    refine ⟨fun hbad => congrArg Host.Outcome.next (State.requestRow_answered ha hs (if_neg hbad)), fun e hplaying hend => ?_⟩
    refine congrArg Host.Outcome.next (State.requestRow_replied ha ((if_pos hplaying).trans ?_) (hs.withLine _) rfl)
    unfold Player.hold
    rw [show s.counted.line.player.stepEnd = some e from hend]
    rfl
  case resume =>
    intro h arg tail s ha hs
    refine ⟨fun hbad => congrArg Host.Outcome.next (State.requestRow_answered ha hs (if_neg hbad)), fun r hheld hremaining => ?_⟩
    refine congrArg Host.Outcome.next (State.requestRow_replied ha ((if_pos hheld).trans ?_) (hs.withLine _) rfl)
    unfold Player.resume
    rw [show s.counted.line.player.remaining = some r from hremaining]
    rfl
  case stop =>
    intro h arg tail s ha hs
    by_cases hidle : s.line.player.state = .idle
    · rw [if_pos hidle]
      exact congrArg Host.Outcome.next (State.requestRow_answered ha hs (if_pos hidle))
    · rw [if_neg hidle]
      exact congrArg Host.Outcome.next (State.requestRow_replied ha (if_neg hidle) (hs.withLine _) rfl)
  case stepEnd =>
    intro s n u hlow hmode hplaying hprofile hend hu
    have hdue : s.stepEndDue = true := by
      unfold State.stepEndDue
      rw [(State.offers_iff_of_active s).mpr hmode, hplaying, hend]
      simpa [reached] using hu
    have hexec : exec .stepEnd s = .next s.runOut := State.expire_of_due hlow hdue _
    have hrun := hexec
    unfold State.runOut at hrun
    simp only [hprofile] at hrun
    refine ⟨fun k hlast hk => hrun.trans (congrArg Host.Outcome.next ?_), fun hover => hrun.trans (congrArg Host.Outcome.next (dif_neg ?_))⟩
    · have hnext : s.line.player.last = false ∧ s.line.player.step.val + 1 < 256 := ⟨hlast, hk ▸ k.isLt⟩
      rw [dif_pos hnext]
      exact congrArg (s.enterStep n) (Fin.ext hk.symm)
    · rintro ⟨hlast, hstep⟩
      rcases hover with h | h
      · exact absurd (h.symm.trans hlast) (by decide)
      · rw [h] at hstep
        exact absurd hstep (by decide)
  case writeStep =>
    intro h index field v rest s ha hs c
    have hwork : s.counted.writeObject .profileStep index.toNat field.toNat (be32 v ++ rest) = _ := State.writeProfileStep_be32 _ _ _ _ _
    have hanswer : ∀ {r : Reply}, s.counted.writeObject .profileStep index.toNat field.toNat (be32 v ++ rest) = (s.counted, r) →
        exec c s = .next (s.replied h r) := fun hr => exec_writeRow_be32 rfl ha hr hs
    refine ⟨fun hbad => hanswer (hwork.trans (dif_neg (Nat.not_lt.mpr hbad))), fun k hk => ?_⟩
    intro gives st offset n
    have hlt : index.toNat < 256 := hk ▸ k.isLt
    have hstep : (⟨index.toNat, hlt⟩ : Fin 256) = k := Fin.ext hk.symm
    rw [dif_pos hlt, hstep] at hwork
    have hgives : ∀ {p : ProfileStep} {r : Reply}, s.counted.writeStepField k field.toNat v
        = (State.counted { s with line.steps := s.line.steps.set k p }, r) → gives p r := fun hr =>
      exec_writeRow_be32 rfl ha (hwork.trans hr) (hs.withLine _)
    refine ⟨?_, ?_, ?_, ?_, ?_⟩
    · rintro rfl
      have hcode : (if (clampOffset v.toInt != v.toInt) = true then ReplyCode.clamped else .ok) = if offset = v.toInt then .ok else .clamped := by
        simp only [bne_iff_ne, ne_eq, ite_not]
        rfl
      refine hgives (p := { st with offset := offset }) ?_
      rw [← hcode]
      rfl
    · rintro rfl
      refine hgives ?_
      unfold State.writeStepField
      exact writeClamped_eq (by decide) v _
    · rintro rfl hv
      rw [writeReply_self]
      refine hgives ?_
      unfold State.writeStepField
      exact State.writeUpTo_of_le hv _
    · rintro rfl hv
      rw [writeReply_self]
      refine hgives ?_
      unfold State.writeStepField
      exact State.writeFlag_of_le hv _
    · intro hbad
      refine hanswer (hwork.trans ?_)
      rcases hbad with ⟨rfl, hv⟩ | ⟨rfl, hv⟩ | hfield
      · unfold State.writeStepField
        exact State.writeUpTo_of_lt hv _
      · unfold State.writeStepField
        exact State.writeFlag_of_lt hv _
      · obtain ⟨m, hm⟩ := Nat.exists_eq_add_of_le hfield
        rw [hm, Nat.add_comm]
        rfl
  case writeProfile =>
    intro h index field v rest s ha hs c
    have hwork : s.counted.writeObject .profile index.toNat field.toNat (be32 v ++ rest) = _ := State.writeProfile_be32 _ _ _ _ _
    have hanswer : ∀ {r : Reply}, s.counted.writeObject .profile index.toNat field.toNat (be32 v ++ rest) = (s.counted, r) →
        exec c s = .next (s.replied h r) := fun hr => exec_writeRow_be32 rfl ha hr hs
    refine ⟨fun hbad => hanswer (hwork.trans (dif_neg (Nat.not_lt.mpr hbad))), fun n hn => ?_⟩
    intro gives e
    have hlt : index.toNat < 8 := hn ▸ n.isLt
    have hprofile : (⟨index.toNat, hlt⟩ : Fin 8) = n := Fin.ext hn.symm
    rw [dif_pos hlt, hprofile] at hwork
    have hgives : ∀ {p : ProfileEntry} {r : Reply}, s.counted.writeProfileField n field.toNat v.toNat
        = (State.counted { s with line.profiles := s.line.profiles.set n p }, r) → gives p r := fun hr =>
      exec_writeRow_be32 rfl ha (hwork.trans hr) (hs.withLine _)
    refine ⟨?_, ?_, ?_, ?_⟩
    · rintro k rfl hk
      refine hgives ?_
      have hstep : Fin.ofNat 256 (nearest 0 255 v.toNat) = k := Fin.ext (by simp [← hk])
      rw [hk, ← hstep]
      unfold State.writeProfileField
      exact writeClamped_eq (by decide) v _
    · rintro rfl hv
      refine hgives ?_
      rw [writeReply_self]
      unfold State.writeProfileField
      exact State.writeChoice_of_some (if_pos hv) _
    · rintro rfl hv
      refine hgives ?_
      rw [writeReply_self]
      unfold State.writeProfileField
      exact State.writeChoice_of_some ((if_neg (by omega)).trans (if_pos hv)) _
    · intro hbad
      refine hanswer (hwork.trans ?_)
      rcases hbad with ⟨rfl, h7, h255⟩ | hfield
      · unfold State.writeProfileField
        exact State.writeChoice_of_none ((if_neg (Nat.not_le.mpr h7)).trans (if_neg h255)) _
      · obtain ⟨m, hm⟩ := Nat.exists_eq_add_of_le hfield
        rw [hm, Nat.add_comm]
        rfl

end Sys2Proof.Machine
end

section
/-! PROOFS. POT-SAMPLE frames slot by slot, and the writes of SECTION and MAP (O25). -/

namespace Sys2Proof.Machine

/-- A frame passed on changes the ring port alone. -/
theorem State.passOn_eq (s : State) (f : Frame) : s.passOn f = { s with port := (s.passOn f).port } := by
  by_cases h : f.dest = s.address
  · rw [State.passOn_of_addressed h]
  · rw [State.passOn_of_passing h]
    rfl

theorem State.carried_eq (s : State) (h : Header) (k : TakenKind) (p : List Byte) :
    s.carried h k p = { s with port := (s.carried h k p).port } := State.passOn_eq s _

theorem length_slotBytes : ∀ l : List SlotReading, (l.flatMap SlotReading.bytes).length = 3 * l.length
  | [] => rfl
  | r :: l => by
    rw [List.flatMap_cons, List.length_append, length_slotBytes l, List.length_cons]
    have hbytes : (SlotReading.bytes r).length = 3 := rfl
    omega

theorem length_potSamplePayload (time : Long) (slots : Vector SlotReading 8) (extra : List Byte) :
    (potSamplePayload time slots extra).length = 28 + extra.length := by
  unfold potSamplePayload
  rw [List.length_append, List.length_append, length_be32, length_slotBytes, Vector.length_toList]

/-- A POT-SAMPLE that is taken is worked on the state that passed it on. -/
theorem exec_potSample {s : State} {h : Header} {time : Long} {slots : Vector SlotReading 8} {extra : List Byte}
    (ht : s.takes h .potSample = true) (hx : extra.length ≤ 32) : exec (.potSample h time slots extra) s
      = .next ((s.carried h .potSample (potSamplePayload time slots extra)).takePotSample h.src slots) := by
  have hlength := length_potSamplePayload time slots extra
  refine congrArg Host.Outcome.next (State.frameRow_of_takes _ ht ?_ ?_)
  · rw [hlength]
    exact Nat.le_add_right _ _
  · rw [hlength, Config.payloadMax]
    omega

/-- The masks of low ones, up to a width (R4, R145). -/
theorem isMask_iff {bits v : Nat} : isMask bits v = true ↔ ∃ n ≤ bits, v + 1 = 2 ^ n := by
  simp [isMask]

theorem MapMode.baseMax_eq (m : MapMode) : m.baseMax = if m = .direct then 383 else 511 := by cases m <;> rfl

theorem nearest_zero (hi v : Nat) : nearest 0 hi v = min v hi := by
  unfold nearest
  split_ifs <;> omega

/-- The section map is not read by the arbiter. -/
theorem State.Settled.withMap {s : State} (hs : s.Settled) (m : SectionMap) : State.Settled { s with smap := m } :=
  hs.of_offers rfl fun src => by cases src <;> rfl

/-! ### A frame and its slots (R1 to R3) -/

theorem State.takePotSample_of_none {s : State} {src : Addr} (hactive : s.active = true)
    (hnone : (s.smap.windows.toList.filter fun w => w.hits src) = []) (slots : Vector SlotReading 8) :
    s.takePotSample src slots = { s with smap.unmatched := bump32 s.smap.unmatched } := by
  unfold State.takePotSample
  simp only [hactive, hnone, if_true]

theorem State.takePotSample_of_some {s : State} {src : Addr} {w : SectionWindow} {more : List SectionWindow} (hactive : s.active = true)
    (hsome : (s.smap.windows.toList.filter fun w => w.hits src) = w :: more) (slots : Vector SlotReading 8) :
    s.takePotSample src slots = (List.finRange 8).foldl (fun s i => s.takeSlot w src i.val slots[i])
      { s with smap.overlap := if more = [] then s.smap.overlap else bump32 s.smap.overlap } := by
  unfold State.takePotSample
  simp only [hactive, hsome, if_true]
  cases more with
  | nil => rfl
  | cons x more => rfl

section
variable {s : State} {w : SectionWindow} {src : Addr} {slot : Nat} {r : SlotReading}

/-- The index of a slot in the frame of a window (R2). -/
def SectionWindow.indexOf (w : SectionWindow) (src : Addr) (slot : Nat) : Nat := w.indexBase + (src &&& w.mask).toNat * 8 + slot

/-- What a slot hands to its pot (R2). -/
def SlotReading.handed (r : SlotReading) (src : Addr) (slot : Nat) : Reading :=
  { vp := r.voltage.toNat, marker := r.marker, src := src, slot := slot }

theorem State.takeSlot_direct (hr : r.marker ≠ 7) (hw : w.mode = .direct) (h : w.indexOf src slot < 384) :
    s.takeSlot w src slot r = s.takeReading ⟨w.indexOf src slot, h⟩ (SlotReading.handed r src slot) := by
  unfold State.takeSlot
  rw [if_neg hr]
  simp only [hw]
  exact dif_pos h

theorem State.takeSlot_direct_error (hr : r.marker ≠ 7) (hw : w.mode = .direct) (h : 384 ≤ w.indexOf src slot) :
    s.takeSlot w src slot r = s.mapError .mapRange src slot (w.indexOf src slot) := by
  unfold State.takeSlot
  rw [if_neg hr]
  simp only [hw]
  exact dif_neg (Nat.not_lt.mpr h)

theorem State.takeSlot_mapped_error (hr : r.marker ≠ 7) (hw : w.mode = .mapped) (h : 512 ≤ w.indexOf src slot) :
    s.takeSlot w src slot r = s.mapError .mapRange src slot (w.indexOf src slot) := by
  unfold State.takeSlot
  rw [if_neg hr]
  simp only [hw]
  exact dif_neg (Nat.not_lt.mpr h)

theorem State.takeSlot_mapped (hr : r.marker ≠ 7) (hw : w.mode = .mapped) (h : w.indexOf src slot < 512) :
    s.takeSlot w src slot r = (s.smap.potMap[w.indexOf src slot].elim (s.mapError .mapInvalid src slot (w.indexOf src slot))
      fun p => s.takeReading p (SlotReading.handed r src slot)) := by
  unfold State.takeSlot
  rw [if_neg hr]
  unfold SectionWindow.indexOf at h ⊢
  simp only [hw]
  refine (dif_pos h).trans ?_
  cases s.smap.potMap[w.indexBase + (src &&& w.mask).toNat * 8 + slot] <;> rfl

end

/-! ### WRITEs of SECTION and MAP (R4, R5) -/

theorem State.writeSection_be32 (s : State) (i f : Nat) (v : Long) (rest : List Byte) : s.writeSection i f (be32 v ++ rest)
    = if h : i < 8 then s.writeSectionField ⟨i, h⟩ f v.toNat else s.refuse .badIndex := by
  unfold State.writeSection
  rw [State.needing_be32, valueOf_be32]

theorem State.writeMap_be32 (s : State) (i : Nat) (v : Long) (rest : List Byte) : s.writeMap i (be32 v ++ rest)
    = if h : i < 512 then s.writeMapEntry ⟨i, h⟩ v.toNat else s.refuse .badIndex := by
  unfold State.writeMap
  rw [State.needing_be32, valueOf_be32]

theorem mapModeOf_of_le {v : Long} (hv : v.toNat ≤ 1) : mapModeOf v.toNat = some (if v = 1 then .mapped else .direct) := by
  rcases Nat.le_one_iff_eq_zero_or_eq_one.mp hv with h | h
  · obtain rfl : v = 0 := BitVec.eq_of_toNat_eq h
    rfl
  · obtain rfl : v = 1 := BitVec.eq_of_toNat_eq h
    rfl

theorem mapModeOf_of_lt {v : Nat} (hv : 1 < v) : mapModeOf v = none := (if_neg (by omega)).trans (if_neg (by omega))

/-- Settles O25: the window that is used, a slot by its index, and the two WRITEs field by field. -/
theorem potSamplesAreTranslatedSlotBySlot : Obligations.PotSamplesAreTranslatedSlotBySlot := by
  refine ⟨?sample, ?slot, ?writeSection, ?writeMap⟩
  case sample =>
    intro h time slots extra s ht hx u hit
    have hexec := exec_potSample (time := time) (slots := slots) ht hx
    have hu : u = { s with port := u.port } := s.carried_eq h _ _
    have hmode : u.meu.mode = s.meu.mode := by rw [hu]
    have hmap : u.smap = s.smap := by rw [hu]
    have hhit : (u.smap.windows.toList.filter fun w => w.hits h.src) = hit := by
      rw [hmap]
      rfl
    have hactive : s.meu.mode ≠ .forwardOnly → u.active = true := fun hm => by
      rw [State.offers_iff_of_active, hmode]
      exact hm
    refine ⟨fun hforward => hexec.trans (congrArg Host.Outcome.next ?_), fun hm hnone => hexec.trans (congrArg Host.Outcome.next ?_),
      fun w more hm hsome => hexec.trans (congrArg Host.Outcome.next ?_)⟩
    · exact if_neg (Bool.eq_false_iff.mp ((u.active_eq_false_iff).mpr (hmode.trans hforward)))
    · rw [← hmap]
      exact State.takePotSample_of_none (hactive hm) (hhit.trans hnone) slots
    · rw [← hmap]
      exact State.takePotSample_of_some (hactive hm) (hhit.trans hsome) slots
  case slot =>
    intro s w src slot r index error reading
    refine ⟨fun hr => if_pos hr, fun hr hw h => State.takeSlot_direct_error hr hw h, fun h hr hw => State.takeSlot_direct hr hw h,
      fun hr hw h => State.takeSlot_mapped_error hr hw h, fun h hr hw => (State.takeSlot_mapped hr hw h).trans ?_⟩
    unfold SectionWindow.indexOf
    cases s.smap.potMap[w.indexBase + (src &&& w.mask).toNat * 8 + slot] <;> rfl
  case writeSection =>
    intro h index field v rest s ha hs c bad
    have hwork : s.counted.writeObject .sectionWindow index.toNat field.toNat (be32 v ++ rest)
        = if h : index.toNat < 8 then s.counted.writeSectionField ⟨index.toNat, h⟩ field.toNat v.toNat else s.counted.refuse .badIndex :=
      State.writeSection_be32 _ _ _ _ _
    have hanswer : ∀ {r : Reply}, s.counted.writeObject .sectionWindow index.toNat field.toNat (be32 v ++ rest) = (s.counted, r) →
        exec c s = .next (s.replied h r) := fun hr => exec_writeRow_be32 rfl ha hr hs
    refine ⟨fun hbad => hanswer (hwork.trans (dif_neg (Nat.not_lt.mpr hbad))), fun w hw => ?_⟩
    intro x gives hi
    have hlt : index.toNat < 8 := hw ▸ w.isLt
    have hwindow : (⟨index.toNat, hlt⟩ : Fin 8) = w := Fin.ext hw.symm
    rw [dif_pos hlt, hwindow] at hwork
    have hgives : ∀ {y : SectionWindow} {n : Nat}, s.counted.writeSectionField w field.toNat v.toNat
        = (State.counted { s with smap.windows := s.smap.windows.set w y }, writeReply v n) → gives y n := fun hr =>
      exec_writeRow_be32 rfl ha (hwork.trans hr) (hs.withMap _)
    refine ⟨?_, ?_, ?_, ?_, ?_, ?_⟩
    · rintro rfl hv
      refine hgives ?_
      rw [writeReply_self]
      unfold State.writeSectionField
      exact State.writeFlag_of_le hv _
    · rintro rfl hv
      refine hgives ?_
      rw [writeReply_self]
      unfold State.writeSectionField
      exact State.writeUpTo_of_le hv _
    · rintro n rfl hn hv
      refine hgives ?_
      rw [writeReply_self]
      unfold State.writeSectionField
      have hreply : replyOf .ok (be32 v) = replyOf .ok (be32 (BitVec.ofNat 32 v.toNat)) := by rw [Long.ofNat_toNat]
      rw [hreply]
      exact if_pos (isMask_iff.mpr ⟨n, hn, hv⟩)
    · rintro rfl hv
      refine hgives ?_
      rw [writeReply_self]
      unfold State.writeSectionField
      exact State.writeChoice_of_some (mapModeOf_of_le hv) _
    · rintro rfl
      refine hgives ?_
      have hmax : hi = s.smap.windows[w].mode.baseMax := (MapMode.baseMax_eq _).symm
      rw [hmax, ← nearest_zero]
      unfold State.writeSectionField
      exact writeClamped_eq (Nat.zero_le _) v _
    · intro hbad
      refine hanswer (hwork.trans ?_)
      rcases hbad with ⟨rfl | rfl, hv⟩ | ⟨rfl, hv⟩ | ⟨rfl, hv⟩ | hfield
      · unfold State.writeSectionField
        exact State.writeFlag_of_lt hv _
      · unfold State.writeSectionField
        exact State.writeChoice_of_none (mapModeOf_of_lt hv) _
      · unfold State.writeSectionField
        exact State.writeUpTo_of_lt hv _
      · unfold State.writeSectionField
        exact if_neg fun hmask => by
          obtain ⟨n, hn, heq⟩ := isMask_iff.mp hmask
          exact hv n hn heq
      · obtain ⟨m, hm⟩ := Nat.exists_eq_add_of_le hfield
        rw [hm, Nat.add_comm]
        rfl
  case writeMap =>
    intro h index field v rest s ha hs c gives
    have hwork : s.counted.writeObject .map index.toNat field.toNat (be32 v ++ rest)
        = if h : index.toNat < 512 then s.counted.writeMapEntry ⟨index.toNat, h⟩ v.toNat else s.counted.refuse .badIndex :=
      State.writeMap_be32 _ _ _ _
    have hanswer : ∀ {r : Reply}, s.counted.writeObject .map index.toNat field.toNat (be32 v ++ rest) = (s.counted, r) →
        exec c s = .next (s.replied h r) := fun hr => exec_writeRow_be32 rfl ha hr hs
    refine ⟨fun hbad => hanswer (hwork.trans (dif_neg (Nat.not_lt.mpr hbad))), fun i hi => ?_⟩
    have hlt : index.toNat < 512 := hi ▸ i.isLt
    have hentry : (⟨index.toNat, hlt⟩ : Fin 512) = i := Fin.ext hi.symm
    rw [dif_pos hlt, hentry] at hwork
    have hgives : ∀ e : Option (Fin 384), s.counted.writeMapEntry i v.toNat
        = (State.counted { s with smap.potMap := s.smap.potMap.set i e }, replyOf .ok (be32 (BitVec.ofNat 32 v.toNat))) → gives i e :=
      fun e hr => by
        rw [BitVec.ofNat_toNat] at hr
        exact exec_writeRow_be32 rfl ha (hwork.trans hr) (hs.withMap _)
    unfold State.writeMapEntry at hwork hgives
    refine ⟨fun p hp => hgives _ ?_, fun hunused => hgives _ ?_, fun hhigh hne => hanswer (hwork.trans ?_)⟩
    · have hlow : v.toNat < 384 := hp ▸ p.isLt
      have hpot : (⟨v.toNat, hlow⟩ : Fin 384) = p := Fin.ext hp
      rw [dif_pos hlow, hpot]
      rfl
    · rw [hunused]
      rfl
    · have hne' : v.toNat ≠ 65535 := fun h => hne (BitVec.eq_of_toNat_eq h)
      rw [dif_neg (Nat.not_lt.mpr hhigh), if_neg hne']
      rfl

end Sys2Proof.Machine
end

section
/-! SUPPORT. What an event and a pot order do on a settled part, as changes of the records: the forms that the statements on pots and effects
are read from. -/

namespace Sys2Proof.Machine

/-! ### An event on a settled part (R164, R171) -/

/-- What an event reads of the part, but for its send lists. -/
def State.signals (s : State) := (s.port, s.time, s.stamp, s.address, s.meu)

theorem State.Settled.onlyReports {s : State} (hs : s.Settled) (k : EventKind) (j a b : Nat) :
    ∀ x, x ≠ .report → State.mayEnter { s with
      meu := s.meu.takeEvent k
      port := s.port.record s.time { kind := k, day := s.stamp.1, ms := s.stamp.2, subject := j, a := a, b := b } } x = false := by
  intro x hx
  have hno := s.settled_iff.mp hs x
  have hinsert : ∀ r : EventRecord, (s.port.record s.time r).insert = s.port.insert := by
    intro r
    unfold Port.record Port.append
    split
    · rfl
    · split <;> rfl
  simp only [State.mayEnter, hinsert] at hno ⊢
  cases x with
  | report => exact absurd rfl hx
  | _ => exact hno

/-- Where the REPORT builder alone may place frames, the ring port after the arbiter rests on the port and the addresses. -/
theorem State.arbitrate_port (n : Nat) : ∀ {s t : State}, (∀ x, x ≠ .report → s.mayEnter x = false) →
    (∀ x, x ≠ .report → t.mayEnter x = false) → t.port = s.port → t.address = s.address → t.meu.supervisor = s.meu.supervisor →
    (t.arbitrate n).port = (s.arbitrate n).port := by
  induction n with
  | zero => exact fun _ _ h _ _ => h
  | succ n ih =>
    intro s t hs ht hport haddress hsupervisor
    have hmay : t.mayEnter = s.mayEnter := by
      funext x
      by_cases hx : x = .report
      · subst hx
        simp only [State.mayEnter, State.offers, hport]
      · rw [hs x hx, ht x hx]
    have hnext : t.nextSource = s.nextSource := by
      unfold State.nextSource
      rw [hport, hmay]
    cases h : s.nextSource with
    | none => rw [State.arbitrate_of_settled h, State.arbitrate_of_settled (hnext.trans h), hport]
    | some src =>
      have hsrc : src = .report := by
        by_contra hne
        exact absurd (State.mayEnter_of_nextSource h) (by simp [hs src hne])
      subst hsrc
      have hround : ∀ {u : State}, (∀ x, x ≠ .report → u.mayEnter x = false) → u.mayEnter .report = true →
          ∀ x, x ≠ .report → (u.round .report).mayEnter x = false := by
        intro u hu hreport x hx
        by_contra hc
        obtain ⟨-, hoffers, -⟩ := ((u.round .report).mayEnter_iff x).mp (by simpa using hc)
        have hoffers' : u.offers x = true := by cases x <;> first | exact absurd rfl hx | exact hoffers
        exact absurd ((u.mayEnter_iff x).mpr ⟨((u.mayEnter_iff .report).mp hreport).1, hoffers', fun hr => absurd hr hx⟩) (by simp [hu x hx])
      have hreport := State.mayEnter_of_nextSource h
      rw [State.arbitrate_succ h, State.arbitrate_succ (hnext.trans h)]
      refine ih (hround hs hreport) (hround ht (hmay ▸ hreport)) ?_ haddress hsupervisor
      simp only [State.round, State.enterFrom, State.buildReport_eq, hport, haddress, hsupervisor]

/-- An event on a settled part is that of another settled part whose ring port, clock, address and management unit are the same. -/
theorem State.raise_beside {s t : State} (hs : s.Settled) (ht : t.Settled) (h : t.signals = s.signals) (k : EventKind) (j a b : Nat) :
    t.raise k j a b = { t with port := (s.raise k j a b).port, meu := (s.raise k j a b).meu } := by
  simp only [State.signals, Prod.mk.injEq] at h
  obtain ⟨hport, htime, hstamp, haddress, hmeu⟩ := h
  have hraised : (t.raise k j a b).port = (s.raise k j a b).port := by
    refine State.arbitrate_port 32 (hs.onlyReports k j a b) (ht.onlyReports k j a b) ?_ haddress ?_
    · simp only [hport, htime, hstamp]
    · simp only [hmeu]
  have hmeus : (s.raise k j a b).meu = s.meu.takeEvent k := by rw [State.raise_of_settled hs]
  rw [State.raise_of_settled ht, hraised, hmeus, hmeu]

/-! ### A pot order on a settled part (R31, R161) -/

/-- A frame of the part's own stays out of the insert queue: it is for 0xFFFF, or the queue is full (R157, R161; log 42). -/
def State.waits (s : State) (f : Frame) : Bool := !sendable f || decide (32 ≤ s.port.insert.length)

/-- The ring port with a frame of a source entered where it does not wait. -/
def State.portWith (s : State) (src : Source) (f : Frame) : Port :=
  if s.waits f then s.port else { s.port.enter f with pointer := src.next }

/-- A settled part that is active, with a place free, holds no pot frame back. -/
theorem State.Settled.psuEmpty {s : State} (hs : s.Settled) (hactive : s.active = true) (hroom : s.port.insert.length < 32) :
    s.psu.sendList = [] := by
  by_contra hne
  have hmay : s.mayEnter .psu = true := (s.mayEnter_iff .psu).mpr ⟨hroom, by simp [State.offers, hactive, hne], nofun⟩
  exact absurd hmay (by simp [s.settled_iff.mp hs .psu])

/-- The frame of a pot order just decided, on a settled part. -/
theorem State.sendPotOrder_of_settled {s : State} (hs : s.Settled) (hactive : s.active = true) (p : Fin 384) (f : Frame) :
    s.sendPotOrder p f = { s with
      psu := { s.psu with
        pots := if s.waits f then s.psu.pots else s.psu.pots.set p ((s.pot p).clearUnsent f.seq)
        sendList := (s.psu.sendList.filter fun e => e.1 != p) ++ if s.waits f = true ∧ f.dest ≠ Config.broadcast then [(p, f)] else [] }
      port := s.portWith .psu f } := by
  have hno := s.settled_iff.mp hs
  unfold State.sendPotOrder State.portWith
  dsimp only
  by_cases hf : sendable f = true
  · have hdest := (sendable_iff f).mp hf
    rw [if_pos hf]
    by_cases hroom : s.port.insert.length < 32
    · have hwaits : s.waits f = false := by simp [State.waits, hf, hroom]
      have hempty := hs.psuEmpty hactive hroom
      have hother : ∀ x, x ≠ Source.psu → State.mayEnter { s with psu.sendList := [(p, f)] } x = false := fun x hx => by
        have hx' := hno x
        cases x <;> first | exact absurd rfl hx | exact hx'
      have hpsu : State.mayEnter { s with psu.sendList := [(p, f)] } .psu = true := by
        rw [State.mayEnter_iff]
        exact ⟨hroom, (Bool.and_eq_true _ _).mpr ⟨hactive, rfl⟩, nofun⟩
      rw [hwaits, hempty]
      simp only [List.filter_nil, List.nil_append, Bool.false_eq_true, if_false, false_and]
      refine (State.settle_of_only hpsu hother (Bool.and_false _) fun x hx => ?_).trans rfl
      cases x <;> first | exact absurd rfl hx | rfl
    · have hwaits : s.waits f = true := by simp [State.waits, Nat.not_lt.mp hroom]
      rw [hwaits]
      simp only [if_true, true_and, if_pos hdest]
      refine State.settle_of_settled ((State.settled_iff _).mpr fun x => ?_)
      simp [State.mayEnter, Config.insertPlaces, hroom]
  · have hdest : ¬f.dest ≠ Config.broadcast := fun h => hf ((sendable_iff f).mpr h)
    have hwaits : s.waits f = true := by simp [State.waits, hf]
    rw [if_neg hf, hwaits]
    simp [hdest]

/-- Where the frame of a pot order on a settled part stands. -/
theorem State.orderPlaced_of_port {s t : State} {p : Fin 384} {f : Frame} (hport : t.port = s.portWith .psu f)
    (hlist : s.waits f = true → f.dest ≠ Config.broadcast → (p, f) ∈ t.psu.sendList) : t.orderPlaced p f (s.waits f) := by
  unfold State.orderPlaced
  split
  · next hdest => simp [State.waits, sendable, hdest]
  · next hdest =>
    by_cases hwaits : s.waits f = true
    · exact .inr ⟨hwaits, hlist hwaits hdest⟩
    · refine .inl ⟨Bool.not_eq_true _ ▸ hwaits, ?_⟩
      rw [hport, State.portWith, if_neg hwaits]
      simp [Port.enter]

theorem State.portWith_fields (s : State) (src : Source) (f : Frame) :
    (s.portWith src f).forward = s.port.forward ∧ (s.portWith src f).buffer = s.port.buffer
      ∧ (s.portWith src f).insert = s.port.insert ++ if s.waits f then [] else [f] := by
  unfold State.portWith
  split <;> simp [Port.enter]

/-- The outstanding order of kind `k` of pot `p` that a decision makes, with its frame (R31). -/
def State.potOrder (s : State) (k : OrderKind) (node : Addr) (slot : Nat) : PotOrder :=
  { kind := k, seq := s.psu.seq, sent := s.time, dest := node, slot := slot
    unsent := s.waits (potOrderFrame s.address node s.psu.seq slot k) }

/-- What a decided order leaves of the records of the pots and of the ring port, on a settled part. -/
def State.ordered (s : State) (p : Fin 384) (k : OrderKind) (node : Addr) (slot : Nat) : State :=
  let f := potOrderFrame s.address node s.psu.seq slot k
  { s with
    psu := { s.psu with
      pots := s.psu.pots.set p { s.pot p with order := some (s.potOrder k node slot) }
      sendList := (s.psu.sendList.filter fun e => e.1 != p) ++ if s.waits f = true ∧ node ≠ Config.broadcast then [(p, f)] else []
      seq := s.psu.seq + 1 }
    port := s.portWith .psu f }

theorem State.decidePotOrder_of_settled {s : State} (hs : s.Settled) (hactive : s.active = true) {p : Fin 384} {node : Addr} {slot : Nat}
    (haddress : (s.pot p).orderAddress = some (node, slot)) (k : OrderKind) : s.decidePotOrder p k = s.ordered p k node slot := by
  unfold State.decidePotOrder
  simp only [haddress]
  have hset : ∀ o : PotOrder, State.Settled { s with psu := { s.psu with
      pots := s.psu.pots.set p { s.pot p with order := some o }, seq := s.psu.seq + 1 } } := fun _ => hs.of_offers rfl fun src => by cases src <;> rfl
  refine (State.sendPotOrder_of_settled (hset _) hactive p _).trans ?_
  unfold State.ordered State.potOrder
  dsimp only
  generalize hf : potOrderFrame s.address node s.psu.seq slot k = f
  have hwaits : ∀ q : Psu, State.waits { s with psu := q } f = s.waits f := fun _ => rfl
  rw [hwaits]
  cases h : s.waits f
  · simp [State.portWith, State.waits, State.pot, Pot.clearUnsent, ← hf, potOrderFrame]
  · simp [State.portWith, State.waits, State.pot, ← hf, potOrderFrame]

/-! ### A QUENCH order on a settled part (R47, R53) -/

/-- The part with the QUENCH order of pot `p` decided: order, attempts, timeout and counters (R47). -/
def State.quenching (s : State) (p : Fin 384) (node : Addr) (slot : Nat) : State :=
  let u := s.ordered p .quench node slot
  { u with
    psu := { u.psu with pots := s.psu.pots.set p { s.pot p with
      order := some (s.potOrder .quench node slot), attempts := (s.pot p).attempts + 1, ae := .quenching
      fx := { (s.pot p).fx with quenchDue := none, quenchTimeout := some (s.time + s.line.ae.tqx * 1000) } } }
    aeu := { s.aeu with
      log := s.aeu.amended (s.pot p).logIndex fun r => { r with ordersSent := r.ordersSent + 1 }
      counters.quenchSent := bump32 s.aeu.counters.quenchSent } }

theorem State.decideQuench_of_settled {s : State} (hs : s.Settled) (hactive : s.active = true) {p : Fin 384} {node : Addr} {slot : Nat}
    (haddress : (s.pot p).orderAddress = some (node, slot)) : s.decideQuench p = s.quenching p node slot := by
  unfold State.decideQuench
  rw [State.decidePotOrder_of_settled hs hactive haddress]
  simp only [State.modOpenRecord_eq_amended]
  unfold State.quenching State.ordered State.modPot State.pot
  simp

@[simp] theorem State.pot_quenching (s : State) (p : Fin 384) (node : Addr) (slot : Nat) : (s.quenching p node slot).pot p = { s.pot p with
    order := some (s.potOrder .quench node slot), attempts := (s.pot p).attempts + 1, ae := .quenching
    fx := { (s.pot p).fx with quenchDue := none, quenchTimeout := some (s.time + s.line.ae.tqx * 1000) } } := Vector.getElem_set_self ..

theorem State.pot_quenching_of_ne (s : State) {p k : Fin 384} (h : k ≠ p) (node : Addr) (slot : Nat) :
    (s.quenching p node slot).pot k = s.pot k :=
  Vector.getElem_set_ne p.isLt k.isLt fun e => h (Fin.ext e.symm)

theorem State.orderPlaced_quenching (s : State) (p : Fin 384) (node : Addr) (slot : Nat) :
    (s.quenching p node slot).orderPlaced p (potOrderFrame s.address node s.psu.seq slot .quench) (s.potOrder .quench node slot).unsent := by
  refine State.orderPlaced_of_port rfl fun hwaits hdest => List.mem_append_right _ ?_
  rw [if_pos ⟨hwaits, hdest⟩]
  exact List.mem_singleton_self _

/-! ### A closing by force on a settled part (R57) -/

theorem State.closeRecord_eq (s : State) (p : Fin 384) (cause : EndCause) : s.closeRecord p cause = { s with
    psu.pots := s.psu.pots.set p { s.pot p with logIndex := none, fx := { (s.pot p).fx with energyRemainder := 0, persistent := false } }
    aeu.log := s.aeu.amended (s.pot p).logIndex (closedRecord cause (s.pot p).fx.duration) } := by
  unfold State.closeRecord
  dsimp only
  rw [State.modOpenRecord_eq_amended]
  rfl

/-- An effect's record closed with its event, and the pot QUIET: on a settled part whose signals are those of `s`. -/
theorem State.closed_of_settled {s u : State} (hs : s.Settled) (hu : u.Settled) (h : u.signals = s.signals) (p : Fin 384) (cause : EndCause) :
    ((u.closeRecord p cause).raiseAeEnd p cause).modPot p Pot.quieted = { u with
      psu.pots := u.psu.pots.set p { (u.pot p).quieted with
        logIndex := none, fx := { (u.pot p).quieted.fx with energyRemainder := 0, persistent := false } }
      aeu.log := u.aeu.amended (u.pot p).logIndex (closedRecord cause (u.pot p).fx.duration)
      meu := (s.raise .aeEnd p.val (min ((u.pot p).fx.duration / 1000) 65535) cause.code).meu
      port := (s.raise .aeEnd p.val (min ((u.pot p).fx.duration / 1000) 65535) cause.code).port } := by
  have hset : (u.closeRecord p cause).Settled := by
    rw [State.closeRecord_eq]
    exact hu.of_offers rfl fun src => by cases src <;> rfl
  have hsignals : (u.closeRecord p cause).signals = s.signals := by
    rw [State.closeRecord_eq]
    exact h
  have hduration : ((u.closeRecord p cause).pot p).fx.duration = (u.pot p).fx.duration := by
    rw [State.closeRecord_eq]
    simp [State.pot]
  unfold State.raiseAeEnd
  rw [State.raise_beside hs hset hsignals, hduration, State.closeRecord_eq]
  simp [State.modPot, State.pot, Pot.quieted, sat16]

theorem State.endSpan_eq (s : State) (p : Fin 384) : s.endSpan p = { s with
    psu.pots := s.psu.pots.set p { s.pot p with fx.duration := (s.pot p).fx.duration + (s.time - (s.pot p).fx.spanStart) }
    aeu.count := s.aeu.count - 1, line.aeHold := decide (s.line.ae.holdLimit ≤ s.aeu.count - 1) } := rfl

theorem State.endSpan_pot (s : State) (p : Fin 384) : (s.endSpan p).pot p
    = { s.pot p with fx.duration := (s.pot p).fx.duration + (s.time - (s.pot p).fx.spanStart) } := by
  simp [State.endSpan_eq, State.pot]

/-- What a closing by force leaves on a settled part (R57). -/
def State.closing (s : State) (p : Fin 384) (cause : EndCause) : State :=
  { s with
    psu.pots := s.psu.pots.set p (s.closedPot (s.pot p))
    aeu := s.closedAeu (s.pot p) cause, line.aeHold := s.closedHold (s.pot p)
    meu := (s.endRaised p cause).meu, port := (s.endRaised p cause).port }

@[simp] theorem State.pot_closing (s : State) (p : Fin 384) (cause : EndCause) : (s.closing p cause).pot p = s.closedPot (s.pot p) :=
  Vector.getElem_set_self ..

@[simp] theorem State.closing_set (s : State) (p : Fin 384) (cause : EndCause) (x : Pot) :
    (s.closing p cause).psu.pots.set p x = s.psu.pots.set p x := Vector.set_set ..

theorem State.forceClose_of_settled {s : State} (hs : s.Settled) (p : Fin 384) (cause : EndCause) :
    s.forceClose p cause = s.closing p cause := by
  unfold State.closing
  have hspan : (s.pot p).ae.counted = true →
      (((s.endSpan p).closeRecord p cause).raiseAeEnd p cause).modPot p Pot.quieted = { s with
    psu.pots := s.psu.pots.set p (s.closedPot (s.pot p))
    aeu := s.closedAeu (s.pot p) cause, line.aeHold := s.closedHold (s.pot p)
    meu := (s.endRaised p cause).meu, port := (s.endRaised p cause).port } := by
    intro hcounted
    have hset : (s.endSpan p).Settled := hs.of_offers rfl fun src => by cases src <;> rfl
    rw [State.closed_of_settled hs hset rfl]
    cases hae : (s.pot p).ae with
    | quiet | suspect | clearing => exact absurd (hae ▸ hcounted) (by decide)
    | active | quenching =>
      rw [State.endSpan_pot, State.endSpan_eq]
      simp only [State.closedPot, State.closedAeu, State.closedHold, State.endRaised, State.durationNow, hae, AeState.inEffect, AeState.counted]
      simp [Pot.quieted]
      rfl
  unfold State.forceClose
  cases hae : (s.pot p).ae with
  | quiet =>
    simp only [State.closedPot, State.closedAeu, State.closedHold, State.endRaised, hae, AeState.inEffect, AeState.counted]
    simp [State.pot]
  | suspect =>
    simp only [State.closedPot, State.closedAeu, State.closedHold, State.endRaised, hae, AeState.inEffect, AeState.counted]
    rfl
  | clearing =>
    dsimp only
    rw [State.closed_of_settled hs hs rfl]
    simp only [State.closedPot, State.closedAeu, State.closedHold, State.endRaised, State.durationNow, hae, AeState.inEffect, AeState.counted]
    simp [Pot.quieted]
  | active => exact hspan (by rw [hae]; rfl)
  | quenching => exact hspan (by rw [hae]; rfl)

end Sys2Proof.Machine
end

section
/-! PROOFS. Silent pots (O32), the quench due and the quench timeout (O33, O34), and the DECLINED answer to a QUENCH order (O30). -/

namespace Sys2Proof.Machine

/-- A pot's record written as it stands. -/
theorem State.withPot_self (s : State) (p : Fin 384) : { s with psu.pots := s.psu.pots.set p (s.pot p) } = s := by
  have hpots : s.psu.pots.set p (s.pot p) = s.psu.pots := Vector.set_getElem_self _
  rw [hpots]

/-- The record of a pot that has been written. -/
@[simp] theorem State.pot_set (s : State) (p : Fin 384) (v : Vector Pot 384) (x : Pot) (seq : Byte) (list : List (Fin 384 × Frame))
    (c : PsuCounters) : State.pot { s with psu := { pots := v.set p x, seq := seq, sendList := list, counters := c } } p = x :=
  Vector.getElem_set_self _

theorem reached_of_le {now u : Nat} {o : Option Nat} (ho : o = some u) (hu : u ≤ now) : reached now o = true := by
  rw [ho]
  exact decide_eq_true hu

/-! ### The quench due (R47) -/

theorem State.supervising_iff (s : State) : s.supervising = true ↔ s.meu.mode = .supervising := by simp [State.supervising]

theorem State.active_of_supervising {s : State} (h : s.meu.mode = .supervising) : s.active = true := by
  rw [State.offers_iff_of_active, h]
  decide

theorem State.quenchReady_iff (s : State) (q : Pot) : s.quenchReady q = true ↔ q.ae = .active ∧ (∃ u, q.fx.quenchDue = some u ∧ u ≤ s.time)
    ∧ q.cfg.autoQuench = true ∧ q.fx.persistent = false ∧ s.meu.mode = .supervising ∧ q.orderAddress.isSome = true := by
  unfold State.quenchReady
  cases q.fx.quenchDue <;> simp [State.supervising, and_assoc]

/-- Settles O33: on a settled part the decision of a QUENCH order is `State.quenching`. -/
theorem quenchDueDecidesAnOrder : Obligations.QuenchDueDecidesAnOrder := by
  intro p s node slot u hlow hs hae hdue hu hauto hpersistent hmode haddress f
  have hready : s.quenchReady (s.pot p) = true :=
    (s.quenchReady_iff _).mpr ⟨hae, ⟨u, hdue, hu⟩, hauto, hpersistent, hmode, by rw [haddress]; rfl⟩
  have hexec : exec (.quenchDue p) s = .next (s.quenching p node slot) :=
    (State.expire_of_due hlow hready _).trans
      (congrArg Host.Outcome.next (State.decideQuench_of_settled hs (State.active_of_supervising hmode) haddress))
  obtain ⟨hforward, hbuffer, hinsert⟩ := s.portWith_fields .psu f
  exact ⟨_, _, hexec, s.orderPlaced_quenching p node slot, rfl, hforward, hbuffer, hinsert⟩

/-! ### The quench timeout (R53) -/

/-- An outstanding QUENCH order of a pot, and its waiting frame, go (R53, R54). -/
theorem State.cancelQuench_eq (s : State) (p : Fin 384) : s.cancelQuench p =
    if (s.pot p).order.any (fun o => o.kind == .quench) then s.dropPotOrder p else s := by
  unfold State.cancelQuench
  cases (s.pot p).order with
  | none => rfl
  | some o => cases h : o.kind <;> simp [OrderKind.advice, h]

theorem State.modPot_eq (s : State) (p : Fin 384) (f : Pot → Pot) :
    s.modPot p f = { s with psu.pots := s.psu.pots.set p (f (s.pot p)) } := rfl

theorem State.settled_dropPotOrder {s : State} (hs : s.Settled) (p : Fin 384) : (s.dropPotOrder p).Settled :=
  (Works.dropPotOrder .refl p : Works s .still _).settled hs

@[simp] theorem State.dropPotOrder_set (s : State) (p : Fin 384) (x : Pot) : (s.dropPotOrder p).psu.pots.set p x = s.psu.pots.set p x :=
  Vector.set_set ..

@[simp] theorem State.dropPotOrder_sendList (s : State) (p : Fin 384) :
    (s.dropPotOrder p).psu.sendList = s.psu.sendList.filter fun e => e.1 != p := rfl

/-- An order dropped before a decision leaves no trace behind it. -/
theorem State.quenching_dropPotOrder (s : State) (p : Fin 384) (node : Addr) (slot : Nat) :
    (s.dropPotOrder p).quenching p node slot = s.quenching p node slot := by
  unfold State.quenching State.ordered
  simp only [State.dropPotOrder_set, State.dropPotOrder_sendList, State.pot_dropPotOrder, List.filter_filter, Bool.and_self]
  rfl

theorem State.effectDuration_eq (s : State) (q : Pot) : s.effectDuration q = s.durationNow q := by
  unfold State.effectDuration State.durationNow
  split <;> rfl

/-- The effect is persistent: on a settled part whose signals are those of `s`. -/
theorem State.setPersistent_of_settled {s u : State} (hs : s.Settled) (hu : u.Settled) (h : u.signals = s.signals) (p : Fin 384) :
    u.setPersistent p = { u with
      psu.pots := u.psu.pots.set p { u.pot p with fx := { (u.pot p).fx with persistent := true, quenchTimeout := none } }
      aeu := { u.aeu with
        log := u.aeu.amended (u.pot p).logIndex fun r => { r with persistent := true }
        counters.persistent := bump32 u.aeu.counters.persistent }
      meu := (s.raise .aePersistent p.val (u.pot p).attempts (min (u.durationNow (u.pot p) / 1000) 65535)).meu
      port := (s.raise .aePersistent p.val (u.pot p).attempts (min (u.durationNow (u.pot p) / 1000) 65535)).port } := by
  unfold State.setPersistent
  dsimp only
  rw [State.modOpenRecord_eq_amended, State.effectDuration_eq]
  rw [State.raise_beside hs]
  · simp [State.modPot, State.pot, sat16]
  · exact hu.of_offers rfl fun src => by cases src <;> rfl
  · exact h

/-- Settles O34: by attempts, automatic quench and part mode. -/
theorem quenchTimeoutReordersOrPersists : Obligations.QuenchTimeoutReordersOrPersists := by
  intro p s u hlow hs hmode hae htimeout hu
  have hactive := (s.offers_iff_of_active).mpr hmode
  have hdue : s.quenchTimeoutDue p = true := by
    unfold State.quenchTimeoutDue
    rw [hactive, hae, reached_of_le htimeout hu]
    rfl
  have hexec : exec (.quenchTimeout p) s = .next (s.quenchExpires p) := State.expire_of_due hlow hdue _
  unfold State.quenchExpires at hexec
  dsimp only at hexec
  refine ⟨fun hattempts hno => ?_, ?_, ?_⟩
  · rw [hexec, if_neg (Nat.not_le.mpr hattempts), if_neg]
    rintro ⟨hauto, hsup, -⟩
    rw [State.supervising_iff] at hsup
    rcases hno with h | h
    · exact absurd (h.symm.trans hauto) (by decide)
    · exact absurd (h.symm.trans hsup) (by decide)
  · intro node slot hattempts hauto hsup haddress f
    rw [if_neg (Nat.not_le.mpr hattempts), if_pos ⟨hauto, (s.supervising_iff).mpr hsup, by rw [haddress]; rfl⟩] at hexec
    refine ⟨s.quenching p node slot, _, ?_, s.orderPlaced_quenching p node slot, ?_⟩
    · rw [hexec, State.cancelQuench_eq]
      split
      · rw [State.decideQuench_of_settled (State.settled_dropPotOrder hs p) hactive (by rw [State.pot_dropPotOrder]; exact haddress),
          State.quenching_dropPotOrder]
      · rw [State.decideQuench_of_settled hs hactive haddress]
    · unfold State.quenching
      rw [← hae]
      rfl
  · intro hattempts cancels
    rw [if_pos hattempts, State.cancelQuench_eq] at hexec
    by_cases hc : cancels = true
    · rw [if_pos hc, State.setPersistent_of_settled hs (State.settled_dropPotOrder hs p) rfl] at hexec
      refine ⟨_, hexec, ?_, ?_⟩
      · simp only [State.dropPotOrder_set, State.pot_dropPotOrder, if_pos hc]
        rfl
      · rw [State.pot_dropPotOrder]
        exact ⟨rfl, rfl⟩
    · rw [if_neg hc, State.setPersistent_of_settled hs hs rfl] at hexec
      refine ⟨_, hexec, ?_, rfl, rfl⟩
      simp only [if_neg hc]

/-! ### A silent pot (R12) -/

theorem State.settled_endRaised {s : State} (hs : s.Settled) (p : Fin 384) (cause : EndCause) : (s.endRaised p cause).Settled := by
  unfold State.endRaised
  split
  · exact (Works.raise (d := .still) .refl _ _ _ _).settled hs
  · exact hs

theorem State.endRaised_eq {s : State} (hs : s.Settled) (p : Fin 384) (cause : EndCause) :
    s.endRaised p cause = { s with meu := (s.endRaised p cause).meu, port := (s.endRaised p cause).port } := by
  unfold State.endRaised
  split
  · exact State.raise_beside hs hs rfl _ _ _ _
  · rfl

theorem State.closedPot_lastVoltage (s : State) (q : Pot) : (s.closedPot q).lastVoltage = q.lastVoltage := by
  unfold State.closedPot
  split_ifs <;> rfl

/-- Settles O32: a QUIET pot has nothing to close, and a closing by force leaves the event of the loss for last. -/
theorem silentPotsAreLost : Obligations.SilentPotsAreLost := by
  intro p s hlow hmode hsup hsilent q
  have hworked : (s.pot p).sup.worked = true := by rcases hsup with h | h <;> rw [h] <;> rfl
  have hdue : s.potLostDue p = true := by
    unfold State.potLostDue
    rw [(s.offers_iff_of_active).mpr hmode, hworked, decide_eq_true hsilent]
    rfl
  have hexec : exec (.potLost p) s = .next (s.losePot p) := State.expire_of_due hlow hdue _
  unfold State.losePot at hexec
  dsimp only at hexec
  refine ⟨fun hquiet => hexec.trans (congrArg Host.Outcome.next ?_), fun hs => ?_⟩
  · have hclose : s.forceClose p .noData = s := by
      unfold State.forceClose
      rw [hquiet]
    rw [hclose, State.modPot_eq, State.pot_dropPotOrder, State.dropPotOrder_set]
    simp only [State.pot_set]
    rfl
  · have hset : State.Settled (((s.forceClose p .noData).dropPotOrder p).modPot p fun q => { q with sup := .lost, dwell := 0 }) :=
      ((Works.dropPotOrder (Works.forceClose (d := .still) .refl p .noData) p).pot p).settled hs
    have hsignals : (((s.closing p .noData).dropPotOrder p).modPot p fun q => { q with sup := .lost, dwell := 0 }).signals
        = (s.endRaised p .noData).signals := by
      rw [State.endRaised_eq hs]
      rfl
    rw [State.forceClose_of_settled hs] at hset hexec
    rw [State.raise_beside (State.settled_endRaised hs p .noData) hset hsignals] at hexec
    refine ⟨_, hexec, ?_, ?_⟩
    · simp only [State.modPot_eq, State.pot_dropPotOrder, State.dropPotOrder_set, State.pot_closing, State.closing_set]
      rfl
    · simp only [State.modPot_eq, State.pot_set, State.pot_dropPotOrder, State.pot_closing, State.closedPot_lastVoltage]
      exact ⟨rfl, rfl⟩

theorem State.signals_raise {s : State} (hs : s.Settled) (k : EventKind) (j a b : Nat) :
    (s.raise k j a b).signals = ((s.raise k j a b).port, s.time, s.stamp, s.address, (s.raise k j a b).meu) := by
  have h := State.raise_of_settled hs k j a b
  simp only [State.signals, Prod.mk.injEq, true_and, and_true]
  exact ⟨(congrArg State.time h).trans rfl, (congrArg State.stamp h).trans rfl, (congrArg State.address h).trans rfl⟩

/-! ### A QUENCH order declined (R51) -/

/-- The part with a QUENCH order declined, but for the event and what the pot does then (R51). -/
def State.declined (s : State) (p : Fin 384) (x : Pot) (marks : AeRecord → AeRecord) : State :=
  { s with
    psu := { s.psu with pots := s.psu.pots.set p x, sendList := s.psu.sendList.filter fun e => e.1 != p }
    aeu := { s.aeu with
      log := s.aeu.amended (s.pot p).logIndex fun r => marks { r with declines := r.declines + 1 }
      counters.quenchDeclined := bump32 s.aeu.counters.quenchDeclined } }

/-- The event of the decline, on that part. -/
def State.declineRaised (s : State) (p : Fin 384) (seq : Byte) (v : State) : State :=
  { v with
    meu := (s.raise .quenchDeclined p.val (s.pot p).attempts seq.toNat).meu
    port := (s.raise .quenchDeclined p.val (s.pot p).attempts seq.toNat).port }

theorem State.settled_declined {s : State} (hs : s.Settled) (p : Fin 384) (x : Pot) (marks : AeRecord → AeRecord) :
    (s.declined p x marks).Settled :=
  (State.settled_dropPotOrder hs p).of_offers rfl fun src => by cases src <;> rfl

theorem State.raise_declined {s : State} (hs : s.Settled) (p : Fin 384) (seq : Byte) (x : Pot) (marks : AeRecord → AeRecord) :
    (s.declined p x marks).raise .quenchDeclined p.val (s.pot p).attempts seq.toNat = s.declineRaised p seq (s.declined p x marks) :=
  State.raise_beside hs (State.settled_declined hs p x marks) rfl _ _ _ _

theorem State.settled_declineRaised {s : State} (hs : s.Settled) (p : Fin 384) (seq : Byte) (x : Pot) (marks : AeRecord → AeRecord) :
    (s.declineRaised p seq (s.declined p x marks)).Settled := by
  rw [← State.raise_declined hs]
  exact (Works.raise (d := .still) .refl _ _ _ _).settled (State.settled_declined hs p x marks)

@[simp] theorem State.pot_declineRaised (s : State) (p : Fin 384) (seq : Byte) (x : Pot) (marks : AeRecord → AeRecord) :
    (s.declineRaised p seq (s.declined p x marks)).pot p = x := Vector.getElem_set_self ..

@[simp] theorem State.declineRaised_set (s : State) (p : Fin 384) (seq : Byte) (x y : Pot) (marks : AeRecord → AeRecord) :
    (s.declineRaised p seq (s.declined p x marks)).psu.pots.set p y = s.psu.pots.set p y := Vector.set_set ..

theorem Aeu.amended_amended (u : Aeu) (place : Option Nat) {f g : AeRecord → AeRecord} (hf : ∀ r, (f r).place = r.place) :
    Aeu.amended { u with log := u.amended place f } place g = u.amended place fun r => g (f r) := by
  cases place with
  | none => rfl
  | some pl =>
    simp only [Aeu.amended, List.map_map]
    refine List.map_congr_left fun r _ => ?_
    by_cases h : r.place = pl <;> simp [h, hf]

theorem State.declined_amended (s : State) (p : Fin 384) (seq : Byte) (x : Pot) (g : AeRecord → AeRecord) :
    (s.declineRaised p seq (s.declined p x id)).aeu.amended (s.pot p).logIndex g
      = s.aeu.amended (s.pot p).logIndex fun r => g { r with declines := r.declines + 1 } :=
  Aeu.amended_amended s.aeu (s.pot p).logIndex (f := fun r => { r with declines := r.declines + 1 }) fun _ => rfl

theorem State.quenchDeclined_of_settled {s : State} (hs : s.Settled) (p : Fin 384) (seq : Byte) :
    s.quenchDeclined p seq = (s.declineRaised p seq (s.declined p { s.pot p with order := none } id)).afterDecline p := by
  unfold State.quenchDeclined
  dsimp only
  rw [State.modOpenRecord_eq_amended, State.pot_dropPotOrder]
  exact congrArg (fun v : State => v.afterDecline p) (State.raise_declined hs p seq _ id)

/-- Settles O30: the decline, its event, and what the pot does then. -/
theorem declinedQuenchRestartsOrPersists : Obligations.DeclinedQuenchRestartsOrPersists := by
  intro h slot extra p o s ht hx ho hk ha hs c q free dropped goes due back fires
  have hexec : exec c s = .next ((s.declineRaised p o.seq (s.declined p free id)).afterDecline p) := by
    rw [exec_potAnswer_of_takes slot 2 ht hx, State.takePotAnswer_of_answers 2 ho ha, State.answerOrder_declined, hk]
    exact congrArg Host.Outcome.next (State.quenchDeclined_of_settled hs p o.seq)
  unfold State.afterDecline at hexec
  dsimp only at hexec
  rw [State.pot_declineRaised] at hexec
  have hset := State.settled_declineRaised hs p o.seq free id
  have hmode : (s.raise .quenchDeclined p.val q.attempts o.seq.toNat).meu.mode = s.meu.mode := by
    rw [State.raise_of_settled hs]
    rfl
  have hback : q.ae = .quenching → q.attempts = 1 →
      exec c s = .next ((s.declineRaised p o.seq (s.declined p back id)).tryQuench p) := fun hae hattempts => by
    rw [if_neg fun h => absurd (hattempts ▸ h.2) (by decide), if_pos ⟨hae, hattempts⟩] at hexec
    rw [hexec, State.modPot_eq, State.pot_declineRaised, State.declineRaised_set]
    rfl
  have hready : (s.declineRaised p o.seq (s.declined p back id)).quenchReady back = true ↔ fires ∧ q.orderAddress.isSome = true := by
    rw [State.quenchReady_iff]
    constructor
    · rintro ⟨-, ⟨u, hu, hle⟩, hauto, hpersistent, hm, haddress⟩
      have hle' : s.time + q.cfg.tqd * 1000 ≤ s.time := Option.some.inj hu ▸ hle
      exact ⟨⟨by omega, hauto, hpersistent, hmode ▸ hm⟩, haddress⟩
    · rintro ⟨⟨htqd, hauto, hpersistent, hm⟩, haddress⟩
      refine ⟨rfl, ⟨_, rfl, ?_⟩, hauto, hpersistent, hmode.trans hm, haddress⟩
      show s.time + q.cfg.tqd * 1000 ≤ s.time
      rw [htqd]
      exact le_refl _
  refine ⟨fun hae hattempts hno => ?_, fun node k hae hattempts hfires haddress => ?_, fun hae hattempts => ?_, fun hae => ?_⟩
  · have hwork := hback hae hattempts
    unfold State.tryQuench at hwork
    rw [State.pot_declineRaised, if_neg (mt hready.mp hno)] at hwork
    exact ⟨_, hwork, rfl, by rw [← hattempts]; exact ⟨rfl, rfl⟩⟩
  · have hwork := hback hae hattempts
    have hactive : (s.declineRaised p o.seq (s.declined p back id)).active = true :=
      State.active_of_supervising (hmode.trans hfires.2.2.2)
    unfold State.tryQuench at hwork
    rw [State.pot_declineRaised, if_pos (hready.mpr ⟨hfires, by rw [haddress]; rfl⟩),
      State.decideQuench_of_settled (State.settled_declineRaised hs p o.seq back id) hactive
        (by rw [State.pot_declineRaised]; exact haddress)] at hwork
    refine ⟨_, _, hwork, State.orderPlaced_quenching _ _ _ _, ?_, by rw [← hattempts]; rfl⟩
    unfold State.quenching State.ordered
    dsimp only
    rw [State.pot_declineRaised, State.declineRaised_set, show back.logIndex = (s.pot p).logIndex from rfl, State.declined_amended,
      show back.attempts + 1 = 2 from congrArg (· + 1) hattempts]
    rfl
  · rw [if_pos ⟨hae, hattempts⟩] at hexec
    have he : (s.raise .quenchDeclined p.val q.attempts o.seq.toNat).Settled := (Works.raise (d := .still) .refl _ _ _ _).settled hs
    rw [State.setPersistent_of_settled he hset, State.pot_declineRaised, State.declineRaised_set] at hexec
    · refine ⟨_, hexec, ?_, rfl, rfl⟩
      rw [show free.logIndex = (s.pot p).logIndex from rfl, State.declined_amended]
      rfl
    · rw [State.signals_raise hs]
      rfl
  · rw [if_neg fun h => hae h.1, if_neg fun h => hae h.1] at hexec
    exact ⟨_, hexec, rfl, rfl, rfl⟩

end Sys2Proof.Machine
end

section
/-! PROOFS. The writes of a pot configuration (O58). -/

namespace Sys2Proof.Machine

/-! ### What a reply leaves -/

section
variable (s : State) (h : Header) (r : Reply)

@[simp] theorem State.replied_psu : (s.replied h r).psu = s.psu := by
  unfold State.replied
  dsimp only
  split_ifs <;> rfl

@[simp] theorem State.pot_replied (p : Fin 384) : (s.replied h r).pot p = s.pot p := by
  unfold State.pot
  rw [State.replied_psu]

/-- The reply is placed, unless it is for 0xFFFF. -/
theorem State.hasReplied_replied : (s.replied h r).hasReplied (replyFrame s.address h.src h.seq r) := by
  intro hdest
  unfold State.replied
  dsimp only
  rw [if_neg (show h.src ≠ Config.broadcast from hdest)]
  split_ifs
  · exact .inl (by simp [Port.enter])
  · exact .inr (List.mem_append_right _ (List.mem_singleton_self _))

end

/-- What admits a request is read of its payload's length alone. -/
theorem State.admits_of_length {s : State} {h : Header} {p p' : List Byte} (ha : s.admits h p = true) (hlength : p'.length = p.length) :
    s.admits h p' = true := by
  unfold State.admits at ha ⊢
  rw [hlength]
  exact ha

/-! ### A pot disabled (R9, R37) -/

/-- An order dropped after an advice has been cancelled. -/
theorem State.cancelAdvice_dropPotOrder (s : State) (p : Fin 384) : (s.cancelAdvice p).dropPotOrder p = { s with psu := { s.psu with
    pots := s.psu.pots.set p { s.pot p with
      order := none, dwell := if (s.pot p).order.any fun o => o.kind != .quench then 0 else (s.pot p).dwell }
    sendList := s.psu.sendList.filter fun e => e.1 != p } } := by
  unfold State.cancelAdvice
  cases ho : (s.pot p).order with
  | none => simp [State.dropPotOrder_eq]
  | some o =>
    cases hk : o.kind with
    | quench => simp [OrderKind.advice, hk, State.dropPotOrder_eq]
    | raise | lower | check =>
      simp only [OrderKind.advice, hk, if_true]
      rw [State.dropPotOrder_eq (State.modPot _ _ _), State.pot_modPot, State.pot_dropPotOrder]
      simp [hk, State.modPot, State.dropPotOrder_eq, List.filter_filter]

@[simp] theorem State.counted_endRaised (s : State) (p : Fin 384) (cause : EndCause) :
    s.counted.endRaised p cause = (s.endRaised p cause).counted := by
  unfold State.endRaised
  by_cases h : (s.pot p).ae.inEffect = true
  · rw [if_pos h]
    exact (if_pos h).trans (State.counted_raise s _ _ _ _)
  · rw [if_neg h]
    exact if_neg h

theorem State.counted_closing (s : State) (p : Fin 384) (cause : EndCause) : s.counted.closing p cause = (s.closing p cause).counted := by
  unfold State.closing
  rw [State.counted_endRaised]
  rfl

/-- A QUIET pot has nothing to close (R57). -/
theorem State.closing_quiet {s : State} {p : Fin 384} (hquiet : (s.pot p).ae = .quiet) (cause : EndCause) :
    s.closedPot (s.pot p) = s.pot p ∧ s.closedAeu (s.pot p) cause = s.aeu ∧ s.closedHold (s.pot p) = s.line.aeHold
      ∧ s.endRaised p cause = s := by
  refine ⟨if_pos hquiet, ?_, ?_, ?_⟩
  · simp [State.closedAeu, hquiet, AeState.counted, AeState.inEffect]
  · simp [State.closedHold, hquiet, AeState.counted]
  · simp [State.endRaised, hquiet, AeState.inEffect]

/-- What a disabling leaves of a configured pot, on a settled part. -/
def State.disabled (s : State) (p : Fin 384) : State :=
  { s with
    psu := { s.psu with
      pots := s.psu.pots.set p { s.closedPot (s.pot p) with
        cfg.enabled := false, sup := .unconfigured, order := none, inhibitUntil := none, parked := none
        dwell := if (s.pot p).order.any fun o => o.kind != .quench then 0 else (s.pot p).dwell }
      sendList := s.psu.sendList.filter fun e => e.1 != p }
    aeu := s.closedAeu (s.pot p) .unconfigured, line.aeHold := s.closedHold (s.pot p)
    meu := (s.endRaised p .unconfigured).meu, port := (s.endRaised p .unconfigured).port }

theorem State.closedPot_rest (s : State) (q : Pot) :
    (s.closedPot q).order = q.order ∧ (s.closedPot q).dwell = q.dwell := by
  unfold State.closedPot
  split_ifs <;> exact ⟨rfl, rfl⟩

theorem State.disablePot_of_settled {s : State} (hs : s.Settled) {p : Fin 384} (hsup : (s.pot p).sup ≠ .unconfigured) :
    s.disablePot p = s.disabled p := by
  obtain ⟨horder, hdwell⟩ := s.closedPot_rest (s.pot p)
  unfold State.disablePot
  rw [if_neg hsup, State.forceClose_of_settled hs, State.cancelAdvice_dropPotOrder, State.pot_closing, State.closing_set, State.modPot_eq,
    horder, hdwell]
  simp only [State.pot_set, Vector.set_set]
  rfl

theorem State.counted_disabled (s : State) (p : Fin 384) : s.counted.disabled p = (s.disabled p).counted := by
  unfold State.disabled
  rw [State.counted_endRaised]
  rfl

/-! ### The writes -/

theorem State.writePot_be32 (s : State) (i f : Nat) (v : Long) (rest : List Byte) : s.writePot i f (be32 v ++ rest)
    = if h : i < 384 then s.writePotField ⟨i, h⟩ f v.toNat else s.refuse .badIndex := by
  unfold State.writePot
  rw [State.needing_be32, valueOf_be32]

theorem State.writePot_at (s : State) {i : Nat} {p : Fin 384} (hp : p.val = i) (f : Nat) (v : Long) (rest : List Byte) :
    s.writePot i f (be32 v ++ rest) = s.writePotField p f v.toNat := by
  subst hp
  rw [State.writePot_be32, dif_pos p.isLt]

/-- Settles O58: each field's write on the part with the request counted. -/
theorem potWritesFollowTheirFields : Obligations.PotWritesFollowTheirFields := by
  refine ⟨?refused, ?number, ?enable, ?disable, ?quench⟩
  case refused =>
    intro h pot field values s ha hs
    have hanswer : ∀ {r : Reply}, s.counted.writePot pot.toNat field.toNat values = (s.counted, r) →
        exec (.potWrite h pot field values) s = .next (s.replied h r) := fun hr =>
      congrArg Host.Outcome.next (State.requestRow_answered ha hs hr)
    refine ⟨fun hbad => hanswer ?_, fun hlong hpot => hanswer ?_⟩
    · unfold State.writePot State.needing
      split
      · rfl
      · next hlong =>
        obtain ⟨hpot, hfield⟩ := hbad.resolve_left hlong
        obtain ⟨m, hm⟩ := Nat.exists_eq_add_of_le hfield
        rw [dif_pos hpot, hm, Nat.add_comm]
        rfl
    · unfold State.writePot State.needing
      rw [if_neg (Nat.not_lt.mpr hlong), dif_neg (Nat.not_lt.mpr hpot)]
      rfl
  case number =>
    intro h pot p v rest s hp hs ha number
    have hwrite : ∀ (field : Byte) {t : State} {r : Reply}, s.counted.writePotField p field.toNat v.toNat = (t.counted, r) → t.Settled →
        t.address = s.address → exec (.potWrite h pot field (be32 v ++ rest)) s = .next (t.replied h r) := fun field t r hr ht haddress =>
      congrArg Host.Outcome.next (State.requestRow_replied (State.admits_of_length ha rfl)
        ((State.writePot_at _ hp _ _ _).trans hr) ht haddress)
    have hset : ∀ x : Pot, State.Settled { s with psu.pots := s.psu.pots.set p x } := fun _ => hs.of_offers rfl fun src => by cases src <;> rfl
    have hnumber : ∀ (field : Byte) (lo hi : Nat) (f : Nat → Pot → Pot), lo ≤ hi →
        (s.counted.writePotField p field.toNat v.toNat = writeClamped lo hi v.toNat fun w => s.counted.modPot p (f w)) → number field lo hi f :=
      fun field _ _ _ hle hr => hwrite field (hr.trans (writeClamped_eq hle v _)) (hset _) rfl
    refine ⟨?_, ?_, ?_, ?_, ?_, ?_, ?_, ?_, fun hv => hwrite 7 (t := s.modPot p fun q => { q with cfg.advice := decide (v = 1) }) ?_ (hset _) rfl,
      fun hv => hwrite 7 ?_ hs rfl⟩
    · exact hnumber 1 0 3000 (fun w q => { q with cfg.vb := w }) (by decide) rfl
    · exact hnumber 2 0 250000 (fun w q => { q with cfg.rt := w, dwell := 0 }) (by decide) rfl
    · exact hnumber 3 0 65535 (fun w q => { q with cfg.bw := w, dwell := 0 }) (by decide) rfl
    · exact hnumber 4 1 8 (fun w q => { q with cfg.k := w }) (by decide) rfl
    · exact hnumber 5 1 8 (fun w q => { q with cfg.kn := w }) (by decide) rfl
    · exact hnumber 6 0 65535 (fun w q => { q with cfg.nlim := w }) (by decide) rfl
    · exact hnumber 8 1 255 (fun w q => { q with cfg.nd := w, dwell := 0 }) (by decide) rfl
    · exact hnumber 10 0 255 (fun w q => { q with cfg.tqd := w }) (by decide) rfl
    · unfold State.writePotField
      exact State.writeFlag_of_le hv _
    · unfold State.writePotField
      exact State.writeFlag_of_lt hv _
  case enable =>
    intro h pot p extra s hp ha hs
    have hwork : s.counted.writePot pot.toNat 0 (be32 1 ++ extra) = (s.counted.enablePot p, replyOf .ok (be32 1)) := State.writePot_at _ hp _ _ _
    unfold State.enablePot at hwork
    refine ⟨fun hsup => congrArg Host.Outcome.next (State.requestRow_answered ha hs ?_),
      fun hsup => congrArg Host.Outcome.next (State.requestRow_replied ha ?_ (hs.of_offers rfl fun src => by cases src <;> rfl) rfl)⟩
    · exact hwork.trans (congrArg (·, _) (if_neg hsup))
    · exact hwork.trans (congrArg (·, _) (if_pos hsup))
  case disable =>
    intro h pot p extra s hp ha hs
    have hwork : s.counted.writePot pot.toNat 0 (be32 0 ++ extra) = (s.counted.disablePot p, replyOf .ok (be32 0)) := State.writePot_at _ hp _ _ _
    have hdisabled : (s.pot p).sup ≠ .unconfigured →
        exec (.potDisable h pot extra) s = .next ((s.disabled p).replied h (replyOf .ok (be32 0))) := fun hsup => by
      have hcounted : s.counted.Settled := hs.of_offers rfl fun src => by cases src <;> rfl
      have hset : (s.disabled p).Settled := State.disablePot_of_settled hs hsup ▸ (Works.disablePot .refl p : Works s .still _).settled hs
      refine congrArg Host.Outcome.next (State.requestRow_replied ha (hwork.trans ?_) hset rfl)
      rw [State.disablePot_of_settled hcounted hsup, State.counted_disabled]
    refine ⟨fun hsup => congrArg Host.Outcome.next (State.requestRow_answered ha hs (hwork.trans (congrArg (·, _) (if_pos hsup)))),
      fun hsup hquiet => (hdisabled hsup).trans ?_, fun hsup => ⟨_, hdisabled hsup, rfl⟩⟩
    obtain ⟨hpot, haeu, hhold, hraised⟩ := State.closing_quiet hquiet .unconfigured
    unfold State.disabled
    rw [hpot, haeu, hhold, hraised]
  case quench =>
    intro h pot p v rest s hp hs ha c written
    have hexec : ∀ {t : State} {r : Reply}, s.counted.writeAutoQuench p v.toNat = (t.counted, r) → t.Settled → t.address = s.address →
        exec c s = .next (t.replied h r) := fun {t r} hr ht haddress =>
      congrArg Host.Outcome.next (State.requestRow_replied ha ((State.writePot_at _ hp _ _ _).trans hr) ht haddress)
    have hset : written.Settled := hs.of_offers rfl fun src => by cases src <;> rfl
    have hpot : written.pot p = { s.pot p with cfg.autoQuench := decide (v = 1) } := State.pot_modPot s p _
    have hready : (written.counted).quenchReady (written.counted.pot p) = written.quenchReady (written.pot p) := rfl
    refine ⟨fun hv => hexec (State.writeFlag_of_lt hv _) hs rfl, fun hv hno => hexec ?_ hset rfl, fun hv hyes => ?_⟩
    · refine (State.writeFlag_of_le hv _).trans (congrArg (·, _) ?_)
      exact if_neg (Bool.eq_false_iff.mp (hready.trans hno))
    · obtain ⟨-, -, -, -, hmode, haddress⟩ := (written.quenchReady_iff _).mp hyes
      obtain ⟨⟨node, slot⟩, haddress⟩ := Option.isSome_iff_exists.mp haddress
      have hactive : written.active = true := State.active_of_supervising hmode
      have hquench := State.decideQuench_of_settled hset hactive haddress
      have hsettled : (written.quenching p node slot).Settled := hquench ▸ (Works.decideQuench .refl p : Works written .still _).settled hset
      have hcounted : written.counted.Settled := hset.of_offers rfl fun src => by cases src <;> rfl
      have hwork : s.counted.writeAutoQuench p v.toNat = ((written.quenching p node slot).counted, replyOf .ok (be32 v)) := by
        refine (State.writeFlag_of_le hv _).trans (congrArg (·, _) ?_)
        refine (if_pos (hready.trans hyes)).trans ?_
        exact State.decideQuench_of_settled hcounted hactive haddress
      have hown := (State.pot_replied (written.quenching p node slot) h (replyOf .ok (be32 v)) p).trans (written.pot_quenching p node slot)
      refine ⟨_, hexec hwork hsettled rfl, State.hasReplied_replied (written.quenching p node slot) h _, ?_, ?_, ?_, ?_, fun p' hp' => ?_⟩
      · rw [hown]
      · rw [hown]
      · rw [hown, hpot]
      · rw [hown]
        exact ⟨_, rfl, rfl, rfl⟩
      · rw [State.pot_replied]
        exact (written.pot_quenching_of_ne hp' node slot).trans (s.pot_modPot_of_ne _ hp')

end Sys2Proof.Machine
end

section
/-! SUPPORT. A POT-SAMPLE with one reading, and what a computable reading of a STARTING or RUNNING pot does, stage by stage (R10, R11). -/

namespace Sys2Proof.Machine

/-! ### The record of a reading (R10, R11) -/

theorem Pot.countStarting_eq (q : Pot) : q.countStarting = { q with
    startingCount := if q.sup = .starting then q.startingCount + 1 else q.startingCount
    sup := if q.sup = .starting then if 10 ≤ q.startingCount + 1 then .running else .starting else q.sup } := by
  unfold Pot.countStarting
  split_ifs <;> rfl

theorem Pot.workDwell_resistance (q : Pot) (before : AdviceCondition) : (q.workDwell before).lastResistance = q.lastResistance
    ∧ (q.workDwell before).lowV = q.lowV ∧ (q.workDwell before).sat = q.sat := by
  unfold Pot.workDwell
  split <;> exact ⟨rfl, rfl, rfl⟩

theorem Pot.stepFilters_resistance (q : Pot) (r : Nat) (tap : Bool) : (q.stepFilters r tap).lastResistance = q.lastResistance
    ∧ (q.stepFilters r tap).lowV = q.lowV ∧ (q.stepFilters r tap).sat = q.sat := by
  unfold Pot.stepFilters
  split_ifs <;> exact ⟨rfl, rfl, rfl⟩

/-- A computation changes the resistance, the filters and what follows them alone. -/
theorem Pot.compute_eq (q : Pot) (il vp : Nat) (tap : Bool) : q.compute il vp tap = { q with
    lastResistance := (resistance q.cfg.vb il vp).1, lowV := (resistance q.cfg.vb il vp).2.1, sat := (resistance q.cfg.vb il vp).2.2
    rf := (q.compute il vp tap).rf, nf := (q.compute il vp tap).nf, band := (q.compute il vp tap).band
    noisy := (q.compute il vp tap).noisy, dwell := (q.compute il vp tap).dwell } := by
  have hunread := q.unread_compute il vp tap
  have hresistance : (q.compute il vp tap).lastResistance = (resistance q.cfg.vb il vp).1
      ∧ (q.compute il vp tap).lowV = (resistance q.cfg.vb il vp).2.1 ∧ (q.compute il vp tap).sat = (resistance q.cfg.vb il vp).2.2 := by
    unfold Pot.compute
    dsimp only
    split
    · exact ⟨rfl, rfl, rfl⟩
    · obtain ⟨hdwell1, hdwell2, hdwell3⟩ := Pot.workDwell_resistance _ _
      obtain ⟨hstep1, hstep2, hstep3⟩ := Pot.stepFilters_resistance _ _ _
      exact ⟨hdwell1.trans hstep1, hdwell2.trans hstep2, hdwell3.trans hstep3⟩
  generalize q.compute il vp tap = x at hunread hresistance
  obtain ⟨hlast, hlow, hsat⟩ := hresistance
  rw [← hlast, ← hlow, ← hsat]
  exact congrArg (fun y : Pot => { y with
    lastResistance := x.lastResistance, lowV := x.lowV, sat := x.sat, rf := x.rf, nf := x.nf, band := x.band, noisy := x.noisy
    dwell := x.dwell }) hunread

theorem Pot.stepFilters_orderAddress (q : Pot) (a : Option (Addr × Nat)) (r : Nat) (tap : Bool) :
    Pot.stepFilters { q with orderAddress := a } r tap = { q.stepFilters r tap with orderAddress := a } := by
  unfold Pot.stepFilters
  split_ifs <;> rfl

theorem Pot.workDwell_orderAddress (q : Pot) (a : Option (Addr × Nat)) (before : AdviceCondition) :
    Pot.workDwell { q with orderAddress := a } before = { q.workDwell before with orderAddress := a } := by
  unfold Pot.workDwell
  dsimp only
  split <;> rfl

theorem Pot.compute_orderAddress (q : Pot) (a : Option (Addr × Nat)) (il vp : Nat) (tap : Bool) :
    Pot.compute { q with orderAddress := a } il vp tap = { q.compute il vp tap with orderAddress := a } := by
  unfold Pot.compute
  dsimp only
  generalize resistance q.cfg.vb il vp = r
  by_cases h : Pot.holds { q with lastResistance := r.1, lowV := r.2.1, sat := r.2.2 } tap = true
  · rw [if_pos h]
    exact if_pos h
  · rw [if_neg h]
    refine (if_neg h).trans (Eq.trans ?_ (Pot.workDwell_orderAddress _ a _))
    exact congrArg (fun x : Pot => x.classify.workDwell (adviceCondition q.band q.noisy))
      (Pot.stepFilters_orderAddress { q with lastResistance := r.1, lowV := r.2.1, sat := r.2.2 } a r.1 tap)

/-! ### A frame with one reading (R1, R2) -/

/-- A fold in which one element alone changes the state. -/
theorem foldl_of_only {α β : Type} {f : β → α → β} {k : α} (hother : ∀ t i, i ≠ k → f t i = t) :
    ∀ {l : List α}, l.Nodup → k ∈ l → ∀ s, l.foldl f s = f s k
  | [], _, hk, _ => absurd hk List.not_mem_nil
  | i :: l, hl, hk, s => by
    obtain ⟨hi, hl⟩ := List.nodup_cons.mp hl
    rw [List.foldl_cons]
    rcases List.mem_cons.mp hk with rfl | hk
    · have hrest : ∀ l : List α, k ∉ l → ∀ s, l.foldl f s = s := by
        intro l
        induction l with
        | nil => exact fun _ _ => rfl
        | cons x l ih =>
          intro hx s
          obtain ⟨hne, hx⟩ := not_or.mp (mt List.mem_cons.mpr hx)
          rw [List.foldl_cons, hother s x (Ne.symm hne), ih hx]
      exact hrest l hi _
    · rw [hother s i (fun h => hi (h ▸ hk)), foldl_of_only hother hl hk]

section
variable {s : State} {h : Header} {time : Long} {slots : Vector SlotReading 8} {extra : List Byte} {k : Fin 8} {p : Fin 384} {m : Byte}

theorem State.readsOne_iff : s.readsOne h slots k p m = true ↔ s.active = true
    ∧ (∃ w : SectionWindow, (s.smap.windows.toList.filter fun w => w.hits h.src) = [w] ∧ w.mode = .direct ∧ w.indexOf h.src k.val = p.val)
    ∧ ∀ i : Fin 8, slots[i].marker = if i = k then m else 7 := by
  unfold State.readsOne
  rw [Bool.and_eq_true, Bool.and_eq_true, and_assoc]
  refine and_congr_right fun _ => and_congr ?_ ?_
  · generalize (s.smap.windows.toList.filter fun w => w.hits h.src) = hit
    rcases hit with _ | ⟨w, _ | ⟨w', l⟩⟩
    · simp
    · simp [SectionWindow.indexOf]
    · simp
  · rw [List.all_eq_true]
    refine ⟨fun hall i => ?_, fun hall i _ => ?_⟩
    · have hi := hall i (List.mem_finRange i)
      split_ifs at hi ⊢ <;> exact beq_iff_eq.mp hi
    · have hi := hall i
      split_ifs at hi ⊢ <;> exact beq_iff_eq.mpr hi

/-- A POT-SAMPLE with one reading hands that reading to its pot. -/
theorem exec_potSample_of_readsOne (ht : s.takes h .potSample = true) (hx : extra.length ≤ 32) (hr : s.readsOne h slots k p m = true)
    (hm : m ≠ 7) : exec (.potSample h time slots extra) s = .next
      ((s.carried h .potSample (potSamplePayload time slots extra)).takeReading p
        { vp := slots[k].voltage.toNat, marker := m, src := h.src, slot := k.val }) := by
  obtain ⟨hactive, ⟨w, hhit, hmode, hindex⟩, hmarkers⟩ := State.readsOne_iff.mp hr
  rw [exec_potSample ht hx]
  generalize hu : s.carried h .potSample (potSamplePayload time slots extra) = u
  have hcarried : u = { s with port := u.port } := hu ▸ s.carried_eq h _ _
  have hmap : u.smap = s.smap := by rw [hcarried]
  have huactive : u.active = true := by
    rw [hcarried]
    exact hactive
  rw [State.takePotSample_of_some huactive (by rw [hmap]; exact hhit) slots, if_pos rfl]
  congr 1
  refine (foldl_of_only (k := k) (fun t i hi => ?_) (List.nodup_finRange 8) (List.mem_finRange k) _).trans ?_
  · have hi := (hmarkers i).trans (if_neg hi)
    exact if_pos hi
  · have hk := (hmarkers k).trans (if_pos rfl)
    have hlt : w.indexOf h.src k.val < 384 := hindex ▸ p.isLt
    have hpot : (⟨w.indexOf h.src k.val, hlt⟩ : Fin 384) = p := Fin.ext hindex
    rw [State.takeSlot_direct (by rw [hk]; exact hm) hmode hlt, hpot]
    unfold SlotReading.handed
    rw [hk]

end

theorem State.settled_carried {s : State} (hs : s.Settled) (h : Header) (k : TakenKind) (p : List Byte) : (s.carried h k p).Settled := by
  unfold State.carried
  by_cases hd : (frameOf h k p).dest = s.address
  · rw [State.passOn_of_addressed hd]
    exact hs
  · rw [State.passOn_of_passing hd]
    exact (Works.forward (d := .still) .refl _).settled hs

/-! ### A computable reading of a STARTING or RUNNING pot (R10, R11) -/

/-- The record of a pot that has been computed, as a reading without a marker leaves it for the units that follow (R11). -/
def State.computing (s : State) (p : Fin 384) (src : Addr) (slot vp : Nat) : Pot :=
  { (s.pot p).compute s.line.il vp false with orderAddress := some (src, slot) }

/-- What a computable reading writes last: the starting count, the voltage and the time (R10, R11). -/
def Pot.finished (q : Pot) (vp now : Nat) : Pot := { q.countStarting with lastVoltage := vp, lastTime := now }

section
variable {s : State} {p : Fin 384} {src : Addr} {slot vp : Nat}

theorem Supervision.worked_iff {x : Supervision} : x.worked = true ↔ x = .starting ∨ x = .running := by cases x <;> decide

theorem State.takeReading_of_worked (hsup : (s.pot p).sup.worked = true) (r : Reading) : s.takeReading p r =
    (((s.modPot p fun q => { q with orderAddress := some (r.src, r.slot) }).takeMarker p r.marker).workReading p r).modPot p
      fun q => { q with lastVoltage := r.vp, lastTime := s.time } := by
  have hno : (s.pot p).sup ≠ .unconfigured ∧ (s.pot p).sup ≠ .lost := by
    constructor <;> intro h <;> exact absurd (h ▸ hsup) (by decide)
  unfold State.takeReading
  rw [if_neg hno.1]
  dsimp only
  rw [State.pot_modPot, if_neg hno.2]

theorem State.workReading_of_computable (hsup : (s.pot p).sup.worked = true) (hc : s.computable = true) (r : Reading) :
    s.workReading p r = s.workComputable p r.vp (r.marker == 4) := by
  unfold State.workReading
  rcases Supervision.worked_iff.mp hsup with h | h <;> simp only [h, hc, if_true]

theorem State.takeReading_of_computable (hsup : (s.pot p).sup.worked = true) (hc : s.computable = true) :
    s.takeReading p { vp := vp, marker := 0, src := src, slot := slot }
      = ((State.decideAdvice { s with psu.pots := s.psu.pots.set p (s.computing p src slot vp) } p).workEffect p vp).modPot p
        fun q => q.finished vp s.time := by
  rw [State.takeReading_of_worked hsup, State.takeMarker, if_pos rfl, State.workReading_of_computable]
  · unfold State.workComputable
    simp only [State.modPot_modPot]
    unfold State.computing
    rw [← Pot.compute_orderAddress]
    rfl
  · rw [State.pot_modPot]
    exact hsup
  · exact hc

/-- An AE state other than QUIET decides no advice (R30). -/
theorem State.decideAdvice_of_effect (h : (s.pot p).ae ≠ .quiet) : s.decideAdvice p = s := by
  have hnone : s.adviceFor (s.pot p) = none := if_neg fun hc => h hc.2.2.1
  unfold State.decideAdvice
  simp only [hnone]

theorem Pot.compute_rest (q : Pot) (il vp : Nat) (tap : Bool) :
    (q.compute il vp tap).ae = q.ae ∧ (q.compute il vp tap).fx = q.fx ∧ (q.compute il vp tap).sup = q.sup
      ∧ (q.compute il vp tap).logIndex = q.logIndex ∧ (q.compute il vp tap).cfg = q.cfg ∧ (q.compute il vp tap).order = q.order
      ∧ (q.compute il vp tap).inhibitUntil = q.inhibitUntil ∧ (q.compute il vp tap).lastTime = q.lastTime := by
  rw [Pot.compute_eq]
  exact ⟨rfl, rfl, rfl, rfl, rfl, rfl, rfl, rfl⟩

/-! ### The trace and AE energy (R61, R63) -/

theorem State.traceReading_eq (s : State) (p : Fin 384) (vp : Nat) :
    s.traceReading p vp = { s with aeu := s.aeu.traced (s.pot p).logIndex vp } := by
  unfold State.traceReading
  cases (s.pot p).logIndex <;> rfl

/-- A reading that leaves the pot ACTIVE or QUENCHING. -/
theorem State.addAeEnergy_eq (hcounted : (s.pot p).ae.counted = true) (vp : Nat) :
    let e := s.aeEnergyOf (s.pot p).fx.vnorm (s.pot p).lastTime (s.pot p).fx.energyRemainder vp
    s.addAeEnergy p vp = { s with
      psu.pots := s.psu.pots.set p { s.pot p with fx.energyRemainder := (e.map Prod.snd).getD (s.pot p).fx.energyRemainder }
      aeu := s.aeu.powered (s.pot p).logIndex e, egu := s.egu.powered e } := by
  unfold State.addAeEnergy State.aeEnergyOf
  dsimp only
  by_cases h : (s.pot p).fx.vnorm < vp
  · rw [if_pos ⟨hcounted, h⟩, if_pos h, State.modOpenRecord_eq_amended, State.pot_modPot]
    rfl
  · rw [if_neg fun hc => h hc.2, if_neg h]
    exact (State.withPot_self s p).symm

end

/-- The statements' record of a computed pot is what the pot is computed to, with what a reading writes last. -/
theorem State.computedPot_eq (s : State) (p : Fin 384) (src : Addr) (slot vp : Nat) :
    s.computedPot p src slot vp = (s.computing p src slot vp).finished vp s.time := by
  unfold State.computedPot State.computing Pot.finished Pot.sampled
  rw [Pot.countStarting_eq, Pot.countStarting_eq]

theorem Pot.finished_eq (q : Pot) (vp now : Nat) : q.finished vp now = { q with
    startingCount := if q.sup = .starting then q.startingCount + 1 else q.startingCount
    sup := if q.sup = .starting then if 10 ≤ q.startingCount + 1 then .running else .starting else q.sup
    lastVoltage := vp, lastTime := now } := by
  unfold Pot.finished
  rw [Pot.countStarting_eq]

/-- A computation leaves the rest of the record, and the order address is the reading's. -/
theorem State.computing_eq (s : State) (p : Fin 384) (src : Addr) (slot vp : Nat) : s.computing p src slot vp =
    let x := (s.pot p).compute s.line.il vp false
    { s.pot p with
      lastResistance := (resistance (s.pot p).cfg.vb s.line.il vp).1, lowV := (resistance (s.pot p).cfg.vb s.line.il vp).2.1
      sat := (resistance (s.pot p).cfg.vb s.line.il vp).2.2
      rf := x.rf, nf := x.nf, band := x.band, noisy := x.noisy, dwell := x.dwell, orderAddress := some (src, slot) } := by
  unfold State.computing
  rw [Pot.compute_eq]

/-! ### A computable reading, from the row to the anode effect unit (R10, R11) -/

/-- Row `c` hands pot `p` of `s` one computable reading of voltage `vp` for a slot of `src`: `z` is the record computed, `w` the part with it,
`port` the ring port with the frame passed on (R10, R11). -/
structure State.Computes (s : State) (c : Instr) (p : Fin 384) (src : Addr) (slot vp : Nat) (port : Port) (z : Pot) (w : State) : Prop where
  run : exec c s = .next (((w.decideAdvice p).workEffect p vp).modPot p fun q => q.finished vp s.time)
  state : w = { s with port := port, psu.pots := s.psu.pots.set p z }
  base : s.Settled → State.Settled { s with port := port }
  record : z = s.computing p src slot vp

theorem exec_computableReading {s : State} {h : Header} {time : Long} {slots : Vector SlotReading 8} {extra : List Byte} {k : Fin 8} {p : Fin 384}
    (ht : s.takes h .potSample = true) (hx : extra.length ≤ 32) (hr : s.readsOne h slots k p = true) (hc : s.computable = true)
    (hsup : (s.pot p).sup = .starting ∨ (s.pot p).sup = .running) :
    let vp := slots[k].voltage.toNat
    ∃ port z w, s.carried h .potSample (potSamplePayload time slots extra) = { s with port := port }
      ∧ s.computedPot p h.src k vp = z.finished vp s.time ∧ s.Computes (.potSample h time slots extra) p h.src k vp port z w := by
  intro vp
  have hexec := exec_potSample_of_readsOne (time := time) (extra := extra) ht hx hr (by decide)
  have hu := s.carried_eq h .potSample (potSamplePayload time slots extra)
  have hsettled : s.Settled → (s.carried h .potSample (potSamplePayload time slots extra)).Settled := fun hs => State.settled_carried hs h _ _
  generalize s.carried h .potSample (potSamplePayload time slots extra) = u at hexec hu hsettled
  generalize u.port = port at hu
  subst hu
  rw [State.takeReading_of_computable (s := { s with port := port }) (Supervision.worked_iff.mpr hsup) hc] at hexec
  exact ⟨port, _, _, rfl, s.computedPot_eq p h.src k vp, hexec, rfl, hsettled, rfl⟩

namespace State.Computes
variable {s w : State} {c : Instr} {p : Fin 384} {src : Addr} {slot vp : Nat} {port : Port} {z : Pot}
variable (h : s.Computes c p src slot vp port z w)
include h

theorem pot : w.pot p = z := by
  rw [h.state]
  exact Vector.getElem_set_self ..

theorem other {p' : Fin 384} (hp : p' ≠ p) : w.pot p' = s.pot p' := by
  rw [h.state]
  exact Vector.getElem_set_ne p.isLt p'.isLt fun e => hp (Fin.ext e.symm)

theorem set (y : Pot) : w.psu.pots.set p y = s.psu.pots.set p y := by
  rw [h.state]
  exact Vector.set_set ..

theorem settled (hs : s.Settled) : w.Settled := by
  rw [h.state]
  exact (h.base hs).of_offers rfl fun src => by cases src <;> rfl

theorem line : w.line = s.line := by rw [h.state]

theorem now : w.time = s.time := by rw [h.state]

/-- The fields of the record that a computation leaves. -/
theorem fields : z.ae = (s.pot p).ae ∧ z.fx = (s.pot p).fx ∧ z.logIndex = (s.pot p).logIndex ∧ z.cfg = (s.pot p).cfg
    ∧ z.lastTime = (s.pot p).lastTime ∧ z.attempts = (s.pot p).attempts ∧ z.localQuench = (s.pot p).localQuench
    ∧ z.inhibitUntil = (s.pot p).inhibitUntil ∧ z.orderAddress = some (src, slot) ∧ z.order = (s.pot p).order ∧ z.sup = (s.pot p).sup
    ∧ z.faults = (s.pot p).faults ∧ z.glitches = (s.pot p).glitches := by
  rw [h.record, State.computing_eq]
  exact ⟨rfl, rfl, rfl, rfl, rfl, rfl, rfl, rfl, rfl, rfl, rfl, rfl, rfl⟩

theorem threshold {v : State} (hline : v.line = s.line) (htime : v.time = s.time) {a : Pot} (ha : a.inhibitUntil = (s.pot p).inhibitUntil) :
    v.onsetThreshold a = s.onsetThreshold (s.pot p) := by
  unfold State.onsetThreshold Pot.inhibited
  rw [ha, hline, htime]

theorem onsetThreshold : w.onsetThreshold (w.pot p) = s.onsetThreshold (s.pot p) := by
  obtain ⟨-, -, -, -, -, -, -, hinhibit, -⟩ := h.fields
  exact h.threshold h.line h.now (by rw [h.pot]; exact hinhibit)

/-- An AE state other than QUIET leaves the reading to the anode effect unit alone. -/
theorem run_of_effect (hae : (s.pot p).ae ≠ .quiet) : exec c s = .next ((w.workEffect p vp).modPot p fun q => q.finished vp s.time) := by
  have hz : (w.pot p).ae ≠ .quiet := by
    rw [h.pot, h.fields.1]
    exact hae
  rw [h.run, State.decideAdvice_of_effect hz]

end State.Computes

end Sys2Proof.Machine
end

section
/-! PROOFS. The clear end, the readings of an effect, and the trace store (O35). -/

namespace Sys2Proof.Machine

/-! ### The clear end (R54) -/

/-- The record of an effect that has ended, before a QUENCH order of its pot is cancelled (R54, R59). -/
def State.ended (s : State) (p : Fin 384) (cause : EndCause) : State :=
  { s with
    psu.pots := s.psu.pots.set p { s.pot p with
      ae := .quiet, logIndex := none, fx := { (s.pot p).fx with clearEnd := none, energyRemainder := 0, persistent := false } }
    aeu.log := s.aeu.amended (s.pot p).logIndex (closedRecord cause (s.pot p).fx.duration) }

theorem State.closeRecord_ended (s : State) (p : Fin 384) (cause : EndCause) :
    (s.modPot p fun q => { q with ae := .quiet, fx.clearEnd := none }).closeRecord p cause = s.ended p cause := by
  rw [State.closeRecord_eq, State.pot_modPot, State.modPot_eq]
  simp only [Vector.set_set]
  rfl

@[simp] theorem State.pot_ended (s : State) (p : Fin 384) (cause : EndCause) : (s.ended p cause).pot p = { s.pot p with
    ae := .quiet, logIndex := none, fx := { (s.pot p).fx with clearEnd := none, energyRemainder := 0, persistent := false } } :=
  Vector.getElem_set_self ..

/-- R54: the clear end of a CLEARING pot. -/
theorem clearEnd_ends {s : State} {p : Fin 384} {u : Nat} (hlow : s.resetLow = false) (hs : s.Settled) (hmode : s.meu.mode ≠ .forwardOnly)
    (hae : (s.pot p).ae = .clearing) (hend : (s.pot p).fx.clearEnd = some u) (hu : u ≤ s.time) :
    let cancels : Bool := (s.pot p).order.any fun o => o.kind == .quench
    let cause : EndCause := if 1 ≤ (s.pot p).attempts ∨ (s.pot p).localQuench = true then .quenched else .selfCleared
    ∃ t : State, exec (.clearEnd p) s = .next t
      ∧ t = { s with
          psu := { s.psu with
            pots := s.psu.pots.set p { s.pot p with
              ae := .quiet
              logIndex := none
              order := if cancels then none else (s.pot p).order
              fx := { (s.pot p).fx with clearEnd := none, energyRemainder := 0, persistent := false } }
            sendList := if cancels then s.psu.sendList.filter fun e => e.1 != p else s.psu.sendList }
          aeu.log := s.aeu.amended (s.pot p).logIndex (closedRecord cause (s.pot p).fx.duration)
          meu := t.meu, port := t.port }
      ∧ s.eventRaised t .aeEnd p.val (min ((s.pot p).fx.duration / 1000) 65535) cause.code := by
  intro cancels cause
  have hdue : s.clearEndDue p = true := by
    unfold State.clearEndDue
    rw [(s.offers_iff_of_active).mpr hmode, hae, reached_of_le hend hu]
    rfl
  have hexec : exec (.clearEnd p) s = .next (((s.ended p cause).cancelQuench p).raiseAeEnd p cause) := by
    rw [← State.closeRecord_ended]
    exact State.expire_of_due hlow hdue _
  have hended : (s.ended p cause).Settled := hs.of_offers rfl fun src => by cases src <;> rfl
  rw [State.cancelQuench_eq, State.pot_ended] at hexec
  unfold State.raiseAeEnd at hexec
  by_cases hc : cancels = true
  · rw [if_pos hc, State.raise_beside hs (State.settled_dropPotOrder hended p) rfl, State.pot_dropPotOrder, State.pot_ended] at hexec
    refine ⟨_, hexec, ?_, rfl, rfl⟩
    rw [if_pos hc, if_pos hc, State.dropPotOrder_eq, State.pot_ended]
    unfold State.ended
    simp only [Vector.set_set]
  · rw [if_neg hc, State.raise_beside hs hended rfl, State.pot_ended] at hexec
    refine ⟨_, hexec, ?_, rfl, rfl⟩
    rw [if_neg hc, if_neg hc]
    rfl

/-! ### The trace store (R61) -/

theorem extendLast_of_grows {pl level : Nat} {r : Run} {after : List Run} (hgrows : r.place = pl ∧ r.level = level ∧ r.count < 255)
    (hafter : ∀ x ∈ after, x.place ≠ pl) : ∀ before : List Run,
    extendLast pl level (before ++ r :: after) = some (before ++ { r with count := r.count + 1 } :: after)
  | [] => by
    have hany : ¬(after.any fun x => x.place == pl) = true := by simpa using hafter
    simp only [List.nil_append, extendLast]
    rw [if_neg hany, if_pos hgrows]
  | b :: before => by
    have hany : ((before ++ r :: after).any fun x => x.place == pl) = true := by simp [hgrows.1]
    simp only [List.cons_append, extendLast]
    rw [if_pos hany, extendLast_of_grows hgrows hafter before]
    rfl

theorem extendLast_of_not_grows {pl level : Nat} : ∀ {l : List Run},
    (∀ before r after, l = before ++ r :: after → (∀ x ∈ after, x.place ≠ pl) → ¬(r.place = pl ∧ r.level = level ∧ r.count < 255)) →
    extendLast pl level l = none
  | [], _ => rfl
  | r :: rest, h => by
    simp only [extendLast]
    by_cases hany : (rest.any fun x => x.place == pl) = true
    · rw [if_pos hany, extendLast_of_not_grows fun before x after heq => h (r :: before) x after (congrArg (r :: ·) heq)]
      rfl
    · rw [if_neg hany, if_neg (h [] r rest rfl (by simpa using hany))]

/-- A record's log with two changes at one place. -/
theorem map_place_map (pl : Nat) (f g : AeRecord → AeRecord) (hf : ∀ r, (f r).place = r.place) (l : List AeRecord) :
    (l.map fun r => if r.place = pl then f r else r).map (fun r => if r.place = pl then g r else r)
      = l.map fun r => if r.place = pl then g (f r) else r := by
  rw [List.map_map]
  refine List.map_congr_left fun r _ => ?_
  by_cases h : r.place = pl <;> simp [h, hf]

/-- A record with one reading more counted as a sample (R61). -/
def AeRecord.sample (r : AeRecord) : AeRecord := { r with samples := min (r.samples + 1) 65535 }

theorem Aeu.discardFirst_of_room {u : Aeu} (h : u.trace.length < Config.storeRuns) (l : List AeRecord) :
    Aeu.discardFirst { u with log := l } = { u with log := l } := if_pos h

theorem Aeu.discardFirst_of_full {u : Aeu} {g : Run} {rest : List Run} (h : Config.storeRuns ≤ u.trace.length) (htrace : u.trace = g :: rest)
    (l : List AeRecord) : Aeu.discardFirst { u with log := l } = { u with
      trace := rest
      log := l.map fun x => if x.place = g.place then { x with runCount := x.runCount - 1, truncated := true } else x
      counters.discardedRuns := bump32 u.counters.discardedRuns } := by
  unfold Aeu.discardFirst
  rw [if_neg (Nat.not_lt.mpr h)]
  simp only [htrace]

theorem enterTrace_cases (u : Aeu) (pl vp : Nat) :
    let level := min (vp / 250) 255
    let v := u.enterTrace pl vp
    let sampled (l : List AeRecord) (f : AeRecord → AeRecord) : List AeRecord :=
      l.map fun r => if r.place = pl then { f r with samples := min (r.samples + 1) 65535 } else r
    let discard (g : Run) (l : List AeRecord) : List AeRecord :=
      l.map fun r => if r.place = g.place then { r with runCount := r.runCount - 1, truncated := true } else r
    let fresh (r : AeRecord) : AeRecord := { r with peak := max r.peak vp, runCount := r.runCount + 1 }
    let grows (r : Run) : Prop := r.place = pl ∧ r.level = level ∧ r.count < 255
    (∀ before r after, u.trace = before ++ r :: after → grows r → (∀ x ∈ after, x.place ≠ pl) →
        v = { u with
          trace := before ++ { r with count := r.count + 1 } :: after
          log := sampled u.log fun r => { r with peak := max r.peak vp } })
      ∧ ((∀ before r after, u.trace = before ++ r :: after → (∀ x ∈ after, x.place ≠ pl) → ¬grows r) →
        let full : Prop := ∃ r ∈ u.log, r.place = pl ∧ Config.recordRuns ≤ r.runCount
        let run : Run := { place := pl, level := level, count := 1 }
        (full → v = { u with log := sampled u.log fun r => { r with truncated := true } })
          ∧ (¬full → u.trace.length < Config.storeRuns → v = { u with trace := u.trace ++ [run], log := sampled u.log fresh })
          ∧ (∀ g rest, ¬full → Config.storeRuns ≤ u.trace.length → u.trace = g :: rest →
            v = { u with
              trace := rest ++ [run], log := sampled (discard g u.log) fresh
              counters.discardedRuns := bump32 u.counters.discardedRuns })) := by
  intro level v sampled discard fresh grows
  refine ⟨fun before r after htrace hgrows hafter => ?_, fun hno => ?_⟩
  · have hextend : extendLast pl (levelOf vp) u.trace = some (before ++ { r with count := r.count + 1 } :: after) :=
      htrace ▸ extendLast_of_grows hgrows hafter before
    show u.enterTrace pl vp = _
    unfold Aeu.enterTrace
    simp only [hextend]
    exact congrArg (fun l => { u with trace := before ++ { r with count := r.count + 1 } :: after, log := l })
      (map_place_map pl AeRecord.sample (AeRecord.enter vp false) (fun _ => rfl) u.log)
  · intro full run
    have hextend : extendLast pl (levelOf vp) u.trace = none := extendLast_of_not_grows hno
    have hfull : ((u.log.map fun r => if r.place = pl then { r with samples := min (r.samples + 1) 65535 } else r).any
        fun r => r.place == pl && decide (Config.recordRuns ≤ r.runCount)) = true ↔ full := by
      rw [List.any_map, List.any_eq_true]
      refine exists_congr fun r => and_congr_right fun _ => ?_
      by_cases h : r.place = pl <;> simp [h]
    refine ⟨fun h => ?_, fun h hroom => ?_, fun g rest h hstore htrace => ?_⟩
    all_goals
      show u.enterTrace pl vp = _
      unfold Aeu.enterTrace
      simp only [hextend]
    · exact (if_pos (hfull.mpr h)).trans (congrArg (fun l => { u with log := l })
        (map_place_map pl AeRecord.sample (fun r => { r with truncated := true }) (fun _ => rfl) u.log))
    · refine (if_neg (mt hfull.mp h)).trans ?_
      rw [Aeu.discardFirst_of_room hroom]
      exact congrArg (fun l => { u with trace := u.trace ++ [run], log := l })
        (map_place_map pl AeRecord.sample (AeRecord.enter vp true) (fun _ => rfl) u.log)
    · refine (if_neg (mt hfull.mp h)).trans ?_
      rw [Aeu.discardFirst_of_full hstore htrace]
      refine congrArg (fun l => ({ u with
        trace := rest ++ [run], log := l, counters.discardedRuns := bump32 u.counters.discardedRuns } : Aeu)) ?_
      simp only [sampled, discard, List.map_map]
      refine List.map_congr_left fun r _ => ?_
      by_cases hpl : r.place = pl
      · by_cases hg : r.place = g.place
        · simp only [Function.comp_apply, if_pos hpl, if_pos hg]
          rfl
        · simp only [Function.comp_apply, if_pos hpl, if_neg hg]
          rfl
      · by_cases hg : r.place = g.place
        · simp only [Function.comp_apply, if_neg hpl, if_pos hg]
        · simp only [Function.comp_apply, if_neg hpl, if_neg hg]

/-! ### The readings of an effect (R52, R54) -/

section
variable {s : State} {p : Fin 384} {vp : Nat}

theorem State.workEffect_of_counted (hcounted : (s.pot p).ae.counted = true) (hmax : vp ≤ s.line.ae.vmax) :
    s.workEffect p vp = if vp < s.line.ae.vclr then s.beginClearing p vp else (s.traceReading p vp).addAeEnergy p vp := by
  have hno : ¬s.line.ae.vmax < vp := Nat.not_lt.mpr hmax
  unfold State.workEffect
  dsimp only
  cases hae : (s.pot p).ae with
  | quiet | suspect | clearing => exact absurd (hae ▸ hcounted) (by decide)
  | active | quenching => exact if_neg hno

theorem State.workEffect_of_clearing (hae : (s.pot p).ae = .clearing) (hmax : vp ≤ s.line.ae.vmax) :
    s.workEffect p vp = if vp < s.line.ae.vclr then s.traceReading p vp
      else if vp < s.onsetThreshold (s.pot p) then
        (s.modPot p fun q => { q with fx.clearEnd := some (s.time + s.line.ae.tclr * 1000) }).traceReading p vp
      else s.relapse p vp := by
  have hno : ¬s.line.ae.vmax < vp := Nat.not_lt.mpr hmax
  unfold State.workEffect
  simp only [hae, if_neg hno]

theorem State.beginClearing_eq (s : State) (p : Fin 384) (vp : Nat) :
    let d := (s.pot p).fx.duration + (s.time - (s.pot p).fx.spanStart)
    s.beginClearing p vp = { s with
      psu.pots := s.psu.pots.set p { s.pot p with
        ae := .clearing
        fx := { (s.pot p).fx with
          duration := d, quenchDue := none, quenchTimeout := none, clearEnd := some (s.time + s.line.ae.tclr * 1000) } }
      aeu := Aeu.traced { s.aeu with
        count := s.aeu.count - 1, log := s.aeu.amended (s.pot p).logIndex fun r => { r with duration := min d 4294967295 } }
        (s.pot p).logIndex vp
      line.aeHold := decide (s.line.ae.holdLimit ≤ s.aeu.count - 1) } := by
  intro d
  unfold State.beginClearing
  dsimp only
  rw [State.traceReading_eq, State.modOpenRecord_eq_amended, State.modPot_eq, State.endSpan_pot, State.endSpan_eq]
  simp only [State.pot, Fin.getElem_fin, Vector.getElem_set_self, Vector.set_set]
  rfl

/-- The record of a pot that relapses, before a quench order at once (R54). -/
def State.relapsed (s : State) (q : Pot) : Pot :=
  let fx := { q.fx with clearEnd := none, spanStart := s.time }
  if 1 ≤ q.attempts ∨ q.localQuench = true then
    { q with
      ae := .quenching
      fx := { fx with quenchTimeout := if q.fx.persistent then none else some (s.time + s.line.ae.tqx * 1000) } }
  else { q with ae := .active, fx := { fx with quenchDue := some (s.time + q.cfg.tqd * 1000) } }

/-- The part at a relapse, before a quench order at once (R54, R56). -/
def State.relapsing (s : State) (p : Fin 384) : State :=
  { s with
    psu.pots := s.psu.pots.set p (s.relapsed (s.pot p))
    aeu := { s.aeu with
      count := s.aeu.count + 1
      log := s.aeu.amended (s.pot p).logIndex fun r => { r with relapses := min (r.relapses + 1) 255 } }
    line.aeHold := decide (s.line.ae.holdLimit ≤ s.aeu.count + 1) }

@[simp] theorem State.pot_relapsing (s : State) (p : Fin 384) : (s.relapsing p).pot p = s.relapsed (s.pot p) := Vector.getElem_set_self ..

theorem State.relapsed_of_again (s : State) {q : Pot} (h : 1 ≤ q.attempts ∨ q.localQuench = true) : s.relapsed q = { q with
    ae := .quenching
    fx := { q.fx with
      clearEnd := none, spanStart := s.time
      quenchTimeout := if q.fx.persistent then none else some (s.time + s.line.ae.tqx * 1000) } } := if_pos h

theorem State.relapsed_of_not_again (s : State) {q : Pot} (h : ¬(1 ≤ q.attempts ∨ q.localQuench = true)) : s.relapsed q = { q with
    ae := .active, fx := { q.fx with clearEnd := none, spanStart := s.time, quenchDue := some (s.time + q.cfg.tqd * 1000) } } := if_neg h

theorem State.relapsed_logIndex (s : State) (q : Pot) : (s.relapsed q).logIndex = q.logIndex := by
  unfold State.relapsed
  dsimp only
  split_ifs <;> rfl

theorem State.relapse_eq (s : State) (p : Fin 384) (vp : Nat) :
    s.relapse p vp = (((s.relapsing p).tryQuench p).traceReading p vp).addAeEnergy p vp := by
  unfold State.relapse
  dsimp only
  rw [State.modOpenRecord_eq_amended, State.pot_modPot]
  refine congrArg (fun t : State => ((t.tryQuench p).traceReading p vp).addAeEnergy p vp) ?_
  unfold State.relapsing State.relapsed
  by_cases h : 1 ≤ (s.pot p).attempts ∨ (s.pot p).localQuench = true
  · simp only [State.modPot_eq, if_pos h]
    rfl
  · simp only [State.modPot_eq, if_neg h]
    rfl

/-! ### Each reading whole, with what is written last -/

/-- A reading of an ACTIVE or QUENCHING pot in its trace and its AE energy (R61, R63). -/
theorem State.traced_and_powered (hcounted : (s.pot p).ae.counted = true) (vp : Nat) (f : Pot → Pot) :
    let e := s.aeEnergyOf (s.pot p).fx.vnorm (s.pot p).lastTime (s.pot p).fx.energyRemainder vp
    ((s.traceReading p vp).addAeEnergy p vp).modPot p f = { s with
      psu.pots := s.psu.pots.set p (f { s.pot p with
        fx := { (s.pot p).fx with energyRemainder := (e.map Prod.snd).getD (s.pot p).fx.energyRemainder } })
      aeu := (s.aeu.traced (s.pot p).logIndex vp).powered (s.pot p).logIndex e, egu := s.egu.powered e } := by
  intro e
  rw [State.traceReading_eq, State.addAeEnergy_eq (s := { s with aeu := s.aeu.traced (s.pot p).logIndex vp }) hcounted, State.modPot_eq]
  simp only [State.pot, Fin.getElem_fin, Vector.getElem_set_self, Vector.set_set]
  rfl

theorem State.reading_adds (hcounted : (s.pot p).ae.counted = true) (hmax : vp ≤ s.line.ae.vmax) (hclr : s.line.ae.vclr ≤ vp) (f : Pot → Pot) :
    let e := s.aeEnergyOf (s.pot p).fx.vnorm (s.pot p).lastTime (s.pot p).fx.energyRemainder vp
    (s.workEffect p vp).modPot p f = { s with
      psu.pots := s.psu.pots.set p (f { s.pot p with
        fx := { (s.pot p).fx with energyRemainder := (e.map Prod.snd).getD (s.pot p).fx.energyRemainder } })
      aeu := (s.aeu.traced (s.pot p).logIndex vp).powered (s.pot p).logIndex e, egu := s.egu.powered e } := by
  rw [State.workEffect_of_counted hcounted hmax, if_neg (Nat.not_lt.mpr hclr)]
  exact State.traced_and_powered hcounted vp f

theorem State.reading_begins_clearing (hcounted : (s.pot p).ae.counted = true) (hmax : vp ≤ s.line.ae.vmax) (hclr : vp < s.line.ae.vclr)
    (f : Pot → Pot) :
    let d := (s.pot p).fx.duration + (s.time - (s.pot p).fx.spanStart)
    (s.workEffect p vp).modPot p f = { s with
      psu.pots := s.psu.pots.set p (f { s.pot p with
        ae := .clearing
        fx := { (s.pot p).fx with
          duration := d, quenchDue := none, quenchTimeout := none, clearEnd := some (s.time + s.line.ae.tclr * 1000) } })
      aeu := Aeu.traced { s.aeu with
        count := s.aeu.count - 1, log := s.aeu.amended (s.pot p).logIndex fun r => { r with duration := min d 4294967295 } }
        (s.pot p).logIndex vp
      line.aeHold := decide (s.line.ae.holdLimit ≤ s.aeu.count - 1) } := by
  intro d
  rw [State.workEffect_of_counted hcounted hmax, if_pos hclr, State.beginClearing_eq, State.modPot_eq]
  simp only [State.pot, Fin.getElem_fin, Vector.getElem_set_self, Vector.set_set]
  rfl

theorem State.reading_stays_clearing (hae : (s.pot p).ae = .clearing) (hmax : vp ≤ s.line.ae.vmax) (hclr : vp < s.line.ae.vclr) (f : Pot → Pot) :
    (s.workEffect p vp).modPot p f = { s with
      psu.pots := s.psu.pots.set p (f (s.pot p)), aeu := s.aeu.traced (s.pot p).logIndex vp } := by
  rw [State.workEffect_of_clearing hae hmax, if_pos hclr, State.traceReading_eq]
  rfl

theorem State.reading_restarts_clear_end (hae : (s.pot p).ae = .clearing) (hmax : vp ≤ s.line.ae.vmax) (hclr : s.line.ae.vclr ≤ vp)
    (honset : vp < s.onsetThreshold (s.pot p)) (f : Pot → Pot) :
    (s.workEffect p vp).modPot p f = { s with
      psu.pots := s.psu.pots.set p (f { s.pot p with
        fx := { (s.pot p).fx with clearEnd := some (s.time + s.line.ae.tclr * 1000) } })
      aeu := s.aeu.traced (s.pot p).logIndex vp } := by
  rw [State.workEffect_of_clearing hae hmax, if_neg (Nat.not_lt.mpr hclr), if_pos honset, State.traceReading_eq, State.pot_modPot,
    State.modPot_eq, State.modPot_eq]
  simp only [State.pot, Fin.getElem_fin, Vector.getElem_set_self, Vector.set_set]

/-- What a relapse leaves of the pot's record as it was. -/
theorem State.relapsed_rest (s : State) (q : Pot) : (s.relapsed q).logIndex = q.logIndex ∧ (s.relapsed q).fx.vnorm = q.fx.vnorm
    ∧ (s.relapsed q).lastTime = q.lastTime ∧ (s.relapsed q).fx.energyRemainder = q.fx.energyRemainder
    ∧ (s.relapsed q).orderAddress = q.orderAddress ∧ (s.relapsed q).ae.counted = true := by
  unfold State.relapsed
  dsimp only
  split_ifs <;> exact ⟨rfl, rfl, rfl, rfl, rfl, rfl⟩

/-- A relapse decides a quench order at once (R54). -/
theorem State.quenchReady_relapsing (haddress : (s.pot p).orderAddress.isSome = true) :
    (s.relapsing p).quenchReady (s.relapsed (s.pot p)) = true ↔ ¬(1 ≤ (s.pot p).attempts ∨ (s.pot p).localQuench = true)
      ∧ (s.pot p).cfg.tqd = 0 ∧ (s.pot p).cfg.autoQuench = true ∧ (s.pot p).fx.persistent = false ∧ s.meu.mode = .supervising := by
  rw [State.quenchReady_iff]
  by_cases h : 1 ≤ (s.pot p).attempts ∨ (s.pot p).localQuench = true
  · rw [State.relapsed_of_again s h]
    exact ⟨fun hready => AeState.noConfusion hready.1, fun hfires => absurd h hfires.1⟩
  · have htime : (∃ u, some (s.time + (s.pot p).cfg.tqd * 1000) = some u ∧ u ≤ s.time) ↔ (s.pot p).cfg.tqd = 0 := by
      constructor
      · rintro ⟨u, hu, hle⟩
        have := Option.some.inj hu
        omega
      · exact fun h0 => ⟨s.time, by rw [h0, Nat.zero_mul, Nat.add_zero], Nat.le_refl _⟩
    rw [State.relapsed_of_not_again s h]
    constructor
    · rintro ⟨-, hdue, hauto, hpersistent, hmode, -⟩
      exact ⟨h, htime.mp hdue, hauto, hpersistent, hmode⟩
    · rintro ⟨-, hdue, hauto, hpersistent, hmode⟩
      exact ⟨rfl, htime.mpr hdue, hauto, hpersistent, hmode, haddress⟩

/-- A reading that relapses without a quench order at once. -/
theorem State.reading_relapses (hae : (s.pot p).ae = .clearing) (hmax : vp ≤ s.line.ae.vmax) (hclr : s.line.ae.vclr ≤ vp)
    (honset : s.onsetThreshold (s.pot p) ≤ vp) (hno : (s.relapsing p).quenchReady (s.relapsed (s.pot p)) = false) (f : Pot → Pot) :
    let e := s.aeEnergyOf (s.pot p).fx.vnorm (s.pot p).lastTime (s.pot p).fx.energyRemainder vp
    (s.workEffect p vp).modPot p f = { s with
      psu.pots := s.psu.pots.set p (f { s.relapsed (s.pot p) with
        fx := { (s.relapsed (s.pot p)).fx with energyRemainder := (e.map Prod.snd).getD (s.pot p).fx.energyRemainder } })
      aeu := ((s.relapsing p).aeu.traced (s.pot p).logIndex vp).powered (s.pot p).logIndex e
      egu := s.egu.powered e, line.aeHold := decide (s.line.ae.holdLimit ≤ s.aeu.count + 1) } := by
  intro e
  obtain ⟨hlog, hvnorm, hlast, hrest, -, hcounted⟩ := s.relapsed_rest (s.pot p)
  have hcounted' : ((s.relapsing p).pot p).ae.counted = true := by rw [State.pot_relapsing]; exact hcounted
  rw [State.workEffect_of_clearing hae hmax, if_neg (Nat.not_lt.mpr hclr), if_neg (Nat.not_lt.mpr honset), State.relapse_eq, State.tryQuench,
    State.pot_relapsing, hno, if_neg Bool.false_ne_true, State.traced_and_powered hcounted', State.pot_relapsing, hlog, hvnorm, hlast, hrest]
  unfold State.relapsing
  simp only [Vector.set_set]
  rfl

/-- A reading that relapses with a quench order at once. -/
theorem State.reading_relapses_and_orders (hs : s.Settled) (hae : (s.pot p).ae = .clearing) (hmax : vp ≤ s.line.ae.vmax)
    (hclr : s.line.ae.vclr ≤ vp) (honset : s.onsetThreshold (s.pot p) ≤ vp) {node : Addr} {slot : Nat}
    (haddress : (s.pot p).orderAddress = some (node, slot))
    (hready : (s.relapsing p).quenchReady (s.relapsed (s.pot p)) = true) (f : Pot → Pot) :
    let e := s.aeEnergyOf (s.pot p).fx.vnorm (s.pot p).lastTime (s.pot p).fx.energyRemainder vp
    let q := (s.relapsing p).quenching p node slot
    (s.workEffect p vp).modPot p f = { q with
      psu.pots := s.psu.pots.set p (f { q.pot p with
        fx := { (q.pot p).fx with energyRemainder := (e.map Prod.snd).getD (s.pot p).fx.energyRemainder } })
      aeu := (q.aeu.traced (s.pot p).logIndex vp).powered (s.pot p).logIndex e
      egu := s.egu.powered e } := by
  intro e q
  obtain ⟨hlog, hvnorm, hlast, hrest, haddress', -⟩ := s.relapsed_rest (s.pot p)
  have hquench := ((s.relapsing p).quenchReady_iff _).mp hready
  have hactive : (s.relapsing p).active = true := State.active_of_supervising hquench.2.2.2.2.1
  have hsettled : (s.relapsing p).Settled := hs.of_offers rfl fun src => by cases src <;> rfl
  have hcounted : (q.pot p).ae.counted = true := by rw [State.pot_quenching]; rfl
  have hpots : q.psu.pots = (s.relapsing p).psu.pots.set p (q.pot p) := by rw [State.pot_quenching]; rfl
  rw [State.workEffect_of_clearing hae hmax, if_neg (Nat.not_lt.mpr hclr), if_neg (Nat.not_lt.mpr honset), State.relapse_eq, State.tryQuench,
    State.pot_relapsing, if_pos hready,
    State.decideQuench_of_settled hsettled hactive (by rw [State.pot_relapsing, haddress']; exact haddress), State.traced_and_powered hcounted,
    hpots]
  have hlogq : (q.pot p).logIndex = (s.pot p).logIndex := by rw [State.pot_quenching, State.pot_relapsing]; exact hlog
  have hvnormq : (q.pot p).fx.vnorm = (s.pot p).fx.vnorm := by rw [State.pot_quenching, State.pot_relapsing]; exact hvnorm
  have hlastq : (q.pot p).lastTime = (s.pot p).lastTime := by rw [State.pot_quenching, State.pot_relapsing]; exact hlast
  have hrestq : (q.pot p).fx.energyRemainder = (s.pot p).fx.energyRemainder := by rw [State.pot_quenching, State.pot_relapsing]; exact hrest
  rw [hlogq, hvnormq, hlastq, hrestq]
  have hset : (s.relapsing p).psu.pots.set p (q.pot p) = s.psu.pots.set p (q.pot p) := Vector.set_set ..
  rw [hset, Vector.set_set]
  rfl

end

section
variable {s w : State} {c : Instr} {p : Fin 384} {src : Addr} {slot vp : Nat} {port : Port} {z : Pot}
variable (h : s.Computes c p src slot vp port z w)
include h

/-- The pot of a computed reading stands in the AE count as it did. -/
theorem State.Computes.counted (hae : (s.pot p).ae = .active ∨ (s.pot p).ae = .quenching) :
    (s.pot p).ae ≠ .quiet ∧ (w.pot p).ae.counted = true := by
  rw [h.pot, h.fields.1]
  rcases hae with hq | hq <;> rw [hq] <;> exact ⟨nofun, rfl⟩

theorem State.Computes.adds (hae : (s.pot p).ae = .active ∨ (s.pot p).ae = .quenching) (hmax : vp ≤ s.line.ae.vmax)
    (hclr : s.line.ae.vclr ≤ vp) :
    let e := s.aeEnergyOf (s.pot p).fx.vnorm (s.pot p).lastTime (s.pot p).fx.energyRemainder vp
    exec c s = .next { s with
      port := port
      psu.pots := s.psu.pots.set p { z.finished vp s.time with
        fx := { (s.pot p).fx with energyRemainder := (e.map Prod.snd).getD (s.pot p).fx.energyRemainder } }
      aeu := (s.aeu.traced (s.pot p).logIndex vp).powered (s.pot p).logIndex e, egu := s.egu.powered e } := by
  obtain ⟨-, hfx, hlog, -, hlast, -⟩ := h.fields
  obtain ⟨hne, hcounted⟩ := h.counted hae
  rw [h.run_of_effect hne, State.reading_adds hcounted (h.line ▸ hmax) (h.line ▸ hclr), h.set, h.pot, hfx, hlog, hlast, Pot.finished_eq,
    Pot.finished_eq, h.state]
  rfl

theorem State.Computes.begins_clearing (hae : (s.pot p).ae = .active ∨ (s.pot p).ae = .quenching) (hmax : vp ≤ s.line.ae.vmax)
    (hclr : vp < s.line.ae.vclr) :
    let d := (s.pot p).fx.duration + (s.time - (s.pot p).fx.spanStart)
    exec c s = .next { s with
      port := port
      psu.pots := s.psu.pots.set p { z.finished vp s.time with
        ae := .clearing
        fx := { (s.pot p).fx with
          duration := d, quenchDue := none, quenchTimeout := none, clearEnd := some (s.time + s.line.ae.tclr * 1000) } }
      aeu := Aeu.traced { s.aeu with
        count := s.aeu.count - 1, log := s.aeu.amended (s.pot p).logIndex fun r => { r with duration := min d 4294967295 } }
        (s.pot p).logIndex vp
      line.aeHold := decide (s.line.ae.holdLimit ≤ s.aeu.count - 1) } := by
  obtain ⟨-, hfx, hlog, -⟩ := h.fields
  obtain ⟨hne, hcounted⟩ := h.counted hae
  rw [h.run_of_effect hne, State.reading_begins_clearing hcounted (h.line ▸ hmax) (h.line ▸ hclr), h.set, h.pot, hfx, hlog, Pot.finished_eq,
    Pot.finished_eq, h.state]

theorem State.Computes.stays_clearing (hae : (s.pot p).ae = .clearing) (hmax : vp ≤ s.line.ae.vmax) (hclr : vp < s.line.ae.vclr) :
    exec c s = .next { s with
      port := port, psu.pots := s.psu.pots.set p (z.finished vp s.time), aeu := s.aeu.traced (s.pot p).logIndex vp } := by
  obtain ⟨hz, -, hlog, -⟩ := h.fields
  rw [h.run_of_effect (by rw [hae]; nofun), State.reading_stays_clearing (by rw [h.pot, hz]; exact hae) (h.line ▸ hmax) (h.line ▸ hclr), h.set,
    h.pot, hlog, h.state]

theorem State.Computes.restarts_clear_end (hae : (s.pot p).ae = .clearing) (hmax : vp ≤ s.line.ae.vmax) (hclr : s.line.ae.vclr ≤ vp)
    (honset : vp < s.onsetThreshold (s.pot p)) : exec c s = .next { s with
      port := port
      psu.pots := s.psu.pots.set p { z.finished vp s.time with
        fx := { (s.pot p).fx with clearEnd := some (s.time + s.line.ae.tclr * 1000) } }
      aeu := s.aeu.traced (s.pot p).logIndex vp } := by
  obtain ⟨hz, hfx, hlog, -⟩ := h.fields
  rw [h.run_of_effect (by rw [hae]; nofun), State.reading_restarts_clear_end (by rw [h.pot, hz]; exact hae) (h.line ▸ hmax) (h.line ▸ hclr)
    (h.onsetThreshold ▸ honset), h.set, h.pot, hfx, hlog, Pot.finished_eq, Pot.finished_eq, h.state]

/-- The premises of a relapse, on the part with the record computed. -/
theorem State.Computes.relapse_premises (hae : (s.pot p).ae = .clearing) (hmax : vp ≤ s.line.ae.vmax) (hclr : s.line.ae.vclr ≤ vp)
    (honset : s.onsetThreshold (s.pot p) ≤ vp) :
    (w.pot p).ae = .clearing ∧ vp ≤ w.line.ae.vmax ∧ w.line.ae.vclr ≤ vp ∧ w.onsetThreshold (w.pot p) ≤ vp :=
  ⟨by rw [h.pot, h.fields.1]; exact hae, h.line ▸ hmax, h.line ▸ hclr, h.onsetThreshold ▸ honset⟩

theorem State.Computes.relapse_ready : (w.relapsing p).quenchReady (w.relapsed (w.pot p)) = true
    ↔ ¬(1 ≤ (s.pot p).attempts ∨ (s.pot p).localQuench = true) ∧ (s.pot p).cfg.tqd = 0 ∧ (s.pot p).cfg.autoQuench = true
      ∧ (s.pot p).fx.persistent = false ∧ s.meu.mode = .supervising := by
  obtain ⟨-, hfx, -, hcfg, -, hattempts, hlocal, -, haddress, -⟩ := h.fields
  rw [State.quenchReady_relapsing (by rw [h.pot, haddress]; rfl), h.pot, hattempts, hlocal, hcfg, hfx, h.state]

/-- A relapse without a quench order at once, from the record that it leaves. -/
theorem State.Computes.relapses (hae : (s.pot p).ae = .clearing) (hmax : vp ≤ s.line.ae.vmax) (hclr : s.line.ae.vclr ≤ vp)
    (honset : s.onsetThreshold (s.pot p) ≤ vp) (hno : (w.relapsing p).quenchReady (w.relapsed (w.pot p)) = false) {y : Pot}
    (hy : w.relapsed z = y) :
    let e := s.aeEnergyOf (s.pot p).fx.vnorm (s.pot p).lastTime (s.pot p).fx.energyRemainder vp
    exec c s = .next { s with
      port := port
      psu.pots := s.psu.pots.set p (Pot.finished { y with
        fx := { y.fx with energyRemainder := (e.map Prod.snd).getD (s.pot p).fx.energyRemainder } } vp s.time)
      aeu := (Aeu.traced { s.aeu with
        count := s.aeu.count + 1
        log := s.aeu.amended (s.pot p).logIndex fun r => { r with relapses := min (r.relapses + 1) 255 } } (s.pot p).logIndex vp).powered
          (s.pot p).logIndex e
      egu := s.egu.powered e, line.aeHold := decide (s.line.ae.holdLimit ≤ s.aeu.count + 1) } := by
  obtain ⟨-, hfx, hlog, -, hlast, -⟩ := h.fields
  obtain ⟨haew, hmaxw, hclrw, honsetw⟩ := h.relapse_premises hae hmax hclr honset
  rw [h.run_of_effect (by rw [hae]; nofun), State.reading_relapses haew hmaxw hclrw honsetw hno, h.set, h.pot, hy]
  simp only [State.relapsing, h.pot]
  rw [hlog, hfx, hlast, h.state]
  rfl

/-- A relapse after an order or a local quench. -/
theorem State.Computes.relapses_again (hae : (s.pot p).ae = .clearing) (hmax : vp ≤ s.line.ae.vmax) (hclr : s.line.ae.vclr ≤ vp)
    (honset : s.onsetThreshold (s.pot p) ≤ vp) (hagain : 1 ≤ (s.pot p).attempts ∨ (s.pot p).localQuench = true) :
    let e := s.aeEnergyOf (s.pot p).fx.vnorm (s.pot p).lastTime (s.pot p).fx.energyRemainder vp
    exec c s = .next { s with
      port := port
      psu.pots := s.psu.pots.set p { z.finished vp s.time with
        ae := .quenching
        fx := { (s.pot p).fx with
          clearEnd := none, spanStart := s.time, energyRemainder := (e.map Prod.snd).getD (s.pot p).fx.energyRemainder
          quenchTimeout := if (s.pot p).fx.persistent then none else some (s.time + s.line.ae.tqx * 1000) } }
      aeu := (Aeu.traced { s.aeu with
        count := s.aeu.count + 1
        log := s.aeu.amended (s.pot p).logIndex fun r => { r with relapses := min (r.relapses + 1) 255 } } (s.pot p).logIndex vp).powered
          (s.pot p).logIndex e
      egu := s.egu.powered e, line.aeHold := decide (s.line.ae.holdLimit ≤ s.aeu.count + 1) } := by
  intro e
  obtain ⟨-, hfx, -, -, -, hattempts, hlocal, -⟩ := h.fields
  have hno : (w.relapsing p).quenchReady (w.relapsed (w.pot p)) = false :=
    Bool.eq_false_iff.mpr fun hready => (h.relapse_ready.mp hready).1 hagain
  rw [h.relapses hae hmax hclr honset hno (State.relapsed_of_again w (by rw [hattempts, hlocal]; exact hagain)), Pot.finished_eq, Pot.finished_eq,
    hfx, h.now, h.line]

/-- A relapse of an effect that has had neither, where no order is due at once. -/
theorem State.Computes.relapses_anew (hae : (s.pot p).ae = .clearing) (hmax : vp ≤ s.line.ae.vmax) (hclr : s.line.ae.vclr ≤ vp)
    (honset : s.onsetThreshold (s.pot p) ≤ vp) (hanew : ¬(1 ≤ (s.pot p).attempts ∨ (s.pot p).localQuench = true))
    (hno : (w.relapsing p).quenchReady (w.relapsed (w.pot p)) = false) :
    let e := s.aeEnergyOf (s.pot p).fx.vnorm (s.pot p).lastTime (s.pot p).fx.energyRemainder vp
    exec c s = .next { s with
      port := port
      psu.pots := s.psu.pots.set p { z.finished vp s.time with
        ae := .active
        fx := { (s.pot p).fx with
          clearEnd := none, spanStart := s.time, energyRemainder := (e.map Prod.snd).getD (s.pot p).fx.energyRemainder
          quenchDue := some (s.time + (s.pot p).cfg.tqd * 1000) } }
      aeu := (Aeu.traced { s.aeu with
        count := s.aeu.count + 1
        log := s.aeu.amended (s.pot p).logIndex fun r => { r with relapses := min (r.relapses + 1) 255 } } (s.pot p).logIndex vp).powered
          (s.pot p).logIndex e
      egu := s.egu.powered e, line.aeHold := decide (s.line.ae.holdLimit ≤ s.aeu.count + 1) } := by
  intro e
  obtain ⟨-, hfx, -, hcfg, -, hattempts, hlocal, -⟩ := h.fields
  rw [h.relapses hae hmax hclr honset hno (State.relapsed_of_not_again w (by rw [hattempts, hlocal]; exact hanew)), Pot.finished_eq,
    Pot.finished_eq, hfx, hcfg, h.now]

/-- A relapse whose quench order is due at once. -/
theorem State.Computes.relapses_and_orders (hs : s.Settled) (hae : (s.pot p).ae = .clearing) (hmax : vp ≤ s.line.ae.vmax)
    (hclr : s.line.ae.vclr ≤ vp) (honset : s.onsetThreshold (s.pot p) ≤ vp)
    (hanew : ¬(1 ≤ (s.pot p).attempts ∨ (s.pot p).localQuench = true))
    (hready : (w.relapsing p).quenchReady (w.relapsed (w.pot p)) = true) :
    let e := s.aeEnergyOf (s.pot p).fx.vnorm (s.pot p).lastTime (s.pot p).fx.energyRemainder vp
    let unsent := ((w.relapsing p).potOrder .quench src slot).unsent
    let counted : Aeu := { s.aeu with
      count := s.aeu.count + 1, log := s.aeu.amended (s.pot p).logIndex fun r => { r with relapses := min (r.relapses + 1) 255 } }
    ∃ t : State, exec c s = .next t
      ∧ t.orderPlaced p { dest := src, src := s.address, kind := 0x30, seq := s.psu.seq, payload := [BitVec.ofNat 8 slot, 4] } unsent
      ∧ t = { s with
          port := t.port
          psu := { s.psu with
            pots := s.psu.pots.set p { z.finished vp s.time with
              ae := .quenching, attempts := (s.pot p).attempts + 1
              order := some { kind := .quench, seq := s.psu.seq, sent := s.time, dest := src, slot := slot, unsent := unsent }
              fx := { (s.pot p).fx with
                clearEnd := none, spanStart := s.time, energyRemainder := (e.map Prod.snd).getD (s.pot p).fx.energyRemainder
                quenchDue := none, quenchTimeout := some (s.time + s.line.ae.tqx * 1000) } }
            sendList := t.psu.sendList, seq := s.psu.seq + 1 }
          aeu := (Aeu.traced { counted with
            log := counted.amended (s.pot p).logIndex fun r => { r with ordersSent := r.ordersSent + 1 }
            counters.quenchSent := bump32 s.aeu.counters.quenchSent } (s.pot p).logIndex vp).powered (s.pot p).logIndex e
          egu := s.egu.powered e, line.aeHold := decide (s.line.ae.holdLimit ≤ s.aeu.count + 1) } := by
  intro e unsent counted
  obtain ⟨-, hfx, hlog, hcfg, hlast, hattempts, hlocal, -, haddress, -⟩ := h.fields
  obtain ⟨haew, hmaxw, hclrw, honsetw⟩ := h.relapse_premises hae hmax hclr honset
  have hrun := h.run_of_effect (by rw [hae]; nofun)
  have haddressw : (w.pot p).orderAddress = some (src, slot) := by rw [h.pot, haddress]
  have hplaced := (w.relapsing p).orderPlaced_quenching p src slot
  rw [State.reading_relapses_and_orders (h.settled hs) haew hmaxw hclrw honsetw haddressw hready] at hrun
  refine ⟨_, hrun, ?_, ?_⟩
  · obtain rfl := h.state
    exact hplaced
  · rw [h.set, Pot.finished_eq, State.pot_quenching, State.pot_relapsing, h.pot,
      State.relapsed_of_not_again w (by rw [hattempts, hlocal]; exact hanew)]
    simp only [State.quenching, State.pot_relapsing, h.pot, State.relapsed_logIndex, hlog, hcfg, hfx, hlast, hattempts]
    simp only [State.relapsing, h.pot, hlog]
    obtain rfl := h.state
    simp only [Pot.finished_eq, hlog, hcfg]
    rfl

end

/-- Settles O35: the clear end, each state's reading by its thresholds, and the trace store. -/
theorem clearEndEndsTheEffect : Obligations.ClearEndEndsTheEffect := by
  refine ⟨fun p s u hlow hs hmode hae hend hu => clearEnd_ends hlow hs hmode hae hend hu, ?_, enterTrace_cases⟩
  intro h time slots extra k p s ht hx hr hc hsup hmax c u q vp x e rest clears runs
  obtain ⟨port, z, w, hu, hz, hcomputes⟩ := exec_computableReading (time := time) (extra := extra) ht hx hr hc hsup
  have hu : u = { s with port := port } := hu
  have hx : x = z.finished vp s.time := hz
  have hcomputes : s.Computes c p h.src k vp port z w := hcomputes
  clear_value u x c
  subst hu hx
  refine ⟨fun hq hclr => hcomputes.adds hq hmax hclr, fun hq hclr => hcomputes.begins_clearing hq hmax hclr,
    fun hq hclr => hcomputes.stays_clearing hq hmax hclr, fun hq hclr honset => hcomputes.restarts_clear_end hq hmax hclr honset,
    fun hq hclr honset => ?_⟩
  intro again fires timeout back counted goes
  have hready : (w.relapsing p).quenchReady (w.relapsed (w.pot p)) = true ↔ fires := hcomputes.relapse_ready
  exact ⟨fun ha => hcomputes.relapses_again hq hmax hclr honset ha,
    fun hna hnf => hcomputes.relapses_anew hq hmax hclr honset hna (Bool.eq_false_iff.mpr (mt hready.mp hnf)),
    fun hf hs => ⟨_, _, (hcomputes.relapses_and_orders hs hq hmax hclr honset hf.1 (hready.mpr hf)).choose_spec⟩⟩

end Sys2Proof.Machine
end

section
/-! PROOFS. The filters, the band, the dwell and the advice of a reading (O26). -/

namespace Sys2Proof.Machine

/-! ### The computation of a reading (R21, R25 to R29) -/

theorem resistance_eq (vb il vp : Nat) :
    let raw := ((vp - vb) * 100000 + il / 2) / il
    resistance vb il vp = (if vp ≤ vb then 0 else min raw 250000, decide (vp ≤ vb), decide (vb < vp ∧ 250000 < raw)) := by
  intro raw
  unfold resistance
  by_cases h : vp ≤ vb
  · simp [h, Nat.not_lt.mpr h]
  · have hlt : vb < vp := Nat.lt_of_not_le h
    simp only [if_neg h, h, hlt, true_and, decide_false]
    by_cases hsat : 250000 < raw
    · simp [raw, hsat, Nat.min_eq_right (Nat.le_of_lt hsat)]
    · simp [raw, hsat, Nat.min_eq_left (Nat.le_of_not_lt hsat)]

theorem resistance_le (vb il vp : Nat) : (resistance vb il vp).1 ≤ 250000 := by
  rw [resistance_eq]
  dsimp only
  split <;> omega

/-- A filter's step is toward zero and at least by one (R25, R26). -/
theorem filterStep_eq (old new shift : Nat) : (filterStep old new shift : Int) = old + towardZero (new - old) shift := by
  have hdiv : ∀ d : Nat, ((d : Int)).tdiv (2 ^ shift) = ((d / 2 ^ shift : Nat) : Int) := fun d => by
    rw [Int.tdiv_eq_ediv_of_nonneg (Int.natCast_nonneg d)]
    push_cast
    rfl
  unfold filterStep towardZero
  rcases Nat.lt_trichotomy old new with h | h | h
  · obtain ⟨d, rfl⟩ := Nat.exists_eq_add_of_lt h
    rw [if_pos (by omega), show old + d + 1 - old = d + 1 by omega, show ((old + d + 1 : Nat) : Int) - old = ((d + 1 : Nat) : Int) by push_cast; ring,
      hdiv]
    by_cases h0 : (d + 1) / 2 ^ shift = 0
    · rw [h0, if_pos ⟨by omega, rfl⟩]
      rfl
    · rw [if_neg fun hc => h0 (Int.natCast_eq_zero.mp hc.2), Nat.max_eq_right (Nat.one_le_iff_ne_zero.mpr h0)]
      push_cast
      rfl
  · subst h
    simp
  · obtain ⟨d, rfl⟩ := Nat.exists_eq_add_of_lt h
    rw [if_neg (by omega), if_pos (by omega), show new + d + 1 - new = d + 1 by omega,
      show (new : Int) - ((new + d + 1 : Nat) : Int) = -((d + 1 : Nat) : Int) by push_cast; ring, Int.neg_tdiv, hdiv]
    have hle : (d + 1) / 2 ^ shift ≤ d + 1 := Nat.div_le_self _ _
    by_cases h0 : (d + 1) / 2 ^ shift = 0
    · rw [h0, if_pos ⟨by omega, rfl⟩]
      rw [Int.sign_neg, Nat.cast_add_one d, Int.sign_natCast_add_one]
      simp only [Nat.max_eq_left (Nat.zero_le 1)]
      omega
    · rw [if_neg fun hc => h0 (by omega), Nat.max_eq_right (Nat.one_le_iff_ne_zero.mpr h0)]
      omega

theorem filterStep_le {old new shift b : Nat} (hold : old ≤ b) (hnew : new ≤ b) : filterStep old new shift ≤ b := by
  have hdiv : ∀ d, d / 2 ^ shift ≤ d := fun d => Nat.div_le_self _ _
  unfold filterStep
  have := hdiv (new - old)
  split_ifs <;> omega

theorem distance_eq (a b : Nat) : distance a b = ((a : Int) - b).natAbs := by
  unfold distance
  omega

theorem classifyBand_low_iff (cfg : PotConfig) (rf : Nat) : classifyBand cfg rf = .low ↔ rf < cfg.rt - cfg.bw := by
  unfold classifyBand
  split_ifs <;> simp_all

theorem classifyBand_high_iff (cfg : PotConfig) (rf : Nat) : classifyBand cfg rf = .high ↔ cfg.rt - cfg.bw ≤ rf ∧ cfg.rt + cfg.bw < rf := by
  unfold classifyBand
  split_ifs <;> simp_all
  omega

section
variable {q : Pot} {il vp : Nat}

/-- A reading that neither primes nor finds the pot QUIET is held (R27). -/
theorem Pot.compute_of_holds (hprimes : ¬(q.sup = .starting ∧ q.startingCount = 0)) (hae : q.ae ≠ .quiet) :
    (q.compute il vp false).rf = q.rf ∧ (q.compute il vp false).nf = q.nf ∧ (q.compute il vp false).band = q.band
      ∧ (q.compute il vp false).noisy = q.noisy ∧ (q.compute il vp false).dwell = q.dwell := by
  have hholds : Pot.holds { q with
      lastResistance := (resistance q.cfg.vb il vp).1, lowV := (resistance q.cfg.vb il vp).2.1, sat := (resistance q.cfg.vb il vp).2.2 } false
        = true := by
    unfold Pot.holds
    simp only [Bool.and_eq_true, Bool.not_eq_true', bne_iff_ne, Bool.and_eq_false_imp, beq_iff_eq]
    exact ⟨⟨hae, trivial⟩, fun h => beq_eq_false_iff_ne.mpr fun h0 => hprimes ⟨h, h0⟩⟩
  unfold Pot.compute
  rw [if_pos hholds]
  exact ⟨rfl, rfl, rfl, rfl, rfl⟩

/-- A reading that primes or finds the pot QUIET is classified, from the filters it has stepped (R25 to R29). -/
theorem Pot.compute_of_steps (h : q.sup = .starting ∧ q.startingCount = 0 ∨ q.ae = .quiet) :
    let x := q.compute il vp false
    let r := (resistance q.cfg.vb il vp).1
    let primes := q.sup = .starting ∧ q.startingCount = 0
    x.rf = (if primes then r else filterStep q.rf r q.cfg.k)
      ∧ x.nf = (if primes then 0 else filterStep q.nf (distance r q.rf) q.cfg.kn)
      ∧ x.band = classifyBand q.cfg x.rf ∧ x.noisy = decide (q.cfg.nlim < x.nf)
      ∧ x.dwell = if q.sup = .running then
          if adviceCondition x.band x.noisy = adviceCondition q.band q.noisy then min (q.dwell + 1) 255 else 1
        else q.dwell := by
  intro x r primes
  have hholds : Pot.holds { q with
      lastResistance := (resistance q.cfg.vb il vp).1, lowV := (resistance q.cfg.vb il vp).2.1, sat := (resistance q.cfg.vb il vp).2.2 } false
        ≠ true := by
    unfold Pot.holds
    rcases h with ⟨hsup, h0⟩ | h
    · simp [hsup, h0]
    · simp [h]
  have hx : x = _ := if_neg hholds
  rw [hx]
  unfold Pot.workDwell Pot.classify Pot.stepFilters
  dsimp only
  by_cases hp : q.sup = .starting ∧ q.startingCount = 0
  · have hrun : q.sup ≠ .running := by rw [hp.1]; nofun
    simp only [primes, if_pos hp, if_neg hrun]
    exact ⟨rfl, trivial, trivial, trivial, trivial⟩
  · have hquiet : ¬q.ae ≠ .quiet := not_not.mpr (h.resolve_left hp)
    simp only [primes, if_neg hp, if_neg hquiet, Bool.false_eq_true, if_false]
    by_cases hrun : q.sup = .running
    · simp only [if_pos hrun]
      exact ⟨rfl, rfl, trivial, trivial, trivial⟩
    · simp only [if_neg hrun]
      exact ⟨rfl, rfl, trivial, trivial, trivial⟩

end

/-! ### The advice of a reading (R30, R31) -/

section
variable {s : State} {p : Fin 384} {k : OrderKind}

theorem Pot.inhibited_eq_false_iff (q : Pot) (now : Nat) : q.inhibited now = false ↔ ∀ i, q.inhibitUntil = some i → i ≤ now := by
  unfold Pot.inhibited
  cases q.inhibitUntil <;> simp

theorem State.decideAdvice_of_none (h : s.adviceFor (s.pot p) = none) : s.decideAdvice p = s := by
  unfold State.decideAdvice
  simp only [h]

/-- The conditions of an advice (R30). -/
def State.AdviceDue (s : State) (q : Pot) : Prop :=
  q.sup = .running ∧ q.cfg.advice = true ∧ q.ae = .quiet ∧ q.inhibited s.time = false ∧ q.order = none ∧ s.supervising = true
    ∧ q.cfg.nd ≤ q.dwell

theorem State.adviceFor_of_due {q : Pot} (h : s.AdviceDue q) : s.adviceFor q = (adviceCondition q.band q.noisy).order := if_pos h

theorem State.adviceFor_of_not_due {q : Pot} (h : ¬s.AdviceDue q) : s.adviceFor q = none := if_neg h

theorem State.adviceDue_of_some {q : Pot} (h : s.adviceFor q = some k) : s.AdviceDue q := by
  by_contra hno
  rw [State.adviceFor_of_not_due hno] at h
  exact absurd h nofun

theorem State.adviceFor_ne_quench (s : State) (q : Pot) : s.adviceFor q ≠ some .quench := by
  intro h
  rw [State.adviceFor_of_due (State.adviceDue_of_some h)] at h
  cases hc : adviceCondition q.band q.noisy <;> rw [hc] at h <;> simp [AdviceCondition.order] at h

/-- The advice of a settled part (R31). -/
theorem State.decideAdvice_of_settled (hs : s.Settled) (h : s.adviceFor (s.pot p) = some k) {node : Addr} {slot : Nat}
    (haddress : (s.pot p).orderAddress = some (node, slot)) :
    s.decideAdvice p = State.ordered { s with psu.counters := s.psu.counters.sent k } p k node slot := by
  have hmode : s.meu.mode = .supervising := s.supervising_iff.mp (State.adviceDue_of_some h).2.2.2.2.2.1
  have hactive : s.active = true := State.active_of_supervising hmode
  have hsettled : State.Settled { s with psu.counters := s.psu.counters.sent k } := hs.of_offers rfl fun src => by cases src <;> rfl
  unfold State.decideAdvice
  simp only [h, haddress]
  exact (if_pos rfl).trans (State.decidePotOrder_of_settled (s := { s with psu.counters := s.psu.counters.sent k }) hsettled hactive haddress k)

@[simp] theorem State.pot_ordered (s : State) (p : Fin 384) (k : OrderKind) (node : Addr) (slot : Nat) :
    (s.ordered p k node slot).pot p = { s.pot p with order := some (s.potOrder k node slot) } := Vector.getElem_set_self ..

theorem State.orderPlaced_ordered (s : State) (p : Fin 384) (k : OrderKind) (node : Addr) (slot : Nat) :
    (s.ordered p k node slot).orderPlaced p (potOrderFrame s.address node s.psu.seq slot k) (s.potOrder k node slot).unsent := by
  refine State.orderPlaced_of_port rfl fun hwaits hdest => List.mem_append_right _ ?_
  rw [if_pos ⟨hwaits, hdest⟩]
  exact List.mem_singleton_self _

theorem State.workEffect_of_quiet {vp : Nat} (hae : (s.pot p).ae = .quiet) (hmax : vp ≤ s.line.ae.vmax) (honset : vp < s.onsetThreshold (s.pot p)) :
    s.workEffect p vp = s.modPot p fun q => { q with fx.quietVoltage := vp } := by
  unfold State.workEffect
  simp only [hae, if_neg (Nat.not_lt.mpr hmax), if_neg (Nat.not_le.mpr honset)]

end

/-- R20: a reading that is not computable. -/
theorem exec_staleReading {s : State} {h : Header} {time : Long} {slots : Vector SlotReading 8} {extra : List Byte} {k : Fin 8} {p : Fin 384}
    (ht : s.takes h .potSample = true) (hx : extra.length ≤ 32) (hr : s.readsOne h slots k p = true) (hc : s.computable = false)
    (hsup : (s.pot p).sup = .starting ∨ (s.pot p).sup = .running) :
    exec (.potSample h time slots extra) s = .next ((s.carried h .potSample (potSamplePayload time slots extra)).modPot p fun x =>
      { x.sampled h.src k.val slots[k].voltage.toNat s.time with staleCurrent := min (x.staleCurrent + 1) 65535 }) := by
  rw [exec_potSample_of_readsOne ht hx hr (by decide)]
  generalize hu : s.carried h .potSample (potSamplePayload time slots extra) = u
  have hcarried : u = { s with port := u.port } := hu ▸ s.carried_eq h _ _
  clear hu
  generalize u.port = port at hcarried
  subst hcarried
  rw [State.takeReading_of_worked (s := { s with port := port }) (Supervision.worked_iff.mpr hsup)]
  unfold State.workReading State.takeMarker
  dsimp only
  rw [if_pos rfl, State.pot_modPot]
  have hstale : State.computable (State.modPot { s with port := port } p fun q => { q with orderAddress := some (h.src, k.val) }) = false := hc
  rcases hsup with hsup | hsup
  all_goals
    have hsup : (State.pot { s with port := port } p).sup = _ := hsup
    simp only [hsup, hstale, Bool.false_eq_true, if_false, State.modPot_modPot]
    rfl

theorem AdviceCondition.order_eq_none_iff (c : AdviceCondition) : c.order = none ↔ c = .within := by cases c <;> simp [AdviceCondition.order]

theorem State.pot_of_pots {s : State} {p : Fin 384} {v : Vector Pot 384} {x : Pot} (h : s.psu.pots = v.set p x) : s.pot p = x := by
  unfold State.pot
  simp [h]

section
variable {s w : State} {c : Instr} {p : Fin 384} {src : Addr} {slot vp : Nat} {port : Port} {z : Pot}
variable (h : s.Computes c p src slot vp port z w)
include h

/-- The advice conditions of a computed reading, in the terms of the pot before it. -/
theorem State.Computes.adviceDue_iff (hae : (s.pot p).ae = .quiet) : w.AdviceDue z ↔ (s.pot p).sup = .running ∧ (s.pot p).cfg.advice = true
    ∧ (∀ i, (s.pot p).inhibitUntil = some i → i ≤ s.time) ∧ (s.pot p).order = none ∧ s.meu.mode = .supervising ∧ (s.pot p).cfg.nd ≤ z.dwell := by
  obtain ⟨hzae, -, -, hcfg, -, -, -, hinhibit, -, horder, hsup, -⟩ := h.fields
  unfold State.AdviceDue
  rw [Pot.inhibited_eq_false_iff, hzae, hcfg, hinhibit, horder, hsup, State.supervising_iff, h.now, h.state]
  constructor
  · rintro ⟨h1, h2, -, h4, h5, h6, h7⟩
    exact ⟨h1, h2, h4, h5, h6, h7⟩
  · rintro ⟨h1, h2, h4, h5, h6, h7⟩
    exact ⟨h1, h2, hae, h4, h5, h6, h7⟩

/-- A reading below the onset threshold of a QUIET pot with no advice to give keeps its voltage. -/
theorem State.Computes.keeps_quiet (hae : (s.pot p).ae = .quiet) (honset : vp < s.onsetThreshold (s.pot p)) (hmax : vp ≤ s.line.ae.vmax)
    (hno : w.adviceFor z = none) : exec c s = .next (State.modPot { s with port := port } p fun _ =>
      { z.finished vp s.time with fx := { (s.pot p).fx with quietVoltage := vp } }) := by
  obtain ⟨hzae, hfx, -⟩ := h.fields
  rw [h.run, State.decideAdvice_of_none (by rw [h.pot]; exact hno), State.workEffect_of_quiet (by rw [h.pot, hzae]; exact hae) (h.line ▸ hmax)
    (h.onsetThreshold ▸ honset), State.modPot_modPot, State.modPot_eq, h.pot, h.set, h.state, Pot.finished_eq, Pot.finished_eq, hfx]
  rfl

/-- A reading below the onset threshold of a QUIET pot that decides an advice. -/
theorem State.Computes.advises (hs : s.Settled) (hae : (s.pot p).ae = .quiet) (honset : vp < s.onsetThreshold (s.pot p))
    (hmax : vp ≤ s.line.ae.vmax) {kind : OrderKind} (hkind : w.adviceFor z = some kind) :
    ∃ (t : State) (unsent : Bool), exec c s = .next t
      ∧ t.pot p = { z.finished vp s.time with
          fx := { (s.pot p).fx with quietVoltage := vp }
          order := some { kind := kind, seq := s.psu.seq, sent := s.time, dest := src, slot := slot, unsent := unsent } }
      ∧ t.orderPlaced p { dest := src, src := s.address, kind := 0x30, seq := s.psu.seq, payload := [BitVec.ofNat 8 slot, BitVec.ofNat 8 kind.code] }
        unsent
      ∧ t = { s with
          port := t.port
          psu := { s.psu with
            pots := s.psu.pots.set p (t.pot p), sendList := t.psu.sendList, seq := s.psu.seq + 1, counters := s.psu.counters.sent kind } } := by
  obtain ⟨hzae, hfx, -, -, -, -, -, hinhibit, haddress, -⟩ := h.fields
  have hrun := h.run
  rw [State.decideAdvice_of_settled (h.settled hs) (by rw [h.pot]; exact hkind) (by rw [h.pot]; exact haddress)] at hrun
  have hplaced := State.orderPlaced_ordered { w with psu.counters := w.psu.counters.sent kind } p kind src slot
  have hpot : State.pot { w with psu.counters := w.psu.counters.sent kind } p = z := h.pot
  have hordered := State.pot_ordered { w with psu.counters := w.psu.counters.sent kind } p kind src slot
  rw [hpot] at hordered
  rw [State.workEffect_of_quiet (s := State.ordered { w with psu.counters := w.psu.counters.sent kind } p kind src slot)
    (by rw [hordered]; exact hzae.trans hae) (h.line ▸ hmax) (by rw [hordered]; exact Nat.lt_of_lt_of_eq honset (h.threshold h.line h.now hinhibit).symm),
    State.modPot_modPot, State.modPot_eq, hordered] at hrun
  refine ⟨_, State.waits w (potOrderFrame w.address src w.psu.seq slot kind), hrun, ?_, ?_, ?_⟩
  · refine (State.pot_of_pots rfl).trans ?_
    rw [Pot.finished_eq, Pot.finished_eq, hfx, h.state]
    rfl
  · obtain rfl := h.state
    exact hplaced
  · obtain rfl := h.state
    simp only [State.ordered, State.pot, Fin.getElem_fin, Vector.getElem_set_self, Vector.set_set]

end

/-- The filters, band and dwell of a computed reading, from the record before it. -/
theorem State.computedPot_filters (s : State) (p : Fin 384) (src : Addr) (slot vp : Nat) :
    (s.computedPot p src slot vp).rf = ((s.pot p).compute s.line.il vp false).rf
      ∧ (s.computedPot p src slot vp).nf = ((s.pot p).compute s.line.il vp false).nf
      ∧ (s.computedPot p src slot vp).band = ((s.pot p).compute s.line.il vp false).band
      ∧ (s.computedPot p src slot vp).noisy = ((s.pot p).compute s.line.il vp false).noisy
      ∧ (s.computedPot p src slot vp).dwell = ((s.pot p).compute s.line.il vp false).dwell := by
  rw [s.computedPot_eq p src slot vp, Pot.finished_eq]
  exact ⟨rfl, rfl, rfl, rfl, rfl⟩

/-- Settles O26. -/
theorem quietReadingsStepTheFilters : Obligations.QuietReadingsStepTheFilters := by
  intro h time slots extra k p s ht hx hr hsup c u q vp
  refine ⟨fun hc => exec_staleReading ht hx hr hc hsup, fun hc => ?_⟩
  intro x raw r primes count condition
  have hres : (resistance q.cfg.vb s.line.il vp) = (r, decide (vp ≤ q.cfg.vb), decide (q.cfg.vb < vp ∧ 250000 < raw)) :=
    resistance_eq q.cfg.vb s.line.il vp
  obtain ⟨hrf, hnf, hband, hnoisy, hdwell⟩ := s.computedPot_filters p h.src k vp
  refine ⟨?_, fun hp => ?_, fun hp hae => ?_, fun hp hae => ?_, fun hq => ?_, fun hae honset hmax => ?_⟩
  · rw [hrf, hnf, hband, hnoisy, hdwell]
    refine (s.computedPot_eq p h.src k vp).trans ?_
    rw [Pot.finished_eq, State.computing_eq]
    dsimp only
    rw [hres]
    have hcount : (if (s.pot p).sup = .starting ∧ 10 ≤ count then Supervision.running else (s.pot p).sup)
        = if (s.pot p).sup = .starting then if 10 ≤ (s.pot p).startingCount + 1 then .running else .starting else (s.pot p).sup := by
      by_cases hst : (s.pot p).sup = .starting
      · have hc : count = (s.pot p).startingCount + 1 := if_pos hst
        simp only [hst, hc, true_and, if_true]
      · simp only [hst, false_and, if_false]
    rw [hcount]
    rfl
  · obtain ⟨hrf', hnf', -⟩ := Pot.compute_of_steps (q := q) (il := s.line.il) (vp := vp) (.inl hp)
    rw [hrf, hnf, hrf', hnf', if_pos hp, if_pos hp, hres]
    exact ⟨rfl, rfl⟩
  · rw [hrf, hnf, hband, hnoisy, hdwell]
    exact Pot.compute_of_holds hp hae
  · obtain ⟨hrf', hnf', -⟩ := Pot.compute_of_steps (q := q) (il := s.line.il) (vp := vp) (.inr hae)
    have hle := resistance_le q.cfg.vb s.line.il vp
    rw [hrf, hnf, hrf', hnf', if_neg hp, if_neg hp, filterStep_eq, filterStep_eq, distance_eq]
    rw [hres] at hle ⊢
    exact ⟨rfl, rfl, fun hq => filterStep_le hq hle, fun hq hn => filterStep_le hn (by dsimp only at hle ⊢; omega)⟩
  · obtain ⟨-, -, hband', hnoisy', hdwell'⟩ := Pot.compute_of_steps (q := q) (il := s.line.il) (vp := vp) hq
    refine ⟨?_, ?_, ?_, ?_⟩
    · rw [hband, hrf, hband', classifyBand_low_iff]
    · rw [hband, hrf, hband', classifyBand_high_iff]
    · rw [hnoisy, hnf, hnoisy']
    · have hcondition : condition = adviceCondition (q.compute s.line.il vp false).band (q.compute s.line.il vp false).noisy := by
        rw [← hband, ← hnoisy]
      rw [hdwell, hdwell', hcondition]
      have hsup : q.sup = .starting ∨ q.sup = .running := hsup
      rcases hsup with hst | hst <;> rw [hst] <;> rfl
  · intro y due kind
    obtain ⟨port, z, w, hu, hz, hcomputes⟩ := exec_computableReading (time := time) (extra := extra) ht hx hr hc hsup
    have hu : u = { s with port := port } := hu
    have hz : x = z.finished vp s.time := hz
    have hcomputes : s.Computes c p h.src k vp port z w := hcomputes
    have hcondition : adviceCondition z.band z.noisy = condition := by
      simp only [condition, hz, Pot.finished_eq]
    have hxdwell : x.dwell = z.dwell := by rw [hz, Pot.finished_eq]
    clear hrf hnf hband hnoisy hdwell
    clear_value u x c
    subst hu hz
    have hdue : w.AdviceDue z ∧ condition ≠ .within ↔ due := by
      rw [hcomputes.adviceDue_iff hae, and_assoc, and_assoc, and_assoc, and_assoc, and_assoc, ← hxdwell]
    refine ⟨fun hno => hcomputes.keeps_quiet hae honset hmax ?_, fun hd hs => ?_⟩
    · by_cases hadvice : w.AdviceDue z
      · rw [State.adviceFor_of_due hadvice, hcondition, AdviceCondition.order_eq_none_iff]
        by_contra hne
        exact hno (hdue.mp ⟨hadvice, hne⟩)
      · exact State.adviceFor_of_not_due hadvice
    · have hkind : w.adviceFor z = some kind := by
        obtain ⟨hadvice, hne⟩ := hdue.mpr hd
        rw [State.adviceFor_of_due hadvice, hcondition]
        clear hdue hcondition hd
        clear_value due condition
        cases condition with
        | within => exact absurd rfl hne
        | noisy | low | high => rfl
      clear_value kind
      obtain ⟨t, unsent, hexec, hpot, hplaced, heq⟩ := hcomputes.advises hs hae honset hmax hkind
      refine ⟨t, unsent, hexec, hpot, hplaced, ?_⟩
      clear hdue hcondition hd
      cases kind with
      | quench => exact (State.adviceFor_ne_quench _ _ hkind).elim
      | raise | lower | check => exact heq

end Sys2Proof.Machine
end

section
/-! PROOFS. The pot timers, and the readings of a QUIET or SUSPECT pot at its thresholds (O31). -/

namespace Sys2Proof.Machine

/-! ### The pot timers (R17, R36, R45) -/

theorem potTimers_end {p : Fin 384} {s : State} (hlow : s.resetLow = false) :
    (∀ o, (s.pot p).order = some o → o.kind ≠ .quench → o.sent + 20000 ≤ s.time →
        exec (.adviceExpiry p) s = .next { s with psu := { s.psu with
          pots := s.psu.pots.set p { s.pot p with order := none, dwell := 0 }
          sendList := s.psu.sendList.filter fun e => e.1 != p
          counters.expired := bump32 s.psu.counters.expired } })
      ∧ (∀ u, (s.pot p).inhibitUntil = some u → u ≤ s.time →
        exec (.inhibitEnd p) s = .next { s with psu.pots := s.psu.pots.set p { s.pot p with inhibitUntil := none } })
      ∧ (∀ u, s.meu.mode ≠ .forwardOnly → (s.pot p).ae = .suspect → (s.pot p).fx.qualificationEnd = some u → u ≤ s.time →
        exec (.qualificationEnd p) s = .next (s.modPot p fun q =>
          { q with
            ae := .quiet
            glitches := min (q.glitches + 1) 65535
            fx := { q.fx with qualificationEnd := none } })) := by
  refine ⟨fun o ho hk hsent => ?_, fun u hend hu => ?_, fun u hmode hae hend hu => ?_⟩
  · have hdue : s.adviceExpiryDue p = true := by
      unfold State.adviceExpiryDue
      simp only [ho, (OrderKind.advice_iff_ne_quench o.kind).mpr hk, decide_eq_true hsent, Bool.and_self]
    refine (State.expire_of_due hlow hdue _).trans (congrArg Host.Outcome.next ?_)
    rw [State.expireAdvice, State.clearAdvice_eq]
  · exact State.expire_of_due hlow (reached_of_le hend hu) _
  · have hdue : s.qualificationDue p = true := by
      unfold State.qualificationDue
      rw [(s.offers_iff_of_active).mpr hmode, hae, reached_of_le hend hu]
      rfl
    exact State.expire_of_due hlow hdue _

/-! ### A reading above Vmax, and the onset (R44, R45, R55) -/

section
variable {s : State} {p : Fin 384} {vp : Nat}

theorem State.pot_of_pots_ne {s t : State} {p k : Fin 384} {x : Pot} (h : t.psu.pots = s.psu.pots.set p x) (hk : k ≠ p) : t.pot k = s.pot k := by
  unfold State.pot
  rw [h]
  exact Vector.getElem_set_ne p.isLt k.isLt fun e => hk (Fin.ext e.symm)

/-- A frame that waits in the insert queue waits there after an event. -/
theorem State.mem_insert_raise (s : State) (k : EventKind) (j a b : Nat) {f : Frame} (hf : f ∈ s.port.insert) :
    f ∈ (s.raise k j a b).port.insert := by
  have hrecord : ∀ r : EventRecord, (s.port.record s.time r).insert = s.port.insert := by
    intro r
    unfold Port.record Port.append
    split
    · rfl
    · split <;> rfl
  obtain ⟨frames, hframes⟩ := (State.arbitrate_insert 32 { s with
    meu := s.meu.takeEvent k, port := s.port.record s.time { kind := k, day := s.stamp.1, ms := s.stamp.2, subject := j, a := a, b := b } }).1
  have hinsert : (s.raise k j a b).port.insert = _ := hframes
  rw [hinsert]
  exact List.mem_append_left _ (by rw [hrecord]; exact hf)

theorem State.orderPlaced_mono {s t : State} {p : Fin 384} {f : Frame} {unsent : Bool} (h : s.orderPlaced p f unsent)
    (hinsert : ∀ f ∈ s.port.insert, f ∈ t.port.insert) (hlist : t.psu.sendList = s.psu.sendList) : t.orderPlaced p f unsent := by
  unfold State.orderPlaced at h ⊢
  split at h
  · next hdest => rwa [if_pos hdest]
  · next hdest =>
    rw [if_neg hdest, hlist]
    exact h.imp (And.imp_right (hinsert f)) id

theorem State.workEffect_of_fault (hae : (s.pot p).ae ≠ .suspect) (hmax : s.line.ae.vmax < vp) : s.workEffect p vp = s.measurementFault p vp := by
  unfold State.workEffect
  dsimp only
  cases h : (s.pot p).ae with
  | suspect => exact absurd h hae
  | quiet | active | quenching | clearing => exact if_pos hmax

theorem State.workEffect_of_suspect (hae : (s.pot p).ae = .suspect) : s.workEffect p vp = s.workSuspect p vp := by
  unfold State.workEffect
  simp only [hae]

theorem State.workEffect_of_onset (hae : (s.pot p).ae = .quiet) (hmax : vp ≤ s.line.ae.vmax) (honset : s.onsetThreshold (s.pot p) ≤ vp) :
    s.workEffect p vp = s.onset p vp := by
  unfold State.workEffect
  simp only [hae, if_neg (Nat.not_lt.mpr hmax), if_pos honset]

/-- A measurement fault on a settled part. -/
theorem State.measurementFault_of_settled (hs : s.Settled) (p : Fin 384) (vp : Nat) (f : Pot → Pot) :
    (s.measurementFault p vp).modPot p f = { s with
      psu.pots := s.psu.pots.set p (f { s.pot p with faults := bump16 (s.pot p).faults })
      port := (s.raise .measurementFault p.val vp (s.pot p).ae.code).port
      meu := (s.raise .measurementFault p.val vp (s.pot p).ae.code).meu } := by
  have hsettled : (s.modPot p fun q => { q with faults := bump16 q.faults }).Settled := hs.of_offers rfl fun src => by cases src <;> rfl
  unfold State.measurementFault
  dsimp only
  rw [State.raise_beside hs hsettled rfl, State.modPot_eq, State.modPot_eq]
  simp only [State.pot, Fin.getElem_fin, Vector.getElem_set_self, Vector.set_set]

/-- A change of the record that clears the dwell, with an advice cancelled (R37). -/
theorem State.modPot_cancelAdvice (s : State) (p : Fin 384) {f : Pot → Pot} (hdwell : (f (s.pot p)).dwell = 0)
    (horder : (f (s.pot p)).order = (s.pot p).order) : (s.modPot p f).cancelAdvice p = { s with psu := { s.psu with
      pots := s.psu.pots.set p { f (s.pot p) with order := (s.pot p).order.filter fun o => o.kind == .quench }
      sendList := if ∃ o ∈ (s.pot p).order, o.kind ≠ .quench then s.psu.sendList.filter fun e => e.1 != p else s.psu.sendList } } := by
  unfold State.cancelAdvice
  rw [State.pot_modPot, horder]
  generalize hy : f (s.pot p) = y at hdwell horder
  have hmod : s.modPot p f = { s with psu.pots := s.psu.pots.set p y } := by rw [State.modPot_eq, hy]
  have horder' : ∀ o, y.order = o → { y with order := o } = y := by
    rintro _ rfl
    rfl
  have hdwell' : ∀ d, y.dwell = d → ({ y with order := none, dwell := d } : Pot) = { y with order := none } := by
    rintro _ rfl
    rfl
  rw [hmod]
  cases ho : (s.pot p).order with
  | none =>
    have hlist : ¬∃ o' ∈ (none : Option PotOrder), o'.kind ≠ .quench := nofun
    rw [if_neg hlist, Option.filter_none, horder' none (horder.trans ho)]
  | some o =>
    by_cases hk : o.kind = .quench
    · have hno : ¬o.kind.advice = true := by rw [hk]; decide
      have hfilter : (some o).filter (fun o => o.kind == .quench) = some o := by simp [Option.filter, hk]
      have hlist : ¬∃ o' ∈ some o, o'.kind ≠ .quench := by simp [hk]
      rw [hfilter, if_neg hlist, horder' _ (horder.trans ho)]
      exact if_neg hno
    · have hadvice : o.kind.advice = true := (OrderKind.advice_iff_ne_quench o.kind).mpr hk
      have hfilter : (some o).filter (fun o => o.kind == .quench) = none := by simp [Option.filter, hk]
      have hlist : ∃ o' ∈ some o, o'.kind ≠ .quench := by simp [hk]
      rw [hfilter, if_pos hlist]
      refine (if_pos hadvice).trans ?_
      simp only [State.modPot_eq, State.dropPotOrder_eq, State.pot, Fin.getElem_fin, Vector.getElem_set_self, Vector.set_set]
      rw [hdwell' 0 hdwell]

/-- A reading at or above the onset threshold of a QUIET pot cancels its advice (R37, R44). -/
theorem State.onset_eq (s : State) (p : Fin 384) (vp : Nat) : s.onset p vp = { s with psu := { s.psu with
    pots := s.psu.pots.set p { s.pot p with
      ae := .suspect, dwell := 0, order := (s.pot p).order.filter fun o => o.kind == .quench
      fx := { (s.pot p).fx with
        onsetTime := s.time, onsetDay := s.stamp.1, onsetMs := s.stamp.2, onsetVoltage := vp, vnorm := (s.pot p).fx.quietVoltage
        qualificationEnd := some (s.time + s.line.ae.tq * 1000) } }
    sendList := if ∃ o ∈ (s.pot p).order, o.kind ≠ .quench then s.psu.sendList.filter fun e => e.1 != p else s.psu.sendList } } :=
  s.modPot_cancelAdvice p rfl rfl

theorem State.workSuspect_of_fault (hs : s.Settled) (hmax : s.line.ae.vmax < vp) (f : Pot → Pot) : (s.workSuspect p vp).modPot p f = { s with
    psu.pots := s.psu.pots.set p (f { s.pot p with
      ae := .quiet, faults := bump16 (s.pot p).faults, fx := { (s.pot p).fx with qualificationEnd := none } })
    port := (s.raise .measurementFault p.val vp 1).port, meu := (s.raise .measurementFault p.val vp 1).meu } := by
  unfold State.workSuspect
  dsimp only
  rw [if_pos hmax, State.modPot_modPot]
  have hsettled : ∀ f, (s.modPot p f).Settled := fun f => hs.of_offers rfl fun src => by cases src <;> rfl
  rw [State.raise_beside hs (hsettled _) rfl]
  simp only [State.modPot_eq, State.pot, Fin.getElem_fin, Vector.getElem_set_self, Vector.set_set]
  rfl

theorem State.workSuspect_of_low (hmax : vp ≤ s.line.ae.vmax) (honset : vp < s.onsetThreshold (s.pot p)) (f : Pot → Pot) :
    (s.workSuspect p vp).modPot p f = { s with psu.pots := s.psu.pots.set p (f { s.pot p with
      ae := .quiet, glitches := bump16 (s.pot p).glitches
      fx := { (s.pot p).fx with qualificationEnd := none, quietVoltage := vp } }) } := by
  unfold State.workSuspect
  dsimp only
  rw [if_neg (Nat.not_lt.mpr hmax), if_neg (Nat.not_le.mpr honset), State.modPot_modPot, State.modPot_modPot, State.modPot_eq]

/-- What an advice that a reading decides leaves as it was, on a settled part (R31). -/
theorem State.decideAdvice_rest (hs : s.Settled) {node : Addr} {slot : Nat} (haddress : (s.pot p).orderAddress = some (node, slot)) :
    (s.decideAdvice p).Settled ∧ s.decideAdvice p = { s with port := (s.decideAdvice p).port, psu := (s.decideAdvice p).psu }
      ∧ (s.decideAdvice p).pot p = { s.pot p with order := ((s.decideAdvice p).pot p).order }
      ∧ (∀ p', p' ≠ p → (s.decideAdvice p).pot p' = s.pot p')
      ∧ (((s.decideAdvice p).pot p).order.filter fun o => o.kind == .quench) = (s.pot p).order.filter fun o => o.kind == .quench := by
  cases h : s.adviceFor (s.pot p) with
  | none =>
    rw [State.decideAdvice_of_none h]
    exact ⟨hs, rfl, rfl, fun _ _ => rfl, rfl⟩
  | some k =>
    have hsettled := (Works.decideAdvice (d := .still) .refl p : Works s .still _).settled hs
    have hnone : (s.pot p).order = none := (State.adviceDue_of_some h).2.2.2.2.1
    have hquench : k ≠ .quench := fun hk => s.adviceFor_ne_quench _ (hk ▸ h)
    rw [State.decideAdvice_of_settled hs h haddress] at hsettled ⊢
    refine ⟨hsettled, rfl, ?_, fun p' hp' => ?_, ?_⟩
    · rw [State.pot_ordered]
      rfl
    · exact Vector.getElem_set_ne p.isLt p'.isLt fun e => hp' (Fin.ext e.symm)
    · rw [State.pot_ordered, hnone]
      simp [State.potOrder, hquench]

theorem State.decideAdvice_of_off (h : (s.pot p).cfg.advice = false) : s.decideAdvice p = s :=
  State.decideAdvice_of_none (State.adviceFor_of_not_due fun hdue => Bool.false_ne_true (h.symm.trans hdue.2.1))

end

/-! ### The place of a new record (R58) -/

theorem Aeu.freePlaces_eq {u : Aeu} {pl : Nat} (hpl : pl < Config.logPlaces) (hfree : ∀ r ∈ u.log, r.place ≠ pl)
    (hlowest : ∀ j < pl, ∃ r ∈ u.log, r.place = j) : ∃ rest, u.freePlaces = pl :: rest := by
  obtain ⟨n, hn⟩ : ∃ n, Config.logPlaces = pl + (n + 1) := ⟨Config.logPlaces - pl - 1, by omega⟩
  have hbelow : (List.range pl).filter (fun j => !u.log.any fun r => r.place == j) = [] := by
    rw [List.filter_eq_nil_iff]
    intro j hj
    obtain ⟨r, hr, hplace⟩ := hlowest j (List.mem_range.mp hj)
    simpa using ⟨r, hr, hplace⟩
  have hhead : (!u.log.any fun r => r.place == pl) = true := by simpa using hfree
  unfold Aeu.freePlaces
  rw [hn, List.range_add, List.filter_append, hbelow, List.nil_append, List.range_succ_eq_map, List.map_cons, Nat.add_zero,
    List.filter_cons_of_pos (p := fun pl => !u.log.any fun r => r.place == pl) hhead]
  exact ⟨_, rfl⟩

theorem Aeu.place_of_free {u : Aeu} {pl : Nat} (hroom : u.log.length < Config.logPlaces) (hpl : pl < Config.logPlaces)
    (hfree : ∀ r ∈ u.log, r.place ≠ pl) (hlowest : ∀ j < pl, ∃ r ∈ u.log, r.place = j) (p : Fin 384) (q : Pot) :
    u.place p q = ({ u with log := u.log ++ [newRecord pl p q] }, some pl) := by
  obtain ⟨rest, hrest⟩ := Aeu.freePlaces_eq hpl hfree hlowest
  unfold Aeu.place
  rw [if_pos hroom]
  simp only [hrest]

theorem Aeu.place_of_closed {u : Aeu} {before after : List AeRecord} {old : AeRecord} (hfull : Config.logPlaces ≤ u.log.length)
    (hlog : u.log = before ++ old :: after) (hbefore : ∀ r ∈ before, r.closed = false) (hold : old.closed = true) (p : Fin 384) (q : Pot) :
    u.place p q = ({ u with
      log := before ++ after ++ [newRecord old.place p q], trace := u.trace.filter fun r => r.place != old.place }, some old.place) := by
  have hnone : before.find? (·.closed) = none := List.find?_eq_none.mpr fun r hr => by simp [hbefore r hr]
  have hfind : u.log.find? (·.closed) = some old := by
    rw [hlog, List.find?_append, hnone, List.find?_cons_of_pos hold]
    rfl
  have herase : u.log.eraseP (·.closed) = before ++ after := by
    rw [hlog, List.eraseP_append_right _ (fun r hr => by simp [hbefore r hr]), List.eraseP_cons_of_pos hold]
  unfold Aeu.place
  rw [if_neg (Nat.not_lt.mpr hfull)]
  simp only [hfind, herase]

theorem Aeu.place_of_open {u : Aeu} (hfull : Config.logPlaces ≤ u.log.length) (hopen : ∀ r ∈ u.log, r.closed = false) (p : Fin 384) (q : Pot) :
    u.place p q = ({ u with counters.unlogged := bump32 u.counters.unlogged }, none) := by
  have hnone : u.log.find? (·.closed) = none := List.find?_eq_none.mpr fun r hr => by simp [hopen r hr]
  unfold Aeu.place
  rw [if_neg (Nat.not_lt.mpr hfull)]
  simp only [hnone]

/-! ### The effect of a SUSPECT pot that is confirmed (R46) -/

/-- The record that an onset places, with the AE count risen (R58). -/
def State.placed (s : State) (p : Fin 384) : Aeu × Option Nat := Aeu.place { s.aeu with count := s.aeu.count + 1 } p (s.pot p)

/-- The part with the effect of pot `p` opened, before a quench order at once, the event and AE energy (R46). -/
def State.opening (s : State) (p : Fin 384) (vp : Nat) : State :=
  { s with
    psu.pots := s.psu.pots.set p { s.pot p with
      ae := .active, attempts := 0, localQuench := false, logIndex := (s.placed p).2
      fx := { (s.pot p).fx with
        persistent := false, duration := 0, energyRemainder := 0, spanStart := s.time, qualificationEnd := none
        quenchDue := some (s.time + (s.pot p).cfg.tqd * 1000) } }
    aeu := (Aeu.traced { (s.placed p).1 with counters.onsets := bump32 (s.placed p).1.counters.onsets } (s.placed p).2
      (s.pot p).fx.onsetVoltage).traced (s.placed p).2 vp
    line.aeHold := decide (s.line.ae.holdLimit ≤ s.aeu.count + 1) }

section
variable {s : State} {p : Fin 384} {vp : Nat}

@[simp] theorem State.pot_opening (s : State) (p : Fin 384) (vp : Nat) : (s.opening p vp).pot p = { s.pot p with
    ae := .active, attempts := 0, localQuench := false, logIndex := (s.placed p).2
    fx := { (s.pot p).fx with
      persistent := false, duration := 0, energyRemainder := 0, spanStart := s.time, qualificationEnd := none
      quenchDue := some (s.time + (s.pot p).cfg.tqd * 1000) } } := Vector.getElem_set_self ..

theorem State.openEffect_eq (s : State) (p : Fin 384) : s.openEffect p = { s with
    psu.pots := s.psu.pots.set p { (s.pot p).opened s.time with logIndex := (s.placed p).2 }
    aeu := { (s.placed p).1 with counters.onsets := bump32 (s.placed p).1.counters.onsets }
    line.aeHold := decide (s.line.ae.holdLimit ≤ s.aeu.count + 1) } := by
  have hpot : ((s.modPot p fun q => q.opened s.time).setAeCount (s.aeu.count + 1)).pot p = (s.pot p).opened s.time :=
    s.pot_modPot p fun q => q.opened s.time
  have hplaced : ((s.modPot p fun q => q.opened s.time).setAeCount (s.aeu.count + 1)).aeu.place p ((s.pot p).opened s.time) = s.placed p := rfl
  have hcount : (s.modPot p fun q => q.opened s.time).aeu.count = s.aeu.count := rfl
  unfold State.openEffect
  dsimp only
  rw [hcount, hpot, hplaced, State.modPot_eq, State.modPot_eq]
  simp only [State.setAeCount, State.workAeHold, State.pot, Fin.getElem_fin, Vector.getElem_set_self, Vector.set_set]

theorem State.confirmOnset_opening (s : State) (p : Fin 384) (vp : Nat) : s.confirmOnset p vp
    = (((s.opening p vp).tryQuench p).raise .aeOnset p.val vp (s.pot p).fx.vnorm).addAeEnergy p vp := by
  rw [State.confirmOnset_eq, State.openEffect_eq]
  dsimp only
  rw [State.traceReading_eq, State.traceReading_eq]
  simp only [State.modPot_eq, State.pot, Fin.getElem_fin, Vector.getElem_set_self, Vector.set_set]
  rfl

theorem State.settled_opening (hs : s.Settled) (p : Fin 384) (vp : Nat) : (s.opening p vp).Settled :=
  hs.of_offers rfl fun src => by cases src <;> rfl

/-- An onset decides a quench order at once (R47). -/
theorem State.quenchReady_opening (haddress : (s.pot p).orderAddress.isSome = true) :
    (s.opening p vp).quenchReady ((s.opening p vp).pot p) = true
      ↔ (s.pot p).cfg.tqd = 0 ∧ (s.pot p).cfg.autoQuench = true ∧ s.meu.mode = .supervising := by
  have htime : (∃ u, some (s.time + (s.pot p).cfg.tqd * 1000) = some u ∧ u ≤ s.time) ↔ (s.pot p).cfg.tqd = 0 := by
    constructor
    · rintro ⟨u, hu, hle⟩
      have := Option.some.inj hu
      omega
    · exact fun h0 => ⟨s.time, by rw [h0, Nat.zero_mul, Nat.add_zero], Nat.le_refl _⟩
  rw [State.quenchReady_iff, State.pot_opening]
  constructor
  · rintro ⟨-, hdue, hauto, -, hmode, -⟩
    exact ⟨htime.mp hdue, hauto, hmode⟩
  · rintro ⟨hdue, hauto, hmode⟩
    exact ⟨rfl, htime.mpr hdue, hauto, rfl, hmode, haddress⟩

/-- What AE energy adds to a state whose pot is counted, with what a reading writes last (R63). -/
theorem State.energy_added (hcounted : (s.pot p).ae.counted = true) (vp : Nat) (f : Pot → Pot) :
    let e := s.aeEnergyOf (s.pot p).fx.vnorm (s.pot p).lastTime (s.pot p).fx.energyRemainder vp
    (s.addAeEnergy p vp).modPot p f = { s with
      psu.pots := s.psu.pots.set p (f { s.pot p with
        fx := { (s.pot p).fx with energyRemainder := (e.map Prod.snd).getD (s.pot p).fx.energyRemainder } })
      aeu := s.aeu.powered (s.pot p).logIndex e, egu := s.egu.powered e } := by
  intro e
  rw [State.addAeEnergy_eq hcounted, State.modPot_eq]
  simp only [State.pot, Fin.getElem_fin, Vector.getElem_set_self, Vector.set_set]
  rfl

/-- An onset is confirmed without a quench order at once. -/
theorem State.confirm_without_order (hs : s.Settled) (hno : (s.opening p vp).quenchReady ((s.opening p vp).pot p) = false) (f : Pot → Pot) :
    let e := s.aeEnergyOf (s.pot p).fx.vnorm (s.pot p).lastTime 0 vp
    let o := (s.opening p vp).pot p
    (s.confirmOnset p vp).modPot p f = { s.opening p vp with
      psu.pots := s.psu.pots.set p (f { o with fx := { o.fx with energyRemainder := (e.map Prod.snd).getD 0 } })
      aeu := (s.opening p vp).aeu.powered (s.placed p).2 e, egu := s.egu.powered e
      port := (s.raise .aeOnset p.val vp (s.pot p).fx.vnorm).port, meu := (s.raise .aeOnset p.val vp (s.pot p).fx.vnorm).meu } := by
  intro e o
  have hpot : ∀ port meu, State.pot { s.opening p vp with port := port, meu := meu } p = (s.opening p vp).pot p := fun _ _ => rfl
  rw [State.confirmOnset_opening, State.tryQuench, hno, if_neg Bool.false_ne_true, State.raise_beside hs (State.settled_opening hs p vp) rfl,
    State.energy_added (by rw [hpot, State.pot_opening]; rfl), hpot]
  simp only [o, State.pot_opening]
  unfold State.opening
  simp only [Vector.set_set]
  rfl

/-- An onset is confirmed with a quench order at once. -/
theorem State.confirm_with_order (hs : s.Settled) {node : Addr} {slot : Nat} (haddress : (s.pot p).orderAddress = some (node, slot))
    (hready : (s.opening p vp).quenchReady ((s.opening p vp).pot p) = true) (f : Pot → Pot) :
    let e := s.aeEnergyOf (s.pot p).fx.vnorm (s.pot p).lastTime 0 vp
    let q := (s.opening p vp).quenching p node slot
    let o := q.pot p
    (s.confirmOnset p vp).modPot p f = { q with
      psu.pots := s.psu.pots.set p (f { o with fx := { o.fx with energyRemainder := (e.map Prod.snd).getD 0 } })
      aeu := q.aeu.powered (s.placed p).2 e, egu := s.egu.powered e
      port := (q.raise .aeOnset p.val vp (s.pot p).fx.vnorm).port, meu := (q.raise .aeOnset p.val vp (s.pot p).fx.vnorm).meu } := by
  intro e q o
  have hopening := State.settled_opening hs p vp
  have hactive : (s.opening p vp).active = true := State.active_of_supervising ((s.opening p vp).quenchReady_iff _ |>.mp hready).2.2.2.2.1
  have hquench : (s.opening p vp).decideQuench p = q :=
    State.decideQuench_of_settled hopening hactive (by rw [State.pot_opening]; exact haddress)
  have hsettled : q.Settled := by
    have h : ((s.opening p vp).tryQuench p).Settled := (Works.tryQuench (d := .still) .refl p : Works _ .still _).settled hopening
    rwa [State.tryQuench, if_pos hready, hquench] at h
  have hpot : ∀ port meu, State.pot { q with port := port, meu := meu } p = q.pot p := fun _ _ => rfl
  rw [State.confirmOnset_opening, State.tryQuench, if_pos hready, hquench, State.raise_beside hsettled hsettled rfl,
    State.energy_added (by rw [hpot, State.pot_quenching]; rfl), hpot]
  have hset : ∀ y, q.psu.pots.set p y = s.psu.pots.set p y := fun y => by
    unfold q State.quenching State.opening
    simp only [Vector.set_set]
  obtain ⟨hlog, hvnorm, hlast, hrest⟩ : (q.pot p).logIndex = (s.placed p).2 ∧ (q.pot p).fx.vnorm = (s.pot p).fx.vnorm
      ∧ (q.pot p).lastTime = (s.pot p).lastTime ∧ (q.pot p).fx.energyRemainder = 0 := by
    rw [State.pot_quenching, State.pot_opening]
    exact ⟨rfl, rfl, rfl, rfl⟩
  simp only [o, hlog, hvnorm, hlast, hrest, hset]
  rfl

end

/-- What holds of the place of a new record holds of each of the three places of R58. -/
theorem Aeu.place_choices {u : Aeu} {p : Fin 384} {q : Pot} {P : Aeu → Option Nat → Prop} (h : P (u.place p q).1 (u.place p q).2) :
    let record (pl : Nat) : AeRecord := { place := pl, pot := p, onsetDay := q.fx.onsetDay, onsetMs := q.fx.onsetMs, vnorm := q.fx.vnorm }
    (∀ pl < Config.logPlaces, u.log.length < Config.logPlaces → (∀ r ∈ u.log, r.place ≠ pl) → (∀ j < pl, ∃ r ∈ u.log, r.place = j) →
        P { u with log := u.log ++ [record pl] } (some pl))
      ∧ (∀ before old after, Config.logPlaces ≤ u.log.length → u.log = before ++ old :: after → (∀ r ∈ before, r.closed = false) →
        old.closed = true → P { u with
          log := before ++ after ++ [record old.place], trace := u.trace.filter fun r => r.place != old.place } (some old.place))
      ∧ (Config.logPlaces ≤ u.log.length → (∀ r ∈ u.log, r.closed = false) →
        P { u with counters.unlogged := bump32 u.counters.unlogged } none) := by
  have hgives : ∀ v, u.place p q = v → P v.1 v.2 := fun v hv => hv ▸ h
  exact ⟨fun pl hpl hroom hfree hlowest => hgives _ (Aeu.place_of_free hroom hpl hfree hlowest p q),
    fun before old after hfull hlog hbefore hold => hgives _ (Aeu.place_of_closed hfull hlog hbefore hold p q),
    fun hfull hopen => hgives _ (Aeu.place_of_open hfull hopen p q)⟩

/-! ### The computed readings of QUIET and SUSPECT pots -/

section
variable {s w : State} {c : Instr} {p : Fin 384} {src : Addr} {slot vp : Nat} {port : Port} {z : Pot}
variable (h : s.Computes c p src slot vp port z w)
include h

theorem State.Computes.advice_rest (hs : s.Settled) :
    (w.decideAdvice p).Settled ∧ w.decideAdvice p = { w with port := (w.decideAdvice p).port, psu := (w.decideAdvice p).psu }
      ∧ (w.decideAdvice p).pot p = { z with order := ((w.decideAdvice p).pot p).order }
      ∧ (∀ p', p' ≠ p → (w.decideAdvice p).pot p' = s.pot p')
      ∧ (((w.decideAdvice p).pot p).order.filter fun o => o.kind == .quench) = (s.pot p).order.filter fun o => o.kind == .quench := by
  obtain ⟨-, -, -, -, -, -, -, -, haddress, horder, -⟩ := h.fields
  have hrest := State.decideAdvice_rest (h.settled hs) (by rw [h.pot]; exact haddress)
  rw [h.pot, horder] at hrest
  obtain ⟨hsettled, hv, hpot, hother, hfilter⟩ := hrest
  exact ⟨hsettled, hv, hpot, fun p' hp' => (hother p' hp').trans (h.other hp'), hfilter⟩

theorem State.Computes.advice_off (hoff : (s.pot p).ae ≠ .quiet ∨ (s.pot p).cfg.advice = false) : w.decideAdvice p = w := by
  obtain ⟨hae, -, -, hcfg, -⟩ := h.fields
  rcases hoff with hq | hq
  · exact State.decideAdvice_of_effect (by rw [h.pot, hae]; exact hq)
  · exact State.decideAdvice_of_off (by rw [h.pot, hcfg]; exact hq)

/-- An event raised on the computed record, as on what the frame has left. -/
theorem State.Computes.raised (hs : s.Settled) (k : EventKind) (j a b : Nat) :
    (w.raise k j a b).meu = (State.raise { s with port := port } k j a b).meu
      ∧ (w.raise k j a b).port = (State.raise { s with port := port } k j a b).port := by
  have hraise := State.raise_beside (h.base hs) (h.settled hs) (by rw [h.state]; rfl) k j a b
  rw [hraise]
  exact ⟨rfl, rfl⟩

/-- A reading above Vmax of a pot that is not SUSPECT. -/
theorem State.Computes.faults (hs : s.Settled) (hmax : s.line.ae.vmax < vp) (hne : (s.pot p).ae ≠ .suspect) :
    ∃ t, exec c s = .next t
      ∧ t.pot p = { z.finished vp s.time with faults := min ((s.pot p).faults + 1) 65535, order := (t.pot p).order }
      ∧ (t.meu.events[EventKind.measurementFault.index]).pending = true
      ∧ ((s.pot p).ae ≠ .quiet ∨ (s.pot p).cfg.advice = false →
        t = { s with
          psu.pots := s.psu.pots.set p { z.finished vp s.time with faults := min ((s.pot p).faults + 1) 65535 }, meu := t.meu, port := t.port }
          ∧ State.eventRaised { s with port := port } t .measurementFault p.val vp (s.pot p).ae.code) := by
  obtain ⟨hvsettled, hv, hvpot, -⟩ := h.advice_rest hs
  obtain ⟨hae, -, -, -, -, -, -, -, -, -, -, hfaults, -⟩ := h.fields
  have hvae : ((w.decideAdvice p).pot p).ae = (s.pot p).ae := by rw [hvpot]; exact hae
  have hvmax : (w.decideAdvice p).line.ae.vmax < vp := by rw [hv, h.line]; exact hmax
  have hrun := h.run
  rw [State.workEffect_of_fault (by rw [hvae]; exact hne) hvmax, State.measurementFault_of_settled hvsettled, hvae] at hrun
  obtain ⟨t, ht, hrun⟩ : ∃ t, t = _ ∧ exec c s = .next t := ⟨_, rfl, hrun⟩
  have htpot : t.pot p = Pot.finished { (w.decideAdvice p).pot p with faults := bump16 ((w.decideAdvice p).pot p).faults } vp s.time :=
    State.pot_of_pots (by rw [ht])
  refine ⟨t, hrun, ?_, by rw [ht]; exact State.raise_marks .., fun hoff => ?_⟩
  · rw [htpot, hvpot]
    simp only [Pot.finished_eq, hfaults]
    rfl
  · rw [h.advice_off hoff] at ht
    obtain ⟨hmeu, hport⟩ := h.raised hs .measurementFault p.val vp (s.pot p).ae.code
    rw [ht, hmeu, hport, h.set, h.pot, h.state, Pot.finished_eq, Pot.finished_eq, hfaults]
    exact ⟨rfl, rfl, rfl⟩

/-- A reading above Vmax of a SUSPECT pot. -/
theorem State.Computes.faults_suspect (hs : s.Settled) (hmax : s.line.ae.vmax < vp) (hq : (s.pot p).ae = .suspect) :
    ∃ t, exec c s = .next t
      ∧ t = { s with
          psu.pots := s.psu.pots.set p { z.finished vp s.time with
            faults := min ((s.pot p).faults + 1) 65535, ae := .quiet, fx := { (s.pot p).fx with qualificationEnd := none } }
          meu := t.meu, port := t.port }
      ∧ State.eventRaised { s with port := port } t .measurementFault p.val vp 1 := by
  obtain ⟨hae, hfx, -, -, -, -, -, -, -, -, -, hfaults, -⟩ := h.fields
  have hrun := h.run_of_effect (by rw [hq]; nofun)
  obtain ⟨hmeu, hport⟩ := h.raised hs .measurementFault p.val vp 1
  rw [State.workEffect_of_suspect (by rw [h.pot, hae]; exact hq), State.workSuspect_of_fault (h.settled hs) (h.line ▸ hmax), hmeu, hport, h.set,
    h.pot, h.state, Pot.finished_eq, hfx, hfaults] at hrun
  refine ⟨_, hrun, ?_, rfl, rfl⟩
  rw [Pot.finished_eq]
  rfl

/-- A reading below the onset threshold of a SUSPECT pot. -/
theorem State.Computes.glitches (hq : (s.pot p).ae = .suspect) (honset : vp < s.onsetThreshold (s.pot p)) (hmax : vp ≤ s.line.ae.vmax) :
    exec c s = .next (State.modPot { s with port := port } p fun _ => { z.finished vp s.time with
      ae := .quiet, glitches := min ((s.pot p).glitches + 1) 65535
      fx := { (s.pot p).fx with qualificationEnd := none, quietVoltage := vp } }) := by
  obtain ⟨hae, hfx, -, -, -, -, -, -, -, -, -, -, hglitches⟩ := h.fields
  rw [h.run_of_effect (by rw [hq]; nofun), State.workEffect_of_suspect (by rw [h.pot, hae]; exact hq),
    State.workSuspect_of_low (h.line ▸ hmax) (h.onsetThreshold ▸ honset), State.modPot_eq, h.set, h.pot, h.state, Pot.finished_eq,
    Pot.finished_eq, hfx, hglitches]
  rfl

/-- A reading at or above the onset threshold of a QUIET pot. -/
theorem State.Computes.onsets (hs : s.Settled) (hq : (s.pot p).ae = .quiet) (honset : s.onsetThreshold (s.pot p) ≤ vp)
    (hmax : vp ≤ s.line.ae.vmax) :
    ∃ t, exec c s = .next t
      ∧ t.pot p = { z.finished vp s.time with
          ae := .suspect, dwell := 0, order := (s.pot p).order.filter fun o => o.kind == .quench
          fx := { (s.pot p).fx with
            onsetTime := s.time, onsetDay := s.stamp.1, onsetMs := s.stamp.2, onsetVoltage := vp, vnorm := (s.pot p).fx.quietVoltage
            qualificationEnd := some (s.time + s.line.ae.tq * 1000) } }
      ∧ t = { s with port := t.port, psu := t.psu } ∧ (∀ p', p' ≠ p → t.pot p' = s.pot p')
      ∧ ((s.pot p).cfg.advice = false → t.port = port ∧ t.psu = { s.psu with
          pots := t.psu.pots
          sendList := if ∃ o ∈ (s.pot p).order, o.kind ≠ .quench then s.psu.sendList.filter fun e => e.1 != p else s.psu.sendList }) := by
  obtain ⟨hvsettled, hv, hvpot, hvother, hvorder⟩ := h.advice_rest hs
  obtain ⟨hae, hfx, -, -, -, -, -, hinhibit, -, horder, -⟩ := h.fields
  have hvae : ((w.decideAdvice p).pot p).ae = .quiet := by rw [hvpot]; exact hae.trans hq
  have hvline : (w.decideAdvice p).line = s.line := by rw [hv, h.line]
  have hvtime : (w.decideAdvice p).time = s.time := by rw [hv, h.now]
  have hvstamp : (w.decideAdvice p).stamp = s.stamp := by rw [hv, h.state]; rfl
  have hvinhibit : ((w.decideAdvice p).pot p).inhibitUntil = (s.pot p).inhibitUntil := by rw [hvpot]; exact hinhibit
  have hrun := h.run
  rw [State.workEffect_of_onset hvae (by rw [hvline]; exact hmax) (by rw [h.threshold hvline hvtime hvinhibit]; exact honset),
    State.onset_eq, State.modPot_eq] at hrun
  obtain ⟨t, ht, hrun⟩ : ∃ t, t = _ ∧ exec c s = .next t := ⟨_, rfl, hrun⟩
  rw [hvline, hvtime, hvstamp] at ht
  refine ⟨t, hrun, ?_, ?_, fun p' hp' => ?_, fun hoff => ?_⟩
  · refine (State.pot_of_pots (by rw [ht])).trans ?_
    rw [State.pot_of_pots (v := (w.decideAdvice p).psu.pots) rfl, hvorder, hvpot]
    simp only [Pot.finished_eq, hfx]
  · rw [ht, hv, h.state]
  · obtain ⟨y, htpots⟩ : ∃ y, t.psu.pots = (w.decideAdvice p).psu.pots.set p y := ⟨_, by rw [ht]; exact Vector.set_set ..⟩
    exact (State.pot_of_pots_ne htpots hp').trans (hvother p' hp')
  · rw [h.advice_off (.inr hoff), h.pot, horder] at ht
    rw [ht, h.state]
    exact ⟨rfl, rfl⟩

theorem State.Computes.placed : w.placed p = Aeu.place { s.aeu with count := s.aeu.count + 1 } p (s.pot p) := by
  obtain ⟨-, hfx, -⟩ := h.fields
  unfold State.placed Aeu.place newRecord
  rw [h.pot, hfx, h.state]

theorem State.Computes.opening_ready : (w.opening p vp).quenchReady ((w.opening p vp).pot p) = true
    ↔ (s.pot p).cfg.tqd = 0 ∧ (s.pot p).cfg.autoQuench = true ∧ s.meu.mode = .supervising := by
  obtain ⟨-, -, -, hcfg, -, -, -, -, haddress, -⟩ := h.fields
  rw [State.quenchReady_opening (by rw [h.pot, haddress]; rfl), h.pot, hcfg, h.state]

theorem State.Computes.run_of_confirm (hq : (s.pot p).ae = .suspect) (honset : s.onsetThreshold (s.pot p) ≤ vp) (hmax : vp ≤ s.line.ae.vmax) :
    exec c s = .next ((w.confirmOnset p vp).modPot p fun q => q.finished vp s.time) := by
  have hconfirm : w.workSuspect p vp = w.confirmOnset p vp := by
    unfold State.workSuspect
    dsimp only
    rw [if_neg (by rw [h.line]; exact Nat.not_lt.mpr hmax), if_pos (by rw [h.onsetThreshold]; exact honset)]
  rw [h.run_of_effect (by rw [hq]; nofun), State.workEffect_of_suspect (by rw [h.pot, h.fields.1]; exact hq), hconfirm]

/-- The log and trace with the onset voltage and the confirming voltage of a new record entered (R46). -/
def State.confirmedLog (s : State) (p : Fin 384) (vp : Nat) (placed : Aeu × Option Nat) : Aeu :=
  (Aeu.traced { placed.1 with counters.onsets := bump32 placed.1.counters.onsets } placed.2 (s.pot p).fx.onsetVoltage).traced placed.2 vp

/-- The part with the effect opened, in the terms of the state before the reading. -/
theorem State.Computes.opening_eq : w.opening p vp = { s with
    port := port, psu.pots := s.psu.pots.set p ((w.opening p vp).pot p), aeu := s.confirmedLog p vp (w.placed p)
    line.aeHold := decide (s.line.ae.holdLimit ≤ s.aeu.count + 1) } := by
  rw [State.pot_opening, h.pot]
  unfold State.opening State.confirmedLog
  rw [h.pot, h.fields.2.1, h.set]
  generalize w.placed p = placed
  rw [h.state]

/-- A reading that confirms the onset without a quench order at once. -/
theorem State.Computes.confirms (hs : s.Settled) (hq : (s.pot p).ae = .suspect) (honset : s.onsetThreshold (s.pot p) ≤ vp)
    (hmax : vp ≤ s.line.ae.vmax) (hno : (w.opening p vp).quenchReady ((w.opening p vp).pot p) = false) :
    let e := s.aeEnergyOf (s.pot p).fx.vnorm (s.pot p).lastTime 0 vp
    ∃ t, exec c s = .next t
      ∧ t = { s with
          psu.pots := s.psu.pots.set p { z.finished vp s.time with
            ae := .active, attempts := 0, localQuench := false, logIndex := (w.placed p).2
            fx := { (s.pot p).fx with
              persistent := false, duration := 0, energyRemainder := (e.map Prod.snd).getD 0, spanStart := s.time
              qualificationEnd := none, quenchDue := some (s.time + (s.pot p).cfg.tqd * 1000) } }
          aeu := (s.confirmedLog p vp (w.placed p)).powered (w.placed p).2 e, egu := s.egu.powered e
          line.aeHold := decide (s.line.ae.holdLimit ≤ s.aeu.count + 1), meu := t.meu, port := t.port }
      ∧ State.eventRaised { s with port := port } t .aeOnset p.val vp (s.pot p).fx.vnorm := by
  intro e
  obtain ⟨-, hfx, -, hcfg, hlast, -⟩ := h.fields
  obtain ⟨hmeu, hport⟩ := h.raised hs .aeOnset p.val vp (s.pot p).fx.vnorm
  have hrun := h.run_of_confirm hq honset hmax
  have hstate : (w.aeEnergyOf (s.pot p).fx.vnorm (s.pot p).lastTime 0 vp, w.egu) = (e, s.egu) := by rw [h.state]; rfl
  obtain ⟨he, hegu⟩ := Prod.mk.inj hstate
  rw [State.confirm_without_order (h.settled hs) hno, h.pot, hfx, hlast, hmeu, hport, h.set, he, hegu, State.pot_opening, h.pot, hfx, hcfg, h.now,
    Pot.finished_eq, h.opening_eq] at hrun
  refine ⟨_, hrun, ?_, rfl, rfl⟩
  rw [Pot.finished_eq, hcfg]

/-- A reading that confirms the onset with a quench order at once. -/
theorem State.Computes.confirms_and_orders (hs : s.Settled) (hq : (s.pot p).ae = .suspect) (honset : s.onsetThreshold (s.pot p) ≤ vp)
    (hmax : vp ≤ s.line.ae.vmax) (hready : (w.opening p vp).quenchReady ((w.opening p vp).pot p) = true) :
    let e := s.aeEnergyOf (s.pot p).fx.vnorm (s.pot p).lastTime 0 vp
    let unsent := ((w.opening p vp).potOrder .quench src slot).unsent
    let logged := s.confirmedLog p vp (w.placed p)
    ∃ t, exec c s = .next t
      ∧ t = { s with
          psu := { s.psu with
            pots := s.psu.pots.set p { z.finished vp s.time with
              ae := .quenching, attempts := 1, localQuench := false, logIndex := (w.placed p).2
              order := some { kind := .quench, seq := s.psu.seq, sent := s.time, dest := src, slot := slot, unsent := unsent }
              fx := { (s.pot p).fx with
                persistent := false, duration := 0, energyRemainder := (e.map Prod.snd).getD 0, spanStart := s.time
                qualificationEnd := none, quenchDue := none, quenchTimeout := some (s.time + s.line.ae.tqx * 1000) } }
            sendList := t.psu.sendList, seq := s.psu.seq + 1 }
          aeu := Aeu.powered { logged with
            log := logged.amended (w.placed p).2 fun r => { r with ordersSent := r.ordersSent + 1 }
            counters.quenchSent := bump32 logged.counters.quenchSent } (w.placed p).2 e
          egu := s.egu.powered e, line.aeHold := decide (s.line.ae.holdLimit ≤ s.aeu.count + 1), meu := t.meu, port := t.port }
      ∧ t.orderPlaced p { dest := src, src := s.address, kind := 0x30, seq := s.psu.seq, payload := [BitVec.ofNat 8 slot, 4] } unsent
      ∧ (t.meu.events[EventKind.aeOnset.index]).pending = true := by
  intro e unsent logged
  obtain ⟨-, hfx, -, hcfg, hlast, -, -, -, haddress, -⟩ := h.fields
  have hrun := h.run_of_confirm hq honset hmax
  have hstate : (w.aeEnergyOf (s.pot p).fx.vnorm (s.pot p).lastTime 0 vp, w.egu) = (e, s.egu) := by rw [h.state]; rfl
  obtain ⟨he, hegu⟩ := Prod.mk.inj hstate
  rw [State.confirm_with_order (h.settled hs) (by rw [h.pot]; exact haddress) hready, h.pot, hfx, hlast, h.set, he, hegu] at hrun
  obtain ⟨t, ht, hrun⟩ : ∃ t, t = _ ∧ exec c s = .next t := ⟨_, rfl, hrun⟩
  have hkept : (w.opening p vp).address = s.address ∧ (w.opening p vp).psu.seq = s.psu.seq ∧ (w.opening p vp).time = s.time := by
    rw [h.opening_eq]
    exact ⟨rfl, rfl, rfl⟩
  obtain ⟨hself, hseq, htime⟩ := hkept
  have horder : (w.opening p vp).potOrder .quench src slot
      = { kind := .quench, seq := s.psu.seq, sent := s.time, dest := src, slot := slot, unsent := unsent } := by
    rw [← hseq, ← htime]
    rfl
  refine ⟨t, hrun, ?_, ?_, by rw [ht]; exact State.raise_marks ..⟩
  · rw [ht, State.pot_quenching, State.pot_opening, h.pot, hfx, hcfg, h.now]
    simp only [State.quenching, State.pot_opening]
    rw [horder, h.opening_eq, Pot.finished_eq, Pot.finished_eq, hcfg]
    rfl
  · have hplaced := (w.opening p vp).orderPlaced_quenching p src slot
    have hinsert : ∀ f ∈ ((w.opening p vp).quenching p src slot).port.insert, f ∈ t.port.insert := by
      rw [ht]
      exact fun f => State.mem_insert_raise _ _ _ _ _
    have hlist : t.psu.sendList = ((w.opening p vp).quenching p src slot).psu.sendList := by rw [ht]
    have hmoved := State.orderPlaced_mono hplaced hinsert hlist
    rw [hself, hseq] at hmoved
    exact hmoved

end

/-- Settles O31. -/
theorem potTimersEndOrdersInhibitsAndOnsets : Obligations.PotTimersEndOrdersInhibitsAndOnsets := by
  refine ⟨fun p s hlow => potTimers_end hlow, ?_⟩
  intro h time slots extra k p s ht hx hr hc hs hsup c u q vp x tests fault
  obtain ⟨port, z, w, hu, hz, hcomputes⟩ := exec_computableReading (time := time) (extra := extra) ht hx hr hc hsup
  have hu : u = { s with port := port } := hu
  have hz : x = z.finished vp s.time := hz
  have hcomputes : s.Computes c p h.src k vp port z w := hcomputes
  clear_value u x c
  subst hu hz
  refine ⟨fun hmax hne => hcomputes.faults hs hmax hne, fun hmax hq => hcomputes.faults_suspect hs hmax hq,
    fun hq htests => hcomputes.onsets hs hq htests.1 htests.2, fun hq honset hmax => hcomputes.glitches hq honset hmax, fun hq htests => ?_⟩
  intro fires e opened record logs aeu
  obtain ⟨honset, hmax⟩ := htests
  have hready : (w.opening p vp).quenchReady ((w.opening p vp).pot p) = true ↔ fires := hcomputes.opening_ready
  have hplaces : ∀ t : State, (t.pot p).logIndex = (w.placed p).2 → t.aeu = Aeu.powered (let logged := s.confirmedLog p vp (w.placed p)
      if fires then { logged with
        log := logged.amended (w.placed p).2 fun r => { r with ordersSent := r.ordersSent + 1 }
        counters.quenchSent := bump32 logged.counters.quenchSent } else logged) (w.placed p).2 e →
      logs t (w.placed p).2 { (w.placed p).1 with counters.onsets := bump32 (w.placed p).1.counters.onsets } := fun t hindex haeu => ⟨hindex, haeu⟩
  rw [hcomputes.placed] at hplaces
  by_cases hf : fires
  · obtain ⟨t, hexec, ht, hplaced, hmarks⟩ := hcomputes.confirms_and_orders hs hq honset hmax (hready.mpr hf)
    have htpot := State.pot_of_pots (s := t) (p := p) (by rw [ht])
    have hchoices := Aeu.place_choices (P := fun v pl => logs t pl { v with counters.onsets := bump32 v.counters.onsets })
      (hplaces t (by rw [htpot, hcomputes.placed]) (by rw [ht, if_pos hf, hcomputes.placed]))
    refine ⟨t, hexec, fun hno => absurd hf hno, fun _ => ⟨_, ?_, hplaced, by rw [ht], hmarks⟩, hchoices.1, hchoices.2.1, hchoices.2.2,
      fun p' hp' => State.pot_of_pots_ne (by rw [ht]) hp', by rw [ht], by rw [ht]⟩
    rw [htpot]
  · obtain ⟨t, hexec, ht, hraised⟩ := hcomputes.confirms hs hq honset hmax (Bool.eq_false_iff.mpr (mt hready.mp hf))
    have htpot := State.pot_of_pots (s := t) (p := p) (by rw [ht])
    have hchoices := Aeu.place_choices (P := fun v pl => logs t pl { v with counters.onsets := bump32 v.counters.onsets })
      (hplaces t (by rw [htpot, hcomputes.placed]) (by rw [ht, if_neg hf, hcomputes.placed]))
    refine ⟨t, hexec, fun _ => ⟨?_, hraised, by rw [ht]⟩, fun hyes => absurd hyes hf, hchoices.1, hchoices.2.1, hchoices.2.2,
      fun p' hp' => State.pot_of_pots_ne (by rw [ht]) hp', by rw [ht], by rw [ht]⟩
    rw [htpot]

end Sys2Proof.Machine
end

section
/-! PROOFS. The readings of pots cut out, and the markers (O27). -/

namespace Sys2Proof.Machine

/-! ### A reading by its marker (R10, R13, R16) -/

/-- The record of a pot that a reading finds: a LOST pot is STARTING, and the order address is the reading's (R10, R13). -/
def Pot.found (q : Pot) (src : Addr) (slot : Nat) : Pot :=
  { (if q.sup = .lost then q.enterStarting else q) with orderAddress := some (src, slot) }

section
variable {s : State} {p : Fin 384}

theorem State.takeReading_of_unconfigured (h : (s.pot p).sup = .unconfigured) (r : Reading) : s.takeReading p r = s := if_pos h

theorem State.takeReading_of_present (h : (s.pot p).sup ≠ .unconfigured) (r : Reading) : s.takeReading p r =
    ((State.takeMarker { s with psu.pots := s.psu.pots.set p ((s.pot p).found r.src r.slot) } p r.marker).workReading p r).modPot p
      fun q => { q with lastVoltage := r.vp, lastTime := s.time } := by
  unfold State.takeReading
  dsimp only
  rw [if_neg h, State.pot_modPot]
  unfold Pot.found
  by_cases hlost : (s.pot p).sup = .lost
  · have hlost' : ({ s.pot p with orderAddress := some (r.src, r.slot) } : Pot).sup = .lost := hlost
    rw [if_pos hlost', if_pos hlost, State.modPot_modPot]
    rfl
  · have hlost' : ¬({ s.pot p with orderAddress := some (r.src, r.slot) } : Pot).sup = .lost := hlost
    rw [if_neg hlost', if_neg hlost]
    rfl

theorem Pot.found_of_not_lost {q : Pot} (h : q.sup ≠ .lost) (src : Addr) (slot : Nat) :
    q.found src slot = { q with orderAddress := some (src, slot) } := by
  unfold Pot.found
  rw [if_neg h]

theorem Pot.found_sup (q : Pot) (src : Addr) (slot : Nat) : (q.found src slot).sup = if q.sup = .lost then .starting else q.sup := by
  unfold Pot.found
  by_cases h : q.sup = .lost
  · rw [if_pos h, if_pos h]
    rfl
  · rw [if_neg h, if_neg h]

theorem Pot.found_rest (q : Pot) (src : Addr) (slot : Nat) : (q.found src slot).ae = q.ae ∧ (q.found src slot).order = q.order
    ∧ (q.found src slot).fx = q.fx ∧ (q.found src slot).logIndex = q.logIndex ∧ (q.found src slot).ignoredMarkers = q.ignoredMarkers := by
  unfold Pot.found
  split_ifs <;> exact ⟨rfl, rfl, rfl, rfl, rfl⟩

theorem Pot.found_worked {q : Pot} (h : q.sup = .starting ∨ q.sup = .running ∨ q.sup = .lost) (src : Addr) (slot : Nat) :
    (q.found src slot).sup.worked = true := by
  rw [Pot.found_sup]
  rcases h with h | h | h <;> rw [h] <;> rfl

/-! ### The markers (R16 to R19, R48, R49) -/

theorem State.takeMarker_zero (s : State) (p : Fin 384) : s.takeMarker p 0 = s := by
  unfold State.takeMarker
  exact if_pos rfl

theorem State.takeMarker_of_worked (hw : (s.pot p).sup.worked = true) {m : Byte} (hm : m ≠ 0) : s.takeMarker p m =
    if m = 1 then if (s.pot p).ae.counted then s.takeFeed p else s.modPot p Pot.ignoreMarker
    else if m = 2 ∨ m = 3 then s.startInhibit p
    else if m = 4 then (s.modPot p fun q => { q with dwell := 0 }).cancelAdvice p
    else if m = 5 then s.cutOut p
    else s.modPot p Pot.ignoreMarker := by
  unfold State.takeMarker
  dsimp only
  rw [if_neg hm, if_pos hw]

section
variable (hw : (s.pot p).sup.worked = true) {m : Byte}
include hw

theorem State.takeMarker_feed (hm : m = 1) : s.takeMarker p m = if (s.pot p).ae.counted then s.takeFeed p else s.modPot p Pot.ignoreMarker := by
  subst hm
  exact State.takeMarker_of_worked hw (by decide)

theorem State.takeMarker_inhibit (hm : m = 2 ∨ m = 3) : s.takeMarker p m = s.startInhibit p := by
  rcases hm with rfl | rfl <;> exact State.takeMarker_of_worked hw (by decide)

theorem State.takeMarker_tap (hm : m = 4) : s.takeMarker p m = { s with psu := { s.psu with
    pots := s.psu.pots.set p { s.pot p with dwell := 0, order := (s.pot p).order.filter fun o => o.kind == .quench }
    sendList := if ∃ o ∈ (s.pot p).order, o.kind ≠ .quench then s.psu.sendList.filter fun e => e.1 != p else s.psu.sendList } } := by
  subst hm
  exact (State.takeMarker_of_worked hw (by decide)).trans (s.modPot_cancelAdvice p rfl rfl)

theorem State.takeMarker_cutOut (hm : m = 5) : s.takeMarker p m = s.cutOut p := by
  subst hm
  exact State.takeMarker_of_worked hw (by decide)

theorem State.takeMarker_other (hm : m = 6 ∨ 7 < m.toNat) : s.takeMarker p m = s.modPot p Pot.ignoreMarker := by
  have hne : m ≠ 0 ∧ m ≠ 1 ∧ ¬(m = 2 ∨ m = 3) ∧ m ≠ 4 ∧ m ≠ 5 := by
    rcases hm with rfl | h
    · decide
    · exact ⟨by bv_omega, by bv_omega, by bv_omega, by bv_omega, by bv_omega⟩
  obtain ⟨h0, h1, h23, h4, h5⟩ := hne
  rw [State.takeMarker_of_worked hw h0, if_neg h1, if_neg h23, if_neg h4, if_neg h5]

end

theorem State.takeMarker_of_cut (hw : (s.pot p).sup.worked = false) {m : Byte} (hm : m ≠ 0) : s.takeMarker p m =
    if m = 6 ∧ ((s.pot p).sup = .bypassing ∨ (s.pot p).sup = .bypassed) then s.modPot p Pot.enterStarting
    else s.modPot p Pot.ignoreMarker := by
  unfold State.takeMarker
  dsimp only
  rw [if_neg hm, hw, if_neg Bool.false_ne_true]

theorem State.takeFeed_of_active (h : (s.pot p).ae = .active) : s.takeFeed p = { s with
    psu.pots := s.psu.pots.set p { s.pot p with
      ae := .quenching, localQuench := true
      fx := { (s.pot p).fx with quenchDue := none, quenchTimeout := some (s.time + s.line.ae.tqx * 1000) } }
    aeu.log := s.aeu.amended (s.pot p).logIndex fun r => { r with localQuench := true } } := by
  unfold State.takeFeed
  dsimp only
  rw [State.modOpenRecord_eq_amended, State.pot_modPot, State.modPot_eq]
  simp only [h]

theorem State.takeFeed_of_quenching (h : (s.pot p).ae = .quenching) : s.takeFeed p = { s with
    psu.pots := s.psu.pots.set p { s.pot p with localQuench := true }
    aeu.log := s.aeu.amended (s.pot p).logIndex fun r => { r with localQuench := true } } := by
  unfold State.takeFeed
  dsimp only
  rw [State.modOpenRecord_eq_amended, State.pot_modPot, State.modPot_eq]
  simp only [h]

/-- A CUT-OUT on a settled part (R19, R57). -/
theorem State.cutOut_of_settled (hs : s.Settled) (p : Fin 384) : s.cutOut p = { s.closing p .bypassed with psu := { s.psu with
    pots := s.psu.pots.set p { s.closedPot (s.pot p) with sup := .bypassing, order := none, inhibitUntil := none, dwell := 0, parked := none }
    sendList := s.psu.sendList.filter fun e => e.1 != p } } := by
  unfold State.cutOut
  rw [State.forceClose_of_settled hs, State.modPot_eq, State.pot_dropPotOrder, State.dropPotOrder_set, State.pot_closing, State.closing_set]
  rfl

/-- A CUT-OUT where no effect is open (R19, R57). -/
theorem State.cutOut_of_still (h : (s.pot p).ae = .quiet ∨ (s.pot p).ae = .suspect) : s.cutOut p = { s with psu := { s.psu with
    pots := s.psu.pots.set p { (if (s.pot p).ae = .quiet then s.pot p else (s.pot p).quieted) with
      sup := .bypassing, order := none, inhibitUntil := none, dwell := 0, parked := none }
    sendList := s.psu.sendList.filter fun e => e.1 != p } } := by
  rcases h with h | h
  · have hclose : s.forceClose p .bypassed = s := by
      unfold State.forceClose
      simp only [h]
    rw [State.cutOut, hclose, State.modPot_eq, State.pot_dropPotOrder, State.dropPotOrder_set, if_pos h]
    rfl
  · have hclose : s.forceClose p .bypassed = s.modPot p Pot.quieted := by
      unfold State.forceClose
      simp only [h]
    have hne : (s.pot p).ae ≠ .quiet := by rw [h]; nofun
    rw [State.cutOut, hclose, State.modPot_eq, State.pot_dropPotOrder, State.dropPotOrder_set, if_neg hne, State.pot_modPot, State.modPot_eq,
      Vector.set_set]
    rfl

end
/-! ### What the advice and the effect leave of the resistance and the filters -/

/-- What a computation writes of a pot's record, with its supervision state and configuration (R11, R25 to R28). -/
def Pot.filters (q : Pot) : Supervision × Nat × Nat × Nat × Band × Bool × Nat × PotConfig :=
  (q.sup, q.startingCount, q.rf, q.nf, q.band, q.noisy, q.lastResistance, q.cfg)

theorem Pot.filters_of_sentForm {q x : Pot} (h : q.sentForm = x.sentForm) : q.filters = x.filters := by
  show q.sentForm.filters = x.sentForm.filters
  rw [h]

section
variable (s : State) (p : Fin 384)

@[simp] theorem State.filters_raise (k : EventKind) (j a b : Nat) : ((s.raise k j a b).pot p).filters = (s.pot p).filters :=
  Pot.filters_of_sentForm ((potsKept_raise s k j a b).sentForm p)

@[simp] theorem State.filters_modOpenRecord (f : AeRecord → AeRecord) : ((s.modOpenRecord p f).pot p).filters = (s.pot p).filters := by
  rw [State.modOpenRecord_eq_amended]
  rfl

@[simp] theorem State.filters_traceReading (vp : Nat) : ((s.traceReading p vp).pot p).filters = (s.pot p).filters := by
  rw [State.traceReading_eq]
  rfl

theorem State.filters_dropPotOrder : ((s.dropPotOrder p).pot p).filters = (s.pot p).filters := by
  rw [State.pot_dropPotOrder]
  rfl

@[simp] theorem State.filters_addAeEnergy (vp : Nat) : ((s.addAeEnergy p vp).pot p).filters = (s.pot p).filters := by
  unfold State.addAeEnergy
  dsimp only
  split
  · refine (State.filters_modOpenRecord _ p _).trans ?_
    rw [State.pot_modPot]
    rfl
  · rfl

@[simp] theorem State.filters_cancelAdvice : ((s.cancelAdvice p).pot p).filters = (s.pot p).filters := by
  unfold State.cancelAdvice
  split
  · split
    · rw [State.pot_modPot]
      exact State.filters_dropPotOrder s p
    · rfl
  · rfl

@[simp] theorem State.filters_decidePotOrder (k : OrderKind) : ((s.decidePotOrder p k).pot p).filters = (s.pot p).filters := by
  unfold State.decidePotOrder
  split
  · rfl
  · next node slot _ =>
    refine (Pot.filters_of_sentForm ((potsKept_sendPotOrder _ p _).sentForm p)).trans ?_
    exact (congrArg Pot.filters (s.pot_modPot p fun q =>
      { q with order := some { kind := k, seq := s.psu.seq, sent := s.time, dest := node, slot := slot, unsent := true } })).trans rfl

theorem State.filters_decideAdvice : ((s.decideAdvice p).pot p).filters = (s.pot p).filters := by
  unfold State.decideAdvice
  split
  · rfl
  · split
    · exact State.filters_decidePotOrder _ p _
    · rfl

@[simp] theorem State.filters_tryQuench : ((s.tryQuench p).pot p).filters = (s.pot p).filters := by
  unfold State.tryQuench
  split
  · refine (State.filters_modOpenRecord _ p _).trans ?_
    rw [State.pot_modPot]
    exact State.filters_decidePotOrder s p .quench
  · rfl

theorem State.filters_confirmOnset (vp : Nat) : ((s.confirmOnset p vp).pot p).filters = (s.pot p).filters := by
  rw [State.confirmOnset_opening, State.filters_addAeEnergy, State.filters_raise, State.filters_tryQuench, State.pot_opening]
  rfl

theorem State.filters_workSuspect (vp : Nat) : ((s.workSuspect p vp).pot p).filters = (s.pot p).filters := by
  unfold State.workSuspect
  dsimp only
  split_ifs
  · rw [State.filters_raise, State.pot_modPot, State.pot_modPot]
    rfl
  · exact s.filters_confirmOnset p vp
  · rw [State.pot_modPot, State.pot_modPot]
    rfl

theorem State.filters_measurementFault (vp : Nat) : ((s.measurementFault p vp).pot p).filters = (s.pot p).filters := by
  unfold State.measurementFault
  rw [State.filters_raise, State.pot_modPot]
  rfl

theorem State.filters_relapse (vp : Nat) : ((s.relapse p vp).pot p).filters = (s.pot p).filters := by
  rw [State.relapse_eq, State.filters_addAeEnergy, State.filters_traceReading, State.filters_tryQuench, State.pot_relapsing]
  unfold State.relapsed
  dsimp only
  split_ifs <;> rfl

theorem State.filters_beginClearing (vp : Nat) : ((s.beginClearing p vp).pot p).filters = (s.pot p).filters := by
  rw [State.beginClearing_eq, State.pot_of_pots rfl]
  rfl

/-- The anode effect unit leaves what a computation has written (R43 to R55). -/
theorem State.filters_workEffect (vp : Nat) : ((s.workEffect p vp).pot p).filters = (s.pot p).filters := by
  unfold State.workEffect
  dsimp only
  split
  · exact s.filters_workSuspect p vp
  · split_ifs
    · exact s.filters_measurementFault p vp
    · unfold State.onset
      rw [State.filters_cancelAdvice, State.pot_modPot]
      rfl
    · rw [State.pot_modPot]
      rfl
  · split_ifs
    · exact s.filters_measurementFault p vp
    · exact s.filters_traceReading p vp
    · rw [State.filters_traceReading, State.pot_modPot]
      rfl
    · exact s.filters_relapse p vp
  · split_ifs
    · exact s.filters_measurementFault p vp
    · exact s.filters_beginClearing p vp
    · rw [State.filters_addAeEnergy, State.filters_traceReading]

end
section
variable {s : State} {p : Fin 384}

/-! ### A reading of a pot cut out (R14, R15) -/

theorem State.workReading_of_bypassing (h : (s.pot p).sup = .bypassing) (r : Reading) : s.workReading p r =
    if r.vp < 1000 then s.modPot p fun q => { q with parked := some r.vp, sup := .bypassed } else s := by
  unfold State.workReading
  simp only [h]

theorem State.workReading_of_bypassed (h : (s.pot p).sup = .bypassed) {v : Nat} (hv : (s.pot p).parked = some v) (r : Reading) :
    s.workReading p r = if 500 < distance r.vp v then (s.modPot p Pot.enterStarting).raise .unannouncedCutIn p.val r.vp v else s := by
  unfold State.workReading
  simp only [h, hv]

theorem State.workReading_of_no_tap (s : State) (p : Fin 384) {r : Reading} (h : r.marker ≠ 4) :
    s.workReading p r = s.workReading p { r with marker := 0 } := by
  have hr : (r.marker == 4) = false := beq_eq_false_iff_ne.mpr h
  unfold State.workReading
  dsimp only
  rw [hr]
  rfl

/-! ### The reading of a TAP (R18) -/

/-- A computation with TAP primes, or sets Rf whole (R18, R26). -/
theorem Pot.compute_of_tap (q : Pot) (il vp : Nat) :
    let x := q.compute il vp true
    let r := (resistance q.cfg.vb il vp).1
    x.lastResistance = r ∧ x.rf = r
      ∧ x.nf = (if q.sup = .starting ∧ q.startingCount = 0 then 0 else filterStep q.nf (distance r q.rf) q.cfg.kn)
      ∧ x.noisy = decide (q.cfg.nlim < x.nf) ∧ x.band = classifyBand q.cfg r ∧ x.sup = q.sup ∧ x.startingCount = q.startingCount := by
  intro x r
  have hholds : Pot.holds { q with
      lastResistance := (resistance q.cfg.vb il vp).1, lowV := (resistance q.cfg.vb il vp).2.1, sat := (resistance q.cfg.vb il vp).2.2 } true
        ≠ true := by
    unfold Pot.holds
    simp
  have hx : x = _ := if_neg hholds
  rw [hx]
  unfold Pot.workDwell Pot.classify Pot.stepFilters
  dsimp only
  by_cases hp : q.sup = .starting ∧ q.startingCount = 0
  · simp only [if_pos hp]
    split <;> exact ⟨rfl, rfl, rfl, rfl, rfl, rfl, rfl⟩
  · simp only [if_neg hp, if_true]
    split <;> exact ⟨rfl, rfl, rfl, rfl, rfl, rfl, rfl⟩

/-- What a computable reading leaves in its pot's filters, whatever the advice and the anode effect unit do (R11). -/
theorem State.filters_workComputable (s : State) (p : Fin 384) (vp : Nat) (tap : Bool) :
    ((s.workComputable p vp tap).pot p).filters = ((s.pot p).compute s.line.il vp tap).countStarting.filters := by
  have hcount : ∀ q x : Pot, q.filters = x.filters → q.countStarting.filters = x.countStarting.filters := by
    intro q x h
    unfold Pot.filters at h ⊢
    simp only [Prod.mk.injEq] at h
    obtain ⟨hsup, hcount, hrf, hnf, hband, hnoisy, hlast, hcfg⟩ := h
    rw [Pot.countStarting_eq, Pot.countStarting_eq, hsup, hcount]
    simp only [hrf, hnf, hband, hnoisy, hlast, hcfg]
  unfold State.workComputable
  dsimp only
  rw [State.pot_modPot]
  refine hcount _ _ ?_
  rw [State.filters_workEffect, State.filters_decideAdvice, State.pot_modPot]

end

/-- What a POT-SAMPLE with one reading does, by its marker (R10). -/
theorem exec_reading {s : State} {h : Header} {time : Long} {slots : Vector SlotReading 8} {extra : List Byte} {k : Fin 8} {p : Fin 384}
    {m : Byte} (ht : s.takes h .potSample = true) (hx : extra.length ≤ 32) (hr : s.readsOne h slots k p m = true) (hm : m ≠ 7) :
    let vp := slots[k].voltage.toNat
    ∃ port, s.carried h .potSample (potSamplePayload time slots extra) = { s with port := port }
      ∧ (s.Settled → State.Settled { s with port := port })
      ∧ ((s.pot p).sup = .unconfigured → exec (.potSample h time slots extra) s = .next { s with port := port })
      ∧ ((s.pot p).sup ≠ .unconfigured → exec (.potSample h time slots extra) s = .next
        ((State.workReading (State.takeMarker { s with port := port, psu.pots := s.psu.pots.set p ((s.pot p).found h.src k) } p m) p
          { vp := vp, marker := m, src := h.src, slot := k.val }).modPot p fun q => { q with lastVoltage := vp, lastTime := s.time })) := by
  intro vp
  have hexec := exec_potSample_of_readsOne (time := time) (extra := extra) ht hx hr hm
  have hu := s.carried_eq h .potSample (potSamplePayload time slots extra)
  have hsettled : s.Settled → (s.carried h .potSample (potSamplePayload time slots extra)).Settled := fun hs => State.settled_carried hs h _ _
  generalize s.carried h .potSample (potSamplePayload time slots extra) = u at hexec hu hsettled
  generalize u.port = port at hu
  subst hu
  refine ⟨port, rfl, hsettled, fun hsup => ?_, fun hsup => ?_⟩
  · rw [hexec, State.takeReading_of_unconfigured (s := { s with port := port }) hsup]
  · rw [hexec, State.takeReading_of_present (s := { s with port := port }) hsup]
    rfl

/-- The state `b` with the record `x` for pot `p`. -/
def State.putPot (b : State) (p : Fin 384) (x : Pot) : State := { b with psu.pots := b.psu.pots.set p x }

section
variable {b : State} {p : Fin 384} {x : Pot}

@[simp] theorem State.pot_putPot (b : State) (p : Fin 384) (x : Pot) : (b.putPot p x).pot p = x := Vector.getElem_set_self ..

@[simp] theorem State.putPot_set (b : State) (p : Fin 384) (x y : Pot) : (b.putPot p x).psu.pots.set p y = b.psu.pots.set p y := Vector.set_set ..

theorem State.putPot_ignored {n : Nat} (hn : x.ignoredMarkers = n) :
    (b.putPot p x).modPot p Pot.ignoreMarker = { b with psu.pots := b.psu.pots.set p { x with ignoredMarkers := min (n + 1) 65535 } } := by
  subst hn
  rw [State.modPot_eq, State.putPot_set, State.pot_putPot]
  rfl

section
variable {m : Byte} (hw : x.sup.worked = true)
include hw

theorem State.putPot_worked (b : State) (p : Fin 384) : ((b.putPot p x).pot p).sup.worked = true := by rw [State.pot_putPot, hw]

/-- FEED on an ACTIVE pot (R16, R48). -/
theorem State.putPot_feed_active {fx : Effect} {l : Option Nat} (hm : m = 1) (hae : x.ae = .active) (hfx : x.fx = fx) (hlog : x.logIndex = l) :
    (b.putPot p x).takeMarker p m = { b with
      psu.pots := b.psu.pots.set p { x with
        ae := .quenching, localQuench := true
        fx := { fx with quenchDue := none, quenchTimeout := some (b.time + b.line.ae.tqx * 1000) } }
      aeu.log := b.aeu.amended l fun r => { r with localQuench := true } } := by
  have hactive : ((b.putPot p x).pot p).ae = .active := by rw [State.pot_putPot, hae]
  refine (State.takeMarker_feed (State.putPot_worked hw b p) hm).trans ((if_pos (by rw [hactive]; rfl)).trans
    ((State.takeFeed_of_active hactive).trans ?_))
  subst hfx hlog
  rw [State.putPot_set, State.pot_putPot]
  rfl

theorem State.putPot_feed_quenching {l : Option Nat} (hm : m = 1) (hae : x.ae = .quenching) (hlog : x.logIndex = l) :
    (b.putPot p x).takeMarker p m = { b with
      psu.pots := b.psu.pots.set p { x with localQuench := true }, aeu.log := b.aeu.amended l fun r => { r with localQuench := true } } := by
  have hquenching : ((b.putPot p x).pot p).ae = .quenching := by rw [State.pot_putPot, hae]
  refine (State.takeMarker_feed (State.putPot_worked hw b p) hm).trans ((if_pos (by rw [hquenching]; rfl)).trans
    ((State.takeFeed_of_quenching hquenching).trans ?_))
  subst hlog
  rw [State.putPot_set, State.pot_putPot]
  rfl

theorem State.putPot_feed_ignored {n : Nat} (hm : m = 1) (hna : x.ae ≠ .active) (hnq : x.ae ≠ .quenching) (hn : x.ignoredMarkers = n) :
    (b.putPot p x).takeMarker p m = { b with psu.pots := b.psu.pots.set p { x with ignoredMarkers := min (n + 1) 65535 } } := by
  have hnc : ¬((b.putPot p x).pot p).ae.counted = true := by
    rw [State.pot_putPot]
    cases hq : x.ae with
    | active => exact absurd hq hna
    | quenching => exact absurd hq hnq
    | quiet | suspect | clearing => exact Bool.false_ne_true
  exact (State.takeMarker_feed (State.putPot_worked hw b p) hm).trans ((if_neg hnc).trans (State.putPot_ignored hn))

theorem State.putPot_inhibit (hm : m = 2 ∨ m = 3) : (b.putPot p x).takeMarker p m = { b with psu.pots := b.psu.pots.set p { x with
    inhibitUntil := if b.line.inhibitTime = 0 then none else some (b.time + b.line.inhibitTime * 1000) } } := by
  refine (State.takeMarker_inhibit (State.putPot_worked hw b p) hm).trans ((State.modPot_eq _ p _).trans ?_)
  rw [State.putPot_set, State.pot_putPot]
  rfl

/-- TAP on a pot without an advice (R18). -/
theorem State.putPot_tap {order : Option PotOrder} (hm : m = 4) (ho : x.order = order) (hno : ∀ o, order = some o → o.kind = .quench) :
    (b.putPot p x).takeMarker p m = { b with psu.pots := b.psu.pots.set p { x with dwell := 0 } } := by
  subst ho
  have hlist : ¬∃ o ∈ x.order, o.kind ≠ .quench := by
    rintro ⟨o, ho, hk⟩
    exact hk (hno o ho)
  have hfilter : (x.order.filter fun o => o.kind == .quench) = x.order := by
    cases ho : x.order with
    | none => rfl
    | some o => simp [Option.filter, hno o ho]
  refine (State.takeMarker_tap (State.putPot_worked hw b p) hm).trans ?_
  rw [State.putPot_set, State.pot_putPot, if_neg hlist, hfilter]
  rfl

/-- TAP on a pot with an advice (R18, R37). -/
theorem State.putPot_tap_advice {order : Option PotOrder} {o : PotOrder} (hm : m = 4) (ho : x.order = order) (horder : order = some o)
    (hk : o.kind ≠ .quench) : (b.putPot p x).takeMarker p m = { b with psu := { b.psu with
      pots := b.psu.pots.set p { x with dwell := 0, order := none }, sendList := b.psu.sendList.filter fun e => e.1 != p } } := by
  subst ho
  have hlist : ∃ o ∈ x.order, o.kind ≠ .quench := ⟨o, horder, hk⟩
  have hfilter : (x.order.filter fun o => o.kind == .quench) = none := by
    rw [horder]
    simp [Option.filter, hk]
  refine (State.takeMarker_tap (State.putPot_worked hw b p) hm).trans ?_
  rw [State.putPot_set, State.pot_putPot, if_pos hlist, hfilter]
  rfl

/-- CUT-OUT where no effect is open (R19). -/
theorem State.putPot_cutOut_of_still {ae : AeState} (hm : m = 5) (hae : x.ae = ae) (hstill : ae = .quiet ∨ ae = .suspect) :
    (b.putPot p x).takeMarker p m = { b with psu := { b.psu with
      pots := b.psu.pots.set p { (if ae = .quiet then x else x.quieted) with
        sup := .bypassing, order := none, inhibitUntil := none, dwell := 0, parked := none }
      sendList := b.psu.sendList.filter fun e => e.1 != p } } := by
  subst hae
  have hstill' : ((b.putPot p x).pot p).ae = .quiet ∨ ((b.putPot p x).pot p).ae = .suspect := by rw [State.pot_putPot]; exact hstill
  refine (State.takeMarker_cutOut (State.putPot_worked hw b p) hm).trans ((State.cutOut_of_still hstill').trans ?_)
  rw [State.putPot_set, State.pot_putPot]
  rfl

/-- CUT-OUT with an effect open (R19, R57). -/
theorem State.putPot_cutOut_of_effect {ae : AeState} {fx : Effect} {l : Option Nat} (hm : m = 5) (hae : x.ae = ae) (hnq : ae ≠ .quiet)
    (hns : ae ≠ .suspect) (hfx : x.fx = fx) (hlog : x.logIndex = l) (hs : b.Settled) : ∃ v, (b.putPot p x).takeMarker p m = v
      ∧ v.pot p = { x.quieted with
        sup := .bypassing, order := none, inhibitUntil := none, dwell := 0, parked := none, logIndex := none
        fx := { x.quieted.fx with
          duration := if ae.counted then fx.duration + (b.time - fx.spanStart) else fx.duration
          energyRemainder := 0, persistent := false } }
      ∧ (∀ p', p' ≠ p → v.pot p' = b.pot p')
      ∧ v.aeu = { b.aeu with
        count := if ae.counted then b.aeu.count - 1 else b.aeu.count
        log := b.aeu.amended l fun r => { r with closed := true, duration := min (v.pot p).fx.duration 4294967295, endCause := some .bypassed } }
      ∧ b.eventRaised v .aeEnd p.val (min ((v.pot p).fx.duration / 1000) 65535) 4
      ∧ v.line = { b.line with aeHold := if ae.counted then decide (b.line.ae.holdLimit ≤ b.aeu.count - 1) else b.line.aeHold }
      ∧ v.smap = b.smap ∧ v.gau = b.gau ∧ v.clu = b.clu ∧ v.egu = b.egu ∧ v.tru = b.tru := by
  subst hae hfx hlog
  have hput : (b.putPot p x).Settled := hs.of_offers rfl fun src => by cases src <;> rfl
  have heffect : x.ae.inEffect = true := by
    cases hq : x.ae with
    | quiet => exact absurd hq hnq
    | suspect => exact absurd hq hns
    | active | quenching | clearing => rfl
  have hclosed : (b.putPot p x).closedPot x = { x.quieted with
      logIndex := none
      fx := { x.quieted.fx with duration := (b.putPot p x).durationNow x, energyRemainder := 0, persistent := false } } := by
    unfold State.closedPot
    rw [if_neg hnq, if_pos heffect]
    rfl
  have hduration : (b.putPot p x).durationNow x = if x.ae.counted then x.fx.duration + (b.time - x.fx.spanStart) else x.fx.duration := by
    unfold State.durationNow
    split <;> rfl
  rw [hduration] at hclosed
  have hmark := (State.takeMarker_cutOut (State.putPot_worked hw b p) hm).trans (State.cutOut_of_settled hput p)
  rw [State.putPot_set, State.pot_putPot, hclosed] at hmark
  obtain ⟨v, hv, hmark⟩ : ∃ v, v = _ ∧ (b.putPot p x).takeMarker p m = v := ⟨_, rfl, hmark⟩
  have hvpot := State.pot_of_pots (s := v) (p := p) (congrArg (fun u : State => u.psu.pots) hv)
  refine ⟨v, hmark, hvpot, fun p' hp' => State.pot_of_pots_ne (congrArg (fun u : State => u.psu.pots) hv) hp', ?_, ?_, ?_, ?_⟩
  · rw [hvpot, hv]
    show (b.putPot p x).closedAeu ((b.putPot p x).pot p) .bypassed = _
    unfold State.closedAeu
    rw [State.pot_putPot, if_pos heffect, hduration]
    rfl
  · have hraised : (b.putPot p x).endRaised p .bypassed
        = (b.putPot p x).raise .aeEnd p.val (min ((b.putPot p x).durationNow x / 1000) 65535) 4 := by
      unfold State.endRaised
      rw [State.pot_putPot, if_pos heffect]
      rfl
    rw [hvpot, State.eventRaised, hv]
    show ((b.putPot p x).endRaised p .bypassed).meu = _ ∧ ((b.putPot p x).endRaised p .bypassed).port = _
    rw [hraised, hduration, State.raise_beside hs hput rfl]
    exact ⟨rfl, rfl⟩
  · rw [hv]
    show { b.line with aeHold := (b.putPot p x).closedHold ((b.putPot p x).pot p) } = _
    unfold State.closedHold
    rw [State.pot_putPot]
    rfl
  · rw [hv]
    exact ⟨rfl, rfl, rfl, rfl, rfl⟩

end

theorem State.putPot_cutIn (hcut : x.sup.worked = false) {m : Byte} {sup : Supervision} (hx : x.sup = sup) (hm : m = 6)
    (hsup : sup = .bypassing ∨ sup = .bypassed) :
    (b.putPot p x).takeMarker p m = { b with psu.pots := b.psu.pots.set p x.enterStarting } := by
  subst hx
  have hcut' : ((b.putPot p x).pot p).sup.worked = false := by rw [State.pot_putPot, hcut]
  have hin : m = 6 ∧ (((b.putPot p x).pot p).sup = .bypassing ∨ ((b.putPot p x).pot p).sup = .bypassed) :=
    ⟨hm, by rw [State.pot_putPot]; exact hsup⟩
  refine (State.takeMarker_of_cut hcut' (by rw [hm]; decide)).trans ((if_pos hin).trans ((State.modPot_eq _ p _).trans ?_))
  rw [State.putPot_set, State.pot_putPot]
  rfl

theorem State.putPot_cut_ignored (hcut : x.sup.worked = false) {m : Byte} {n : Nat} (h0 : m ≠ 0) (h6 : m ≠ 6) (hn : x.ignoredMarkers = n) :
    (b.putPot p x).takeMarker p m = { b with psu.pots := b.psu.pots.set p { x with ignoredMarkers := min (n + 1) 65535 } } := by
  have hcut' : ((b.putPot p x).pot p).sup.worked = false := by rw [State.pot_putPot, hcut]
  exact (State.takeMarker_of_cut hcut' h0).trans ((if_neg fun hc => h6 hc.1).trans (State.putPot_ignored hn))

end

/-- Settles O27. -/
theorem readingsOfPotsCutOut : Obligations.ReadingsOfPotsCutOut := by
  refine ⟨?_, ?_, fun s p r hr => s.workReading_of_no_tap p hr⟩
  · intro h time slots extra k p s ht hx hr u vp q read
    obtain ⟨port, hu, -, hunconfigured, hpresent⟩ := exec_reading (time := time) (extra := extra) ht hx hr (by decide)
    have hu : u = { s with port := port } := hu
    clear_value u
    subst hu
    have hfound : q.sup ≠ .lost → q.found h.src k = { s.pot p with orderAddress := some (h.src, k.val) } := fun hl => Pot.found_of_not_lost hl _ _
    generalize hw : ({ s with port := port, psu.pots := s.psu.pots.set p ((s.pot p).found h.src k) } : State) = w at hpresent
    have hpot : w.pot p = q.found h.src k := by subst hw; exact Vector.getElem_set_self ..
    simp only [State.takeMarker_zero] at hpresent
    refine ⟨fun hsup => hunconfigured hsup, fun hsup hlow => ?_, fun hsup hhigh => ?_, fun v hsup hv hnear => ?_, fun v hsup hv hfar => ?_⟩
    · have hlost : q.sup ≠ .lost := by rw [hsup]; nofun
      rw [hpresent (by rw [hsup]; nofun), State.workReading_of_bypassing (by rw [hpot, hfound hlost]; exact hsup), if_pos hlow,
        State.modPot_modPot, State.modPot_eq, hpot, hfound hlost]
      subst hw
      simp only [Vector.set_set]
      rfl
    · have hlost : q.sup ≠ .lost := by rw [hsup]; nofun
      rw [hpresent (by rw [hsup]; nofun), State.workReading_of_bypassing (by rw [hpot, hfound hlost]; exact hsup), if_neg (Nat.not_lt.mpr hhigh),
        State.modPot_eq, hpot, hfound hlost]
      subst hw
      simp only [Vector.set_set]
      rfl
    · have hlost : q.sup ≠ .lost := by rw [hsup]; nofun
      rw [hpresent (by rw [hsup]; nofun), State.workReading_of_bypassed (v := v) (by rw [hpot, hfound hlost]; exact hsup)
        (by rw [hpot, hfound hlost]; exact hv), if_neg (by rw [distance_eq]; exact Nat.not_lt.mpr hnear), State.modPot_eq, hpot, hfound hlost]
      subst hw
      simp only [Vector.set_set]
      rfl
    · have hlost : q.sup ≠ .lost := by rw [hsup]; nofun
      rw [hpresent (by rw [hsup]; nofun), State.workReading_of_bypassed (v := v) (by rw [hpot, hfound hlost]; exact hsup)
        (by rw [hpot, hfound hlost]; exact hv), if_pos (by rw [distance_eq]; exact hfar), State.modPot_eq w, hpot, hfound hlost]
      subst hw
      simp only [Vector.set_set]
      rfl
  · intro h time slots extra k p m s ht hx hr hm c u vp q r starting x reads puts ignored claimed timersOff cut
    obtain ⟨port, hu, husettled, hunconfigured, hpresent⟩ := exec_reading (time := time) (extra := extra) ht hx hr hm
    have hu : u = { s with port := port } := hu
    clear_value u
    subst hu
    have hfound : x = q.found h.src k := rfl
    obtain ⟨hae, horder, hfx, hlog, hignored⟩ := q.found_rest h.src k
    rw [← hfound] at hae horder hfx hlog hignored
    have hreads : ∀ v, q.sup ≠ .unconfigured → State.takeMarker (State.putPot { s with port := port } p x) p m = v → reads v := by
      rintro v hno rfl
      exact hpresent hno
    have hbase : s.Settled → State.Settled { s with port := port } := husettled
    refine ⟨hunconfigured, fun hno hm0 => hreads _ hno ?_, fun hsup => ?_, fun hsup => ?_, fun hm4 hsup hc => ?_⟩
    · rw [hm0, State.takeMarker_zero]
      rfl
    · have hno : q.sup ≠ .unconfigured := by rcases hsup with h | h | h <;> rw [h] <;> nofun
      have hw : x.sup.worked = true := by rw [hfound]; exact Pot.found_worked hsup _ _
      refine ⟨fun hm1 hna hnq => ?_, fun hm1 ha => ?_, fun hm1 hq => ?_, fun hm23 => ?_, fun hm4 hno4 => ?_, fun o hm4 ho hk => ?_,
        fun hm5 hstill => ?_, fun hm5 hnq hns hs => ?_, fun hm6 => ?_⟩
      · exact hreads _ hno (State.putPot_feed_ignored hw hm1 (hae ▸ hna) (hae ▸ hnq) hignored)
      · exact hreads _ hno (State.putPot_feed_active hw hm1 (hae.trans ha) hfx hlog)
      · exact hreads _ hno (State.putPot_feed_quenching hw hm1 (hae.trans hq) hlog)
      · exact hreads _ hno (State.putPot_inhibit hw hm23)
      · exact hreads _ hno (State.putPot_tap hw hm4 horder hno4)
      · exact hreads _ hno (State.putPot_tap_advice hw hm4 horder ho hk)
      · exact hreads _ hno (State.putPot_cutOut_of_still hw hm5 hae hstill)
      · obtain ⟨v, hv, hown, hothers, haeu, hraised, hline, hblocks⟩ :=
          State.putPot_cutOut_of_effect (p := p) hw hm5 hae hnq hns hfx hlog (hbase hs)
        exact ⟨v, hreads v hno hv, hown, hothers, haeu, hraised, hline, hblocks⟩
      · exact hreads _ hno ((State.takeMarker_other (State.putPot_worked hw _ p) hm6).trans (State.putPot_ignored hignored))
    · have hno : q.sup ≠ .unconfigured := by rcases hsup with h | h <;> rw [h] <;> nofun
      have hlost : q.sup ≠ .lost := by rcases hsup with h | h <;> rw [h] <;> nofun
      have hxsup : x.sup = q.sup := by rw [hfound, Pot.found_of_not_lost hlost]
      have hcut : x.sup.worked = false := by rw [hxsup]; rcases hsup with h | h <;> rw [h] <;> rfl
      exact ⟨fun hm6 => hreads _ hno (State.putPot_cutIn hcut hxsup hm6 hsup),
        fun hm0 hm6 => hreads _ hno (State.putPot_cut_ignored hcut hm0 hm6 hignored)⟩
    · have hno : q.sup ≠ .unconfigured := by rcases hsup with h | h <;> rw [h] <;> nofun
      have hlost : q.sup ≠ .lost := by rcases hsup with h | h <;> rw [h] <;> nofun
      have hx : x = { q with orderAddress := some (h.src, k.val) } := by rw [hfound, Pot.found_of_not_lost hlost]
      have hw : x.sup.worked = true := by rw [hx]; exact Supervision.worked_iff.mpr hsup
      have hmark := State.takeMarker_tap (State.putPot_worked hw { s with port := port } p) hm4
      rw [State.pot_putPot, State.putPot_set] at hmark
      obtain ⟨v, hv, hvreads⟩ : ∃ v, v = _ ∧ reads v := ⟨_, rfl, hreads _ hno hmark⟩
      have hvpot : v.pot p = _ := State.pot_of_pots (by rw [hv])
      have hvworked : (v.pot p).sup.worked = true := by rw [hvpot, hx]; exact Supervision.worked_iff.mpr hsup
      have hvline : v.line = s.line := by rw [hv]; rfl
      have hvcomputable : v.computable = true := by
        rw [hv]
        exact hc
      have hworks : v.workReading p r = v.workComputable p vp true := by
        rw [State.workReading_of_computable hvworked hvcomputable]
        show v.workComputable p vp (m == 4) = _
        rw [hm4]
        rfl
      refine ⟨_, hvreads, ?_⟩
      rw [State.pot_modPot, hworks]
      have hfilters := v.filters_workComputable p vp true
      obtain ⟨hlast, hrf, hnf, hnoisy, hband, hsup', hcount⟩ := (v.pot p).compute_of_tap v.line.il vp
      rw [Pot.countStarting_eq] at hfilters
      simp only [Pot.filters, Prod.mk.injEq] at hfilters
      obtain ⟨-, hzcount, hzrf, hznf, hzband, hznoisy, hzlast, -⟩ := hfilters
      have hres : (resistance q.cfg.vb s.line.il vp).1
          = if vp ≤ q.cfg.vb then 0 else min (((vp - q.cfg.vb) * 100000 + s.line.il / 2) / s.line.il) 250000 := by rw [resistance_eq]
      have hcfg : (v.pot p).cfg = q.cfg := by rw [hvpot, hx]
      have hvsup : (v.pot p).sup = q.sup := by rw [hvpot, hx]
      have hvcount : (v.pot p).startingCount = q.startingCount := by rw [hvpot, hx]
      have hvrf : (v.pot p).rf = q.rf := by rw [hvpot, hx]
      have hvnf : (v.pot p).nf = q.nf := by rw [hvpot, hx]
      rw [hcfg, hvline] at hlast hrf hnf hnoisy hband
      rw [hres] at hlast hrf hnf hband
      rw [hvline] at hcount hsup'
      rw [hvsup] at hsup'
      rw [hvline] at hzcount hzrf hznf hzband hznoisy hzlast
      refine ⟨hzlast.trans hlast, hzrf.trans hrf, ?_, ?_, hzband.trans hband, ?_⟩
      · refine (congrArg Int.ofNat (hznf.trans hnf)).trans ?_
        rw [hvsup, hvcount, hvrf, hvnf]
        by_cases hp : q.sup = .starting ∧ q.startingCount = 0
        · rw [if_pos hp, if_pos hp]
          rfl
        · rw [if_neg hp, if_neg hp, ← distance_eq]
          exact filterStep_eq ..
      · exact (hznoisy.trans hnoisy).trans (by rw [← hznf])
      · refine hzcount.trans ?_
        rw [hsup', hcount, hvcount]

end Sys2Proof.Machine
end

section
/-! SUPPORT. The group authority unit on a settled part (R95, R104): where an order frame or a notice goes, and what the decision of orders
leaves exactly as it was. -/

namespace Sys2Proof.Machine

/-! ### A change of GAU's send list on a settled part (R161) -/

section
variable {s t u : State} {g : Fin 8} {f : Frame}

/-- A settled part that is active, with a place free, holds no frame of GAU back. -/
theorem State.Settled.gauEmpty (hs : s.Settled) (hactive : s.active = true) (hroom : s.port.insert.length < 32) :
    s.gau.sendList = [] := by
  by_contra hne
  have hmay : s.mayEnter .gau = true := (s.mayEnter_iff .gau).mpr ⟨hroom, by simp [State.offers, hactive, hne], nofun⟩
  exact absurd hmay (by simp [s.settled_iff.mp hs .gau])

/-- Without a place, or in FORWARD-ONLY, no frame of GAU enters. -/
theorem State.settle_gau_waits (hs : s.Settled) (h : s.active = false ∨ 32 ≤ s.port.insert.length) (u : Gau) :
    State.settle { s with gau := u } = { s with gau := u } := by
  refine State.settle_of_settled ((State.settled_iff _).mpr fun x => ?_)
  have hx := s.settled_iff.mp hs x
  rcases h with h | h
  · cases x with
    | gau =>
      have hno : State.active { s with gau := u } = false := h
      simp [State.mayEnter, State.offers, hno]
    | _ => exact hx
  · have hroom : ¬s.port.insert.length < 32 := Nat.not_lt.mpr h
    simp [State.mayEnter, Config.insertPlaces, hroom]

/-- With a place, a frame that is alone in the list enters. -/
theorem State.settle_gau_enters (hs : s.Settled) (hactive : s.active = true) (hroom : s.port.insert.length < 32) {u : Gau} {i : GauItem}
    (hu : u.sendList = [i]) : State.settle { s with gau := u } = State.round { s with gau := u } .gau := by
  have hno := s.settled_iff.mp hs
  refine State.settle_of_only ((State.mayEnter_iff _ _).mpr ⟨hroom, (Bool.and_eq_true _ _).mpr ⟨hactive, ?_⟩, nofun⟩) (fun x hx => ?_) ?_
    fun x hx => ?_
  · simp [hu]
  · have hx' := hno x
    cases x with
    | gau => exact absurd rfl hx
    | _ => exact hx'
  · obtain ⟨tag, f⟩ := i
    cases tag <;> simp [State.enterFrom, hu, State.offers, State.modGroup]
  · obtain ⟨tag, f⟩ := i
    cases tag <;> simp only [State.enterFrom, hu] <;> cases x <;> first | exact absurd rfl hx | rfl

/-! ### What the work on some groups leaves to the others -/

/-- From `s` to `t` only GAU and the ring port change: the part stays settled, the frames in the insert queue stay there, and so do in the send
list the answers and the order frames of the groups of `K`, whose records stand. -/
structure State.Keeps (K : Fin 8 → Prop) (s t : State) : Prop where
  settled : t.Settled
  rest : t = { s with port := t.port, gau := t.gau }
  groups : ∀ k, K k → t.group k = s.group k
  insert : ∀ f ∈ s.port.insert, f ∈ t.port.insert
  items : ∀ i ∈ s.gau.sendList, (i.tag = .answer ∨ ∃ k, K k ∧ i.tag = .order k) → i ∈ t.gau.sendList

variable {K : Fin 8 → Prop}

theorem State.Keeps.refl (hs : s.Settled) : s.Keeps K s := ⟨hs, rfl, fun _ _ => rfl, fun _ h => h, fun _ h _ => h⟩

theorem State.Keeps.trans (h : s.Keeps K t) (h' : t.Keeps K u) : s.Keeps K u where
  settled := h'.settled
  rest := by
    rw [h'.rest, h.rest]
  groups k hk := (h'.groups k hk).trans (h.groups k hk)
  insert f hf := h'.insert f (h.insert f hf)
  items i hi hk := h'.items i (h.items i hi hk) hk

theorem State.Keeps.active (h : s.Keeps K t) : t.active = s.active := by
  rw [h.rest]
  rfl

theorem State.Keeps.mode (h : s.Keeps K t) : t.meu = s.meu := by rw [h.rest]

theorem State.Keeps.mono {L : Fin 8 → Prop} (h : s.Keeps K t) (hL : ∀ k, L k → K k) : s.Keeps L t where
  settled := h.settled
  rest := h.rest
  groups _ hk := h.groups _ (hL _ hk)
  insert := h.insert
  items i hi hk := h.items i hi (hk.imp_right fun ⟨k, hk, ht⟩ => ⟨k, hL k hk, ht⟩)

/-- A frame placed for a group of `K` stays placed. -/
theorem State.Keeps.placed (h : s.Keeps K t) (hg : K g) {unsent : Bool} (hf : s.groupOrderPlaced g f unsent) : t.groupOrderPlaced g f unsent := by
  unfold State.groupOrderPlaced at hf ⊢
  split at hf
  · next hdest => rwa [if_pos hdest]
  · next hdest =>
    rw [if_neg hdest]
    exact hf.imp (And.imp_right (h.insert f)) (And.imp_right fun hi => h.items _ hi (.inr ⟨g, hg, rfl⟩))

/-- A change of the groups, their list standing. -/
theorem State.keeps_gau (hs : s.Settled) {u : Gau} (hlist : u.sendList = s.gau.sendList) (hgroups : ∀ k : Fin 8, K k → u.groups[k] = s.gau.groups[k]) :
    s.Keeps K { s with gau := u } where
  settled := hs.of_offers rfl fun src => by
    cases src with
    | gau => exact congrArg (fun l : List GauItem => s.active && !l.isEmpty) hlist
    | _ => rfl
  rest := rfl
  groups := hgroups
  insert _ h := h
  items _ h _ := hlist ▸ h

theorem State.keeps_modGroup (hs : s.Settled) (hg : ¬K g) (f : Group → Group) : s.Keeps K (s.modGroup g f) :=
  State.keeps_gau hs rfl fun k hk => State.group_modGroup_of_ne _ _ fun h => hg (h ▸ hk)

theorem State.keeps_allocate (hs : s.Settled) (hK : ∀ k, K k → (s.group k).available = false) : s.Keeps K s.allocate := by
  have h := State.keeps_gau (K := K) hs (u := { s.gau with groups := s.allocate.gau.groups }) rfl fun k hk =>
    State.group_allocate_of_unavailable (hK k hk)
  rwa [← State.allocate_rest] at h

/-! ### An order frame and a notice -/

/-- Where the frame of a group order goes on a settled part (R95, R161). -/
theorem State.sendGroupOrder_of_settled (hs : s.Settled) (hactive : s.active = true) (g : Fin 8) (f : Frame) :
    ∃ l, s.sendGroupOrder g f = { s with
        gau := { s.gau with
          groups := if s.waits f then s.gau.groups else s.gau.groups.set g ((s.group g).clearUnsent f.seq), sendList := l }
        port := s.portWith .gau f }
      ∧ (s.waits f = true → f.dest ≠ Config.broadcast → (⟨.order g, f⟩ : GauItem) ∈ l)
      ∧ ∀ i ∈ s.gau.sendList, i.isOrderOf g = false → i ∈ l := by
  unfold State.sendGroupOrder State.portWith
  dsimp only
  by_cases hf : sendable f = true
  · rw [if_pos hf]
    by_cases hroom : s.port.insert.length < 32
    · have hwaits : s.waits f = false := by simp [State.waits, hf, hroom]
      have hempty := hs.gauEmpty hactive hroom
      refine ⟨[], ?_, by simp [hwaits], by simp [hempty]⟩
      rw [hempty, hwaits]
      exact State.settle_gau_enters hs hactive hroom (i := ⟨.order g, f⟩) rfl
    · have hwaits : s.waits f = true := by simp [State.waits, Nat.not_lt.mp hroom]
      rw [hwaits, State.settle_gau_waits hs (.inr (Nat.not_lt.mp hroom))]
      refine ⟨_, rfl, fun _ _ => ?_, fun i hi hg => ?_⟩
      · split
        · next hany =>
          obtain ⟨i, hi, hg⟩ := List.any_eq_true.mp hany
          exact List.mem_map.mpr ⟨i, hi, if_pos hg⟩
        · simp
      · split
        · exact List.mem_map.mpr ⟨i, hi, by simp [hg]⟩
        · exact List.mem_append_left _ hi
  · have hwaits : s.waits f = true := by simp [State.waits, hf]
    have hdest : ¬f.dest ≠ Config.broadcast := fun h => hf ((sendable_iff f).mpr h)
    rw [if_neg hf, hwaits]
    exact ⟨_, rfl, fun _ h => absurd h hdest, fun i hi hg => List.mem_filter.mpr ⟨hi, by simp [hg]⟩⟩

/-- The frame of a group order on a settled part, and what it leaves to the other groups. -/
theorem State.keeps_sendGroupOrder (hs : s.Settled) (hactive : s.active = true) (hg : ¬K g) (f : Frame) : s.Keeps K (s.sendGroupOrder g f) := by
  have hsettled : (s.sendGroupOrder g f).Settled := by
    unfold State.sendGroupOrder
    dsimp only
    split
    · exact State.settled_settle _
    · refine State.settled_of_insert hs rfl fun src h => ?_
      cases src with
      | gau =>
        simp only [State.offers, Bool.and_eq_true, Bool.not_eq_true', List.isEmpty_eq_false_iff] at h ⊢
        exact ⟨h.1, fun hnil => h.2 (by simp [State.dropGroupFrames, hnil])⟩
      | _ => exact h
  obtain ⟨l, heq, -, hitems⟩ := State.sendGroupOrder_of_settled hs hactive g f
  rw [heq] at hsettled ⊢
  refine ⟨hsettled, rfl, fun k hk => ?_, fun x hx => ?_, fun i hi hk => hitems i hi ?_⟩
  · have hne : g.val ≠ k.val := fun h => hg (Fin.ext h ▸ hk)
    unfold State.group
    dsimp only
    split
    · rfl
    · simp [Vector.getElem_set_ne, hne]
  · rw [(s.portWith_fields .gau f).2.2]
    exact List.mem_append_left _ hx
  · rcases hk with hk | ⟨k, hk, ht⟩
    · simp [GauItem.isOrderOf, hk]
    · simp only [GauItem.isOrderOf, ht, beq_eq_false_iff_ne, ne_eq, GauTag.order.injEq]
      exact fun h => hg (h ▸ hk)

/-- Making room gives up a notice at most (R95). -/
theorem Gau.mem_makeRoom {u : Gau} {i : GauItem} (hi : i ∈ u.sendList) (hn : i.tag ≠ .notice) : i ∈ u.makeRoom.sendList := by
  unfold Gau.makeRoom
  split
  · exact hi
  · exact (List.mem_eraseP_of_neg (by simpa using hn)).mpr hi

theorem Gau.makeRoom_of_empty {u : Gau} (h : u.sendList = []) : u.makeRoom = u := by simp [Gau.makeRoom, Gau.notices, h, Config.noticePlaces]

theorem Gau.makeRoom_seq (u : Gau) : u.makeRoom.seq = u.seq := by
  unfold Gau.makeRoom
  split <;> rfl

/-- A notice on a settled part leaves every group (R104). -/
theorem State.keeps_sendNotice (hs : s.Settled) (f : Frame) :
    s.Keeps K (s.sendNotice f) ∧ (s.sendNotice f).gau.groups = s.gau.groups ∧ (s.sendNotice f).gau.seq = s.gau.seq := by
  unfold State.sendNotice
  split
  · exact ⟨.refl hs, rfl, rfl⟩
  · split
    · exact ⟨State.keeps_gau hs rfl fun _ _ => rfl, rfl, rfl⟩
    · have hgroups := s.gau.makeRoom_groups
      have hseq := s.gau.makeRoom_seq
      by_cases hwait : s.active = false ∨ 32 ≤ s.port.insert.length
      · have hsettled := State.settled_settle { s with gau := { s.gau.makeRoom with
          sendList := s.gau.makeRoom.sendList ++ [{ tag := .notice, frame := f }] } }
        dsimp only
        rw [State.settle_gau_waits hs hwait] at hsettled ⊢
        refine ⟨⟨hsettled, rfl, fun k _ => congrArg (fun v : Vector Group 8 => v[k]) hgroups, fun _ h => h, fun i hi hk => ?_⟩, hgroups, hseq⟩
        refine List.mem_append_left _ (Gau.mem_makeRoom hi ?_)
        rcases hk with hk | ⟨k, -, hk⟩ <;> rw [hk] <;> nofun
      · rw [not_or, Bool.not_eq_false, Nat.not_le] at hwait
        obtain ⟨hactive, hroom⟩ := hwait
        have hempty := hs.gauEmpty hactive hroom
        have hsettled := State.settled_settle { s with gau := { s.gau.makeRoom with
          sendList := s.gau.makeRoom.sendList ++ [{ tag := .notice, frame := f }] } }
        dsimp only
        rw [Gau.makeRoom_of_empty hempty, hempty] at hsettled ⊢
        rw [State.settle_gau_enters hs hactive hroom (i := ⟨.notice, f⟩) rfl] at hsettled ⊢
        exact ⟨⟨hsettled, rfl, fun _ _ => rfl, fun _ h => List.mem_append_left _ h, fun i hi => by simp [hempty] at hi⟩, rfl, rfl⟩

theorem State.keeps_notify (hs : s.Settled) (g : Fin 8) :
    s.Keeps K (s.notify g) ∧ (s.notify g).gau.groups = s.gau.groups ∧ (s.notify g).gau.seq = s.gau.seq := by
  unfold State.notify
  dsimp only
  split
  · exact ⟨.refl hs, rfl, rfl⟩
  · exact State.keeps_sendNotice hs _

/-! ### An order decided (R94, R110) -/

/-- The record of a group once an order is decided, with the unsent flag of its frame: pending under EXTERNAL, confirmed at once under
INTERNAL. -/
def Group.decidedAs (q : Group) (setpoint : Nat) (withdraw : Bool) (seq : Byte) (now : Nat) (unsent : Bool) : Group :=
  match q.ackInForce with
  | .external =>
    { q.sending withdraw with
      order := some { setpoint := setpoint, seq := seq, sent := now, withdraw := withdraw, unsent := unsent }
      authority := q.authority.toPending }
  | .internal => { q.sending withdraw with confirmed := setpoint }

theorem State.groupOrderPlaced_of_port {v : State} (hport : t.port = v.portWith .gau f)
    (hlist : v.waits f = true → f.dest ≠ Config.broadcast → (⟨.order g, f⟩ : GauItem) ∈ t.gau.sendList) : t.groupOrderPlaced g f (v.waits f) := by
  unfold State.groupOrderPlaced
  split
  · next hdest => simp [State.waits, sendable, hdest]
  · next hdest =>
    by_cases hwaits : v.waits f = true
    · exact .inr ⟨hwaits, hlist hwaits hdest⟩
    · refine .inl ⟨Bool.not_eq_true _ ▸ hwaits, ?_⟩
      rw [hport, State.portWith, if_neg hwaits]
      simp [Port.enter]

/-- The order frame of a group of `v`, which stands at the group's record `q`, and the record with its order no longer unsent. -/
theorem State.sent_of_settled {v : State} (hv : v.Settled) (hactive : v.active = true) (g : Fin 8) (f : Frame) :
    (v.sendGroupOrder g f).groupOrderPlaced g f (v.waits f)
      ∧ (v.sendGroupOrder g f).group g = (if v.waits f then v.group g else (v.group g).clearUnsent f.seq)
      ∧ (v.sendGroupOrder g f).gau.seq = v.gau.seq := by
  obtain ⟨l, heq, hmem, -⟩ := State.sendGroupOrder_of_settled hv hactive g f
  rw [heq]
  refine ⟨State.groupOrderPlaced_of_port rfl hmem, ?_, rfl⟩
  unfold State.group
  dsimp only
  split <;> simp

theorem Group.clearUnsent_of_none {q : Group} (h : q.order = none) (seq : Byte) : q.clearUnsent seq = q := by
  have heq : ∀ o, q.order = o → { q with order := o } = q := by
    rintro _ rfl
    rfl
  unfold Group.clearUnsent
  rw [h]
  exact heq none h

/-- An order decided for a group leaves the others. -/
theorem State.keeps_decideOrder (hs : s.Settled) (hactive : s.active = true) (hg : ¬K g) (n : Nat) (w : Bool) : s.Keeps K (s.decideOrder g n w) := by
  have hnumbered : s.Keeps K { s with gau.seq := s.gau.seq + 1 } := State.keeps_gau hs rfl fun _ _ => rfl
  have hsent : ∀ {u : State}, s.Keeps K u → s.Keeps K (u.sendGroupOrder g (orderFrame s.address (s.group g).cfg.node s.gau.seq n w)) :=
    fun hu => hu.trans (State.keeps_sendGroupOrder hu.settled (hu.active.trans hactive) hg _)
  have hchanged : ∀ {u : State} (f : Group → Group), s.Keeps K u → s.Keeps K (u.modGroup g f) :=
    fun f hu => hu.trans (State.keeps_modGroup hu.settled hg f)
  unfold State.decideOrder
  dsimp only
  split
  · exact hsent (hchanged _ (hchanged _ hnumbered))
  · have hconfirmed := hchanged (fun q => { q with confirmed := n }) (hchanged (fun q =>
      { q with stepOpen := q.stepOpen && w, statusSince := false, counters.ordersSent := bump32 q.counters.ordersSent }) hnumbered)
    exact hsent (hconfirmed.trans (State.keeps_notify hconfirmed.settled g).1)

/-- An order decided on a settled part. -/
theorem State.decideOrder_of_settled (hs : s.Settled) (hactive : s.active = true) {g : Fin 8} (hnone : (s.group g).order = none)
    (n : Nat) (w : Bool) :
    ∃ unsent, (s.decideOrder g n w).gau.seq = s.gau.seq + 1
      ∧ (s.decideOrder g n w).group g = (s.group g).decidedAs n w s.gau.seq s.time unsent
      ∧ (s.decideOrder g n w).groupOrderPlaced g (orderFrame s.address (s.group g).cfg.node s.gau.seq n w) unsent := by
  unfold State.decideOrder Group.decidedAs
  dsimp only
  generalize hframe : orderFrame s.address (s.group g).cfg.node s.gau.seq n w = f
  have hseq : f.seq = s.gau.seq := hframe ▸ rfl
  have hnumbered : s.Keeps (· ≠ g) { s with gau.seq := s.gau.seq + 1 } := State.keeps_gau hs rfl fun _ _ => rfl
  cases (s.group g).ackInForce with
  | external =>
    dsimp only
    rw [State.modGroup_modGroup]
    generalize hv : State.modGroup { s with gau.seq := s.gau.seq + 1 } g _ = v
    have hkeeps : s.Keeps (· ≠ g) v := hv ▸ hnumbered.trans (State.keeps_modGroup hnumbered.settled (fun h => h rfl) _)
    obtain ⟨hplaced, hgroup, hcount⟩ := State.sent_of_settled hkeeps.settled (hkeeps.active.trans hactive) g f
    refine ⟨v.waits f, hcount.trans (hv ▸ rfl), hgroup.trans ?_, hplaced⟩
    have hpending : v.group g = _ := (congrArg (fun u : State => u.group g) hv.symm).trans (State.group_modGroup _ _ _)
    rw [hpending]
    cases v.waits f with
    | true => rfl
    | false =>
      rw [if_neg Bool.false_ne_true]
      simp only [Group.clearUnsent, hseq, Option.map_some, if_true]
      rfl
  | internal =>
    dsimp only
    rw [State.modGroup_modGroup]
    generalize hu : State.modGroup { s with gau.seq := s.gau.seq + 1 } g _ = u
    have hkeeps : s.Keeps (· ≠ g) u := hu ▸ hnumbered.trans (State.keeps_modGroup hnumbered.settled (fun h => h rfl) _)
    obtain ⟨hnotified, hgroups, hcountn⟩ := State.keeps_notify (K := (· ≠ g)) hkeeps.settled g
    have hboth := hkeeps.trans hnotified
    obtain ⟨hplaced, hgroup, hcount⟩ := State.sent_of_settled hboth.settled (hboth.active.trans hactive) g f
    refine ⟨_, (hcount.trans hcountn).trans (hu ▸ rfl), hgroup.trans ?_, hplaced⟩
    have hconfirmed : (u.notify g).group g = { (s.group g).sending w with confirmed := n } := by
      refine (congrArg (fun x : Vector Group 8 => x[g]) hgroups).trans ?_
      rw [← hu]
      exact State.group_modGroup _ _ _
    rw [hconfirmed, Group.clearUnsent_of_none (q := { (s.group g).sending w with confirmed := n }) hnone]
    exact ite_self _

/-! ### All orders that are due (R94, R110) -/

/-- What a group is due rests on its record and the part mode. -/
theorem State.Keeps.dues {k : Fin 8} (h : s.Keeps K t) (hk : K k) :
    t.orderDue (t.group k) = s.orderDue (s.group k) ∧ t.zeroOrderDue (t.group k) = s.zeroOrderDue (s.group k) := by
  rw [h.groups k hk]
  exact State.dues_congr (congrArg Meu.mode h.mode) rfl

/-- No order is due of the group. -/
def State.Idle (s : State) (k : Fin 8) : Prop := s.orderDue (s.group k) = false ∧ s.zeroOrderDue (s.group k) = false

theorem State.Keeps.idle {k : Fin 8} (h : s.Keeps K t) (hk : K k) : t.Idle k ↔ s.Idle k := by
  unfold State.Idle
  rw [(h.dues hk).1, (h.dues hk).2]

theorem State.decideFor_of_idle {k : Fin 8} (h : s.Idle k) : s.decideFor k = s := by
  simp [State.decideFor, h.1, h.2]

/-- An order is due only of a group without one, in SUPERVISING, as the law of the groups has it. -/
theorem State.active_of_due {k : Fin 8} (h : ¬s.Idle k) : s.active = true := by
  by_contra hno
  have hsup : s.supervising = false := by
    by_contra hsup
    exact hno (State.active_of_supervising ((State.supervising_iff s).mp (by simpa using hsup)))
  exact h ⟨by simp [State.orderDue, hsup], by simp [State.zeroOrderDue, hsup]⟩

/-- The order that a group is due leaves the others. -/
theorem State.keeps_decideFor (hs : s.Settled) {k : Fin 8} (hk : K k → s.Idle k) : s.Keeps K (s.decideFor k) := by
  by_cases hidle : s.Idle k
  · rw [State.decideFor_of_idle hidle]
    exact .refl hs
  · have hactive := State.active_of_due hidle
    unfold State.decideFor
    dsimp only
    split_ifs
    · exact State.keeps_decideOrder hs hactive (mt hk hidle) _ _
    · exact State.keeps_decideOrder hs hactive (mt hk hidle) _ _
    · exact .refl hs

theorem State.keeps_decideFold (l : List (Fin 8)) : ∀ {s : State}, s.Settled → (∀ k, K k → s.Idle k) → s.Keeps K (l.foldl State.decideFor s) := by
  induction l with
  | nil => exact fun hs _ => .refl hs
  | cons k l ih =>
    intro s hs hK
    have hfirst := State.keeps_decideFor hs (hK k)
    exact hfirst.trans (ih hfirst.settled fun j hj => (hfirst.idle hj).mpr (hK j hj))

/-- The orders that are due leave the groups that are due none. -/
theorem State.keeps_decideAll (hs : s.Settled) (hK : ∀ k, K k → s.Idle k) : s.Keeps K s.decideAll := State.keeps_decideFold _ hs hK

theorem State.keeps_regulate (hs : s.Settled) (hK : ∀ k, K k → s.Idle k ∧ (s.group k).available = false) : s.Keeps K s.regulate := by
  have hfirst := State.keeps_decideAll hs fun k hk => (hK k hk).1
  unfold State.regulate
  dsimp only
  split
  · exact hfirst
  · have hallocated := State.keeps_allocate (K := K) hfirst.settled fun k hk => by rw [hfirst.groups k hk]; exact (hK k hk).2
    have hboth := hfirst.trans hallocated
    exact hboth.trans (State.keeps_decideAll hboth.settled fun k hk => (hboth.idle hk).mpr (hK k hk).1)

theorem State.allocationKey_congr {s t : State} (hic : t.clu.ic = s.clu.ic) (h : ∀ k, (t.group k).loading = (s.group k).loading) :
    t.allocationKey = s.allocationKey := by
  unfold State.allocationKey
  rw [hic]
  exact congrArg (Prod.mk _) (List.map_congr_left fun k _ => h k)

/-- A group that has been ordered to zero is in withdrawal, outside the available set. -/
theorem State.Decides.unavailable {s : State} {q r : Group} (h : s.Decides q r) (hzero : s.zeroOrderDue q = true) : r.available = false := by
  unfold State.Decides at h
  rw [if_pos hzero] at h
  obtain ⟨seq, hr⟩ := h
  simp only [State.zeroOrderDue, Bool.and_eq_true, bne_iff_ne] at hzero
  obtain ⟨⟨⟨⟨-, hwithdrawal⟩, -⟩, -⟩, -⟩ := hzero
  refine (Prod.mk.inj (Group.loading_of_sentForm hr).1).1.trans ?_
  unfold Group.decided
  split <;> simp [Group.available, Group.sending, hwithdrawal]

/-- Where one group alone is due an order, that order is decided. -/
theorem State.decideAll_of_only (hs : s.Settled) (hothers : ∀ k, k ≠ g → s.Idle k) : s.decideAll = s.decideFor g := by
  have hstep := State.keeps_decideFor (K := (· ≠ g)) hs (k := g) fun h => absurd rfl h
  have hdone : (s.decideFor g).Idle g := (s.group_decideFor g).1.not_due (congrArg Meu.mode hstep.mode)
  have hfold : ∀ l : List (Fin 8), l.foldl State.decideFor (s.decideFor g) = s.decideFor g := by
    intro l
    induction l with
    | nil => rfl
    | cons k l ih =>
      have hidle : (s.decideFor g).Idle k := by
        by_cases hk : k = g
        · exact hk ▸ hdone
        · exact (hstep.idle hk).mpr (hothers k hk)
      rw [List.foldl_cons, State.decideFor_of_idle hidle, ih]
  have hbefore : ∀ l : List (Fin 8), g ∈ l → l.foldl State.decideFor s = s.decideFor g := by
    intro l
    induction l with
    | nil => exact fun h => absurd h (by simp)
    | cons k l ih =>
      intro hmem
      by_cases hk : k = g
      · rw [List.foldl_cons, hk]
        exact hfold l
      · rw [List.foldl_cons, State.decideFor_of_idle (hothers k hk)]
        exact ih ((List.mem_cons.mp hmem).resolve_left (Ne.symm hk))
  exact hbefore _ (List.mem_finRange g)

/-- The order of a step that one group alone is due: nothing of what the allocation reads changes. -/
theorem State.regulate_of_step (hs : s.Settled) (hothers : ∀ k, k ≠ g → s.Idle k) (hzero : s.zeroOrderDue (s.group g) = false)
    (hdue : s.orderDue (s.group g) = true) : s.regulate = s.decideOrder g (s.group g).wanted false := by
  have hfor : s.decideFor g = s.decideOrder g (s.group g).wanted false := by
    unfold State.decideFor
    dsimp only
    rw [hzero, hdue]
    rfl
  have hkey : s.decideAll.allocationKey = s.allocationKey := by
    have hic : s.decideAll.clu.ic = s.clu.ic := (ordered_decideAll s).kept.2.2.1
    have hloading : ∀ k, (s.decideAll.group k).loading = (s.group k).loading := fun k => by
      refine (s.group_decideAll k).loading ?_
      by_cases hk : k = g
      · exact hk ▸ hzero
      · exact (hothers k hk).2
    exact State.allocationKey_congr hic hloading
  unfold State.regulate
  dsimp only
  rw [if_pos hkey, State.decideAll_of_only hs hothers, hfor]

theorem State.keeps_decideFold_of_notMem (l : List (Fin 8)) (hg : g ∉ l) : ∀ {s : State}, s.Settled → s.Keeps (· = g) (l.foldl State.decideFor s) := by
  induction l with
  | nil => exact fun hs => .refl hs
  | cons k l ih =>
    intro s hs
    rw [List.mem_cons, not_or] at hg
    have hfirst := State.keeps_decideFor (K := (· = g)) hs (k := k) fun h => absurd h.symm hg.1
    exact hfirst.trans (ih hg.2 hfirst.settled)

/-- Among the orders that are decided, that of one group: the others leave it. -/
theorem State.decideAll_at (hs : s.Settled) (g : Fin 8) : ∃ u, s.Keeps (· = g) u ∧ (u.decideFor g).Keeps (· = g) s.decideAll := by
  obtain ⟨before, after, hl⟩ := List.append_of_mem (List.mem_finRange g)
  have hnodup := List.nodup_finRange 8
  rw [hl, List.nodup_append, List.nodup_cons] at hnodup
  obtain ⟨-, ⟨hafter, -⟩, hdisjoint⟩ := hnodup
  have hfirst := State.keeps_decideFold_of_notMem before (fun h => hdisjoint g h g (by simp) rfl) hs
  have hstep := State.keeps_decideFor (K := fun _ => False) hfirst.settled (k := g) nofun
  refine ⟨_, hfirst, ?_⟩
  unfold State.decideAll
  rw [hl, List.foldl_append, List.foldl_cons]
  exact State.keeps_decideFold_of_notMem after hafter hstep.settled

theorem State.Decides.available {q r : Group} (h : s.Decides q r) (hzero : s.zeroOrderDue q = false) : r.available = q.available :=
  (Prod.mk.inj (h.loading hzero)).1

/-- The same with the allocation run again, for a group outside the available set, or one that alone may be due a zero order: what the
allocation reads then changes only with it, and it is outside the available set from there on (R85, R110). -/
theorem State.regulate_at (hs : s.Settled)
    (hothers : (s.group g).available = false ∨ ∀ k, k ≠ g → s.zeroOrderDue (s.group k) = false) :
    ∃ u, s.Keeps (· = g) u ∧ (u.decideFor g).Keeps (· = g) s.regulate := by
  obtain ⟨u, hbefore, hafter⟩ := State.decideAll_at hs g
  refine ⟨u, hbefore, ?_⟩
  unfold State.regulate
  dsimp only
  split
  · exact hafter
  · next hkey =>
    have hdecides := s.group_decideAll g
    have hwithdrawn : (s.decideAll.group g).available = false := by
      by_cases hzero : s.zeroOrderDue (s.group g) = true
      · exact State.Decides.unavailable hdecides hzero
      · have hno := Bool.eq_false_iff.mpr hzero
        rcases hothers with hunavailable | hothers
        · exact (hdecides.available hno).trans hunavailable
        · refine absurd (State.allocationKey_congr (ordered_decideAll s).kept.2.2.1 fun k => (s.group_decideAll k).loading ?_) hkey
          by_cases hk : k = g
          · exact hk ▸ hno
          · exact hothers k hk
    have hidle : s.decideAll.Idle g := s.decideAll_not_due g
    have hallocated := State.keeps_allocate (K := (· = g)) hafter.settled fun k hk => hk ▸ hwithdrawn
    exact (hafter.trans hallocated).trans (State.keeps_decideAll hallocated.settled fun k hk => (hallocated.idle hk).mpr (hk ▸ hidle))

theorem State.regulate_of_idle (h : ∀ k, s.Idle k) : s.regulate = s := by
  have hall : ∀ l : List (Fin 8), l.foldl State.decideFor s = s := by
    intro l
    induction l with
    | nil => rfl
    | cons k l ih => rw [List.foldl_cons, State.decideFor_of_idle (h k), ih]
  have hdecide : s.decideAll = s := hall _
  unfold State.regulate
  dsimp only
  rw [hdecide, if_pos rfl]

/-! ### What is decided at once for one group -/

theorem distance_eq_natAbs (a b : Nat) : distance a b = ((a : Int) - b).natAbs := by
  unfold distance
  omega

theorem Authority.settled_iff (a : Authority) : a.settled = true ↔ a = .held ∨ a = .heldWatched := by cases a <;> decide

theorem State.zeroOrderDue_iff (s : State) (q : Group) : s.zeroOrderDue q = true ↔
    q.authority ≠ .released ∧ q.order = none ∧ q.withdrawal ≠ .none ∧ 0 < q.confirmed ∧ s.meu.mode = .supervising := by
  simp only [State.zeroOrderDue, Bool.and_eq_true, bne_iff_ne, decide_eq_true_eq, Authority.isHeld_iff, State.supervising_iff, Option.isNone_iff_eq_none]
  tauto

theorem State.orderDue_iff (s : State) (q : Group) : s.orderDue q = true ↔
    (q.authority = .held ∨ q.authority = .heldWatched) ∧ q.stepOpen = true ∧ q.cfg.latch ≠ 0
      ∧ q.cfg.deadband ≤ ((q.wanted : Int) - q.confirmed).natAbs ∧ q.stale = .fresh ∧ q.withdrawal = .none
      ∧ (q.form = .full ∨ q.statusSince = true) ∧ s.meu.mode = .supervising := by
  have hform : q.basicRestricted = false ↔ q.form = .full ∨ q.statusSince = true := by
    unfold Group.basicRestricted
    cases q.form <;> simp
  simp only [State.orderDue, Bool.and_eq_true, Bool.not_eq_true', beq_iff_eq, decide_eq_true_eq, Authority.settled_iff, State.supervising_iff,
    hform, distance_eq_natAbs]
  tauto

theorem Group.ackInForce_external {q : Group} (hform : q.form = .full) (hack : q.cfg.ack = .external) : q.ackInForce = .external := by
  simp [Group.ackInForce, hform, hack]

theorem Group.ackInForce_internal {q : Group} (h : q.form = .basic ∨ q.cfg.ack = .internal) : q.ackInForce = .internal := by
  unfold Group.ackInForce
  rcases h with h | h <;> cases hf : q.form <;> simp_all

/-- What is decided for one group, which is outside the available set or alone may be due a zero order (R94, R110). -/
theorem State.orderWorked_regulate {v : State} {x : Group} (hv : v.Settled) (hbase : v = { s with port := v.port, gau := v.gau })
    (hothers : (v.group g).available = false ∨ ∀ k, k ≠ g → v.zeroOrderDue (v.group k) = false) (hx : v.group g = x) (hnone : x.order = none) :
    s.orderWorked g x v.regulate := by
  obtain ⟨u, hbefore, hafter⟩ := State.regulate_at hv hothers
  have hxu : u.group g = x := (hbefore.groups g rfl).trans hx
  have hubase : u = { s with port := u.port, gau := u.gau } := by
    conv_lhs => rw [hbefore.rest, hbase]
  subst hxu
  have hzero := u.zeroOrderDue_iff (u.group g)
  have hstep := u.orderDue_iff (u.group g)
  have hmode : u.meu.mode = s.meu.mode := by rw [hubase]
  have haddress : u.address = s.address := by rw [hubase]
  have htime : u.time = s.time := by rw [hubase]
  rw [hmode] at hzero hstep
  have hdecides : ∀ n w, ¬u.Idle g → u.decideFor g = u.decideOrder g n w →
      ((u.group g).form = .full → (u.group g).cfg.ack = .external → ∃ o : GroupOrder, o.setpoint = n ∧ o.withdraw = w ∧ o.sent = s.time
        ∧ v.regulate.group g = { (u.group g).sending w with order := some o, authority := (u.group g).authority.toPending }
        ∧ v.regulate.groupOrderPlaced g (orderFrame s.address (u.group g).cfg.node o.seq n w) o.unsent)
      ∧ ((u.group g).form = .basic ∨ (u.group g).cfg.ack = .internal →
        v.regulate.group g = { (u.group g).sending w with confirmed := n }
        ∧ ∃ seq unsent, v.regulate.groupOrderPlaced g (orderFrame s.address (u.group g).cfg.node seq n w) unsent) := by
    intro n w hdue heq
    obtain ⟨unsent, -, hgroup, hplaced⟩ := State.decideOrder_of_settled hbefore.settled (State.active_of_due hdue) hnone n w
    rw [← heq] at hgroup hplaced
    have hplaced := hafter.placed rfl hplaced
    have hgroup := (hafter.groups g rfl).trans hgroup
    rw [htime] at hgroup
    rw [haddress] at hplaced
    unfold Group.decidedAs at hgroup
    refine ⟨fun hform hack => ?_, fun hform => ?_⟩
    · rw [Group.ackInForce_external hform hack] at hgroup
      exact ⟨_, rfl, rfl, rfl, hgroup, hplaced⟩
    · rw [Group.ackInForce_internal hform] at hgroup
      exact ⟨hgroup, _, unsent, hplaced⟩
  refine ⟨fun hnz hns => ?_, fun hz => ?_, fun hst => ?_⟩
  · have hidle : u.Idle g := ⟨Bool.eq_false_iff.mpr (mt hstep.mp hns), Bool.eq_false_iff.mpr (mt hzero.mp hnz)⟩
    rw [hafter.groups g rfl, State.decideFor_of_idle hidle]
  · have hdue := hzero.mpr hz
    exact hdecides 0 true (fun h => Bool.false_ne_true (h.2.symm.trans hdue)) (if_pos hdue)
  · have hdue := hstep.mpr hst
    have hnz : ¬u.zeroOrderDue (u.group g) = true := fun h => (hzero.mp h).2.2.1 hst.2.2.2.2.2.1
    exact hdecides (u.group g).wanted false (fun h => Bool.false_ne_true (h.1.symm.trans hdue)) ((if_neg hnz).trans (if_pos hdue))

end

end Sys2Proof.Machine
end

section
/-! PROOFS. The step timer (O45), and a trip of the line with LINE-RESTART (O39). -/

namespace Sys2Proof.Machine

section
variable {s t : State} {g : Fin 8} {f : Frame}

theorem State.hasSent_of_placed {unsent : Bool} (h : t.groupOrderPlaced g f unsent) : t.hasSent f := by
  intro hdest
  unfold State.groupOrderPlaced at h
  rw [if_neg hdest] at h
  exact h.imp And.right fun h => ⟨_, h.2, rfl⟩

theorem State.idle_of_regulated (h : s.Regulated) (k : Fin 8) : s.Idle k := ⟨(h k).1, (h k).2.1⟩

/-- A change of one group's record leaves the others of a regulated part idle. -/
theorem State.idle_modGroup (hs : s.Settled) (h : s.Regulated) (f : Group → Group) : ∀ k, k ≠ g → (s.modGroup g f).Idle k := fun _ hk =>
  ((State.keeps_modGroup (K := (· ≠ g)) hs (fun h => h rfl) f).idle hk).mpr (s.idle_of_regulated h _)

end

/-- Settles O45: the opened step makes its own group's order due, or none. -/
theorem stepTimerOpensTheStepAndDecidesOrders : Obligations.StepTimerOpensTheStepAndDecidesOrders := by
  intro g s hlow hs hregulated hlatch hcounter horder q due f external kept
  have hexec : exec (.stepTimer g) s = .next (s.modGroup g Group.openStep).regulate :=
    State.expire_of_due hlow (by simp [State.stepTimerDue, hlatch, hcounter]) _
  have hopened : s.Keeps (· ≠ g) (s.modGroup g Group.openStep) := State.keeps_modGroup hs (fun h => h rfl) _
  have hothers := State.idle_modGroup (g := g) hs hregulated Group.openStep
  have hzero : (s.modGroup g Group.openStep).zeroOrderDue ((s.modGroup g Group.openStep).group g) = false := by
    rw [State.group_modGroup]
    exact (hregulated g).2.1
  have hdue : (s.modGroup g Group.openStep).orderDue ((s.modGroup g Group.openStep).group g) = true ↔ due := by
    rw [State.orderDue_iff, State.group_modGroup]
    exact ⟨fun ⟨h1, _, _, h2⟩ => ⟨h1, h2⟩, fun ⟨h1, h2⟩ => ⟨h1, rfl, hlatch, h2⟩⟩
  have hordered : due → ∃ unsent, exec (.stepTimer g) s = .next ((s.modGroup g Group.openStep).decideOrder g q.wanted false)
      ∧ kept ((s.modGroup g Group.openStep).decideOrder g q.wanted false)
      ∧ ((s.modGroup g Group.openStep).decideOrder g q.wanted false).group g = q.openStep.decidedAs q.wanted false s.gau.seq s.time unsent
      ∧ ((s.modGroup g Group.openStep).decideOrder g q.wanted false).groupOrderPlaced g f unsent := by
    intro hd
    have hyes := hdue.mpr hd
    have hactive : (s.modGroup g Group.openStep).active = true := State.active_of_due fun h => Bool.false_ne_true (h.1.symm.trans hyes)
    have hnone : ((s.modGroup g Group.openStep).group g).order = none := by
      rw [State.group_modGroup]
      by_contra hne
      rcases horder (Option.isSome_iff_ne_none.mpr hne) with h | h <;> rcases hd.1 with h' | h' <;> exact absurd (h.symm.trans h') (by decide)
    obtain ⟨unsent, hseq, hgroup, hplaced⟩ := State.decideOrder_of_settled hopened.settled hactive hnone q.wanted false
    have hkeeps := hopened.trans (State.keeps_decideOrder hopened.settled hactive (fun h => h rfl) q.wanted false)
    rw [State.group_modGroup] at hgroup hplaced
    refine ⟨unsent, ?_, ⟨hseq, fun k hk => hkeeps.groups k hk, hkeeps.rest⟩, hgroup, hplaced⟩
    rw [hexec, State.regulate_of_step hopened.settled hothers hzero hyes, State.group_modGroup]
    rfl
  refine ⟨fun hno => ?_, fun hd hexternal => ?_, fun hd hinternal => ?_⟩
  · rw [hexec, State.regulate_of_idle fun k => ?_]
    · rfl
    · by_cases hk : k = g
      · rw [hk]
        exact ⟨Bool.eq_false_iff.mpr (mt hdue.mp hno), hzero⟩
      · exact hothers k hk
  · obtain ⟨unsent, hnext, hkept, hgroup, hplaced⟩ := hordered hd
    refine ⟨_, unsent, hnext, hkept, hgroup.trans ?_, hplaced⟩
    rw [Group.decidedAs, Group.ackInForce_external (q := q.openStep) hexternal.1 hexternal.2]
    rfl
  · obtain ⟨unsent, hnext, hkept, hgroup, hplaced⟩ := hordered hd
    have hack : q.form = .basic ∨ q.cfg.ack = .internal := by
      cases hform : q.form with
      | basic => exact .inl rfl
      | full =>
        cases ha : q.cfg.ack with
        | internal => exact .inr rfl
        | external => exact absurd ⟨hform, ha⟩ hinternal
    refine ⟨_, hnext, hkept, hgroup.trans ?_, State.hasSent_of_placed hplaced⟩
    rw [Group.decidedAs, Group.ackInForce_internal (q := q.openStep) hack]
    rfl

/-! ### A trip of the line (R69, R70) -/

section
variable {s t : State} {g : Fin 8}

theorem Group.decided_isHeld (q : Group) (n : Nat) (w : Bool) (seq : Byte) (now : Nat) :
    (q.decided n w seq now).authority.isHeld = q.authority.isHeld := by
  unfold Group.decided
  split
  · exact Authority.isHeld_toPending _
  · rfl

theorem State.Decides.isHeld {q r : Group} (h : s.Decides q r) : r.authority.isHeld = q.authority.isHeld := by
  have hcongr : ∀ {x : Group}, r.sentForm = x.sentForm → r.authority.isHeld = x.authority.isHeld := fun hx => by rw [Group.eq_of_sentForm hx]
  unfold State.Decides at h
  split at h
  · obtain ⟨seq, hr⟩ := h
    exact (hcongr hr).trans (q.decided_isHeld _ _ _ _)
  · split at h
    · obtain ⟨seq, hr⟩ := h
      exact (hcongr hr).trans (q.decided_isHeld _ _ _ _)
    · exact hcongr h

/-- Every group that is held is wanted at 0. -/
def State.AllZero (s : State) : Prop := ∀ g, (s.group g).authority.isHeld = true → (s.group g).wanted = 0

theorem State.AllZero.decideAll (h : s.AllZero) : s.decideAll.AllZero := fun g hg => by
  have hdecides := s.group_decideAll g
  rw [hdecides.wanted]
  exact h g (hdecides.isHeld ▸ hg)

theorem State.AllZero.allocate (h : s.AllZero) (hig : s.line.ig = 0) (hactive : s.active = true) : s.allocate.AllZero := fun g hg => by
  cases havailable : (s.group g).available with
  | false =>
    rw [State.group_allocate_of_unavailable havailable] at hg ⊢
    exact h g hg
  | true =>
    have hshared := State.shared_allocate hactive
    have hig' : s.allocate.line.ig = 0 := (congrArg Line.ig (ordered_allocate s).kept.2.1).trans hig
    have hmem : g ∈ s.allocate.availableSet := State.mem_availableSet.mpr (by rw [State.group_allocate]; exact havailable)
    have hsum := hshared.1 (List.ne_nil_of_mem hmem)
    simp only [State.toAllocate, hig', Nat.zero_sub, Nat.zero_min, List.sum_eq_zero_iff, List.mem_map, forall_exists_index, and_imp,
      forall_apply_eq_imp_iff₂] at hsum
    exact hsum g hmem

/-- With Ig at 0 the decision of orders leaves every held group wanted at 0. -/
theorem State.AllZero.regulate (h : s.AllZero) (hig : s.line.ig = 0) (hactive : s.active = true) : s.regulate.AllZero := by
  obtain ⟨hmode, hline, -⟩ := (ordered_decideAll s).kept
  unfold State.regulate
  dsimp only
  split
  · exact h.decideAll
  · exact (h.decideAll.allocate (by rw [hline]; exact hig) ((State.active_congr hmode).trans hactive)).decideAll

theorem State.regulate_isHeld (s : State) (g : Fin 8) : (s.regulate.group g).authority.isHeld = (s.group g).authority.isHeld := by
  unfold State.regulate
  dsimp only
  split
  · exact State.Decides.isHeld (s.group_decideAll g)
  · have hfirst := State.Decides.isHeld (s.group_decideAll g)
    have hallocated : (s.decideAll.allocate.group g).authority = (s.decideAll.group g).authority := by rw [State.group_allocate]
    exact (State.Decides.isHeld (State.group_decideAll _ g)).trans ((congrArg Authority.isHeld hallocated).trans hfirst)

/-- A RELEASED group is due no order and stands outside the available set. -/
theorem State.idle_of_released (h : (s.group g).authority = .released) : s.Idle g ∧ (s.group g).available = false := by
  simp [State.Idle, State.orderDue, State.zeroOrderDue, Group.available, h, Authority.settled, Authority.isHeld]

/-- The part tripped, before LINE-TRIP and the decision of orders. -/
def State.tripped (s : State) : State :=
  (State.allocate { s with line :=
    { s.line with state := .tripped, it := 0, c := 0, ig := 0, tripWatch := none, player := s.line.player.stopped } }).zeroWanted

theorem State.keeps_zeroWanted (hs : s.Settled) : s.Keeps (fun k => (s.group k).authority = .released) s.zeroWanted :=
  State.keeps_gau hs rfl fun k hk => by
    have h := State.group_zeroWanted s k
    rw [hk] at h
    exact h

theorem State.keeps_tripped (hs : s.Settled) :
    State.Keeps (fun k => (s.group k).authority = .released) { s with line :=
      { s.line with state := .tripped, it := 0, c := 0, ig := 0, tripWatch := none, player := s.line.player.stopped } } s.tripped := by
  have hallocated := State.keeps_allocate (s := { s with line :=
      { s.line with state := .tripped, it := 0, c := 0, ig := 0, tripWatch := none, player := s.line.player.stopped } })
    (K := fun k => (s.group k).authority = .released) (hs.withLine _) fun k hk => (State.idle_of_released (g := k) hk).2
  refine hallocated.trans ((State.keeps_zeroWanted hallocated.settled).mono fun k hk => ?_)
  rw [hallocated.groups k hk]
  exact hk

theorem State.tripped_group (s : State) (g : Fin 8) : (s.tripped.group g).authority = (s.group g).authority
    ∧ ((s.group g).authority.isHeld = true → (s.tripped.group g).wanted = 0) := by
  unfold State.tripped
  rw [State.group_zeroWanted, State.group_allocate]
  dsimp only
  refine ⟨by split <;> rfl, fun hheld => ?_⟩
  exact congrArg Group.wanted (if_pos hheld)

end

/-! ### The count of the requests taken is not read by the group unit -/

section
variable (s : State) (g : Fin 8)

@[simp] theorem State.counted_allocate : s.counted.allocate = s.allocate.counted := by
  have hwrite : ∀ (ws : List (Fin 8 × Nat)) (u : State), u.counted.writeWanted ws = (u.writeWanted ws).counted := by
    intro ws
    induction ws with
    | nil => exact fun _ => rfl
    | cons w ws ih => exact fun u => ih (u.modGroup w.1 fun q => { q with wanted := w.2 })
  unfold State.allocate
  dsimp only
  cases h : s.active with
  | false =>
    rw [if_neg Bool.false_ne_true]
    exact if_neg (by rw [show s.counted.active = s.active from rfl, h]; exact Bool.false_ne_true)
  | true =>
    rw [if_pos rfl]
    exact (if_pos h).trans (hwrite _ _)

@[simp] theorem State.counted_sendNotice (f : Frame) : s.counted.sendNotice f = (s.sendNotice f).counted := by
  unfold State.sendNotice
  by_cases hf : sendable f = false
  · rw [if_pos hf, if_pos hf]
  · rw [if_neg hf, if_neg hf]
    by_cases hfull : Config.noticePlaces ≤ s.gau.answers
    · rw [if_pos hfull]
      exact if_pos hfull
    · rw [if_neg hfull]
      refine (if_neg hfull).trans (Eq.trans ?_ (State.counted_settle _))
      rfl

@[simp] theorem State.counted_notify : s.counted.notify g = (s.notify g).counted := by
  have hwatcher : (s.counted.group g).watcher = (s.group g).watcher := rfl
  unfold State.notify
  dsimp only
  rw [hwatcher]
  cases (s.group g).watcher with
  | none => rfl
  | some w => exact s.counted_sendNotice _

@[simp] theorem State.counted_sendGroupOrder (f : Frame) : s.counted.sendGroupOrder g f = (s.sendGroupOrder g f).counted := by
  unfold State.sendGroupOrder
  dsimp only
  by_cases hf : sendable f = true
  · rw [if_pos hf, if_pos hf]
    refine Eq.trans ?_ (State.counted_settle _)
    rfl
  · rw [if_neg hf, if_neg hf]
    rfl

@[simp] theorem State.counted_decideOrder (n : Nat) (w : Bool) : s.counted.decideOrder g n w = (s.decideOrder g n w).counted := by
  have hgroup : s.counted.group g = s.group g := rfl
  unfold State.decideOrder
  dsimp only
  rw [hgroup]
  cases (s.group g).ackInForce with
  | external =>
    refine Eq.trans ?_ (State.counted_sendGroupOrder _ g _)
    rfl
  | internal =>
    refine Eq.trans ?_ (State.counted_sendGroupOrder _ g _)
    rw [← State.counted_notify]
    rfl

@[simp] theorem State.counted_decideFor : s.counted.decideFor g = (s.decideFor g).counted := by
  have hgroup : s.counted.group g = s.group g := rfl
  have hzero : s.counted.zeroOrderDue (s.group g) = s.zeroOrderDue (s.group g) := rfl
  have hdue : s.counted.orderDue (s.group g) = s.orderDue (s.group g) := rfl
  unfold State.decideFor
  dsimp only
  rw [hgroup, hzero, hdue]
  split_ifs
  · exact s.counted_decideOrder g _ _
  · exact s.counted_decideOrder g _ _
  · rfl

@[simp] theorem State.counted_decideAll : s.counted.decideAll = s.decideAll.counted := by
  have hfold : ∀ (l : List (Fin 8)) (u : State), l.foldl State.decideFor u.counted = (l.foldl State.decideFor u).counted := by
    intro l
    induction l with
    | nil => exact fun _ => rfl
    | cons k l ih =>
      intro u
      rw [List.foldl_cons, List.foldl_cons, State.counted_decideFor, ih]
  exact hfold _ s

@[simp] theorem State.counted_regulate : s.counted.regulate = s.regulate.counted := by
  have hkey : ∀ u : State, u.counted.allocationKey = u.allocationKey := fun _ => rfl
  unfold State.regulate
  dsimp only
  rw [State.counted_decideAll, hkey, hkey]
  split
  · rfl
  · rw [State.counted_allocate, State.counted_decideAll]

end

/-- A trip on a settled part: LINE-TRIP is raised, and then the orders that are due are decided. -/
theorem exec_lineTrip {s : State} {u : Nat} (hlow : s.resetLow = false) (hmode : s.meu.mode ≠ .forwardOnly) (hwatch : s.line.tripWatch = some u)
    (hu : u + 1000 ≤ s.time) : exec .lineTrip s = .next (s.tripped.raise .lineTrip 0 s.line.il s.line.it).regulate := by
  have hdue : s.tripDue = true := by
    unfold State.tripDue
    rw [(s.offers_iff_of_active).mpr hmode, hwatch]
    simpa [reached] using hu
  exact State.expire_of_due hlow hdue _

/-- What LINE-TRIP leaves in the groups, the line record and the management unit. -/
theorem lineTrip_zeroes {s : State} {u : Nat} (hlow : s.resetLow = false) (hmode : s.meu.mode ≠ .forwardOnly)
    (hwatch : s.line.tripWatch = some u) (hu : u + 1000 ≤ s.time) (hs : s.Settled) : ∃ t, exec .lineTrip s = .next t
      ∧ t.line = { s.line with
          state := .tripped, it := 0, c := 0, ig := 0, tripWatch := none
          player := { s.line.player with state := .idle, profile := none, stepEnd := none, remaining := none, op := 0 } }
      ∧ (∀ g, (s.group g).authority ≠ .released → (t.group g).authority ≠ .released ∧ (t.group g).wanted = 0)
      ∧ (∀ g, (s.group g).authority = .released → t.group g = s.group g)
      ∧ (t.meu.events[EventKind.lineTrip.index]).pending = true ∧ t.meu.alarm = alarmHeld t.meu.events
      ∧ t.smap = s.smap ∧ t.psu = s.psu ∧ t.aeu = s.aeu ∧ t.clu = s.clu ∧ t.egu = s.egu ∧ t.tru = s.tru := by
  have hkeeps := State.keeps_tripped hs
  have hraise := State.raise_of_settled hkeeps.settled .lineTrip 0 s.line.il s.line.it
  have hmarks := s.tripped.raise_marks .lineTrip 0 s.line.il s.line.it
  have hsettled : (s.tripped.raise .lineTrip 0 s.line.il s.line.it).Settled := State.settled_settle _
  have hexec := exec_lineTrip hlow hmode hwatch hu
  generalize s.tripped.raise .lineTrip 0 s.line.il s.line.it = w at hraise hmarks hsettled hexec
  have hgroup : ∀ g, w.group g = s.tripped.group g := fun g => by rw [hraise]; rfl
  have hregulated := State.keeps_regulate (K := fun k => (w.group k).authority = .released) hsettled fun k hk => State.idle_of_released hk
  have hline := congrArg State.line hkeeps.rest
  have hwline : w.line = s.tripped.line := by rw [hraise]
  have hwmode : w.meu.mode = s.meu.mode := by rw [hraise, hkeeps.rest]; rfl
  have hzero : w.AllZero := fun g hg => by
    obtain ⟨hauthority, hwanted⟩ := s.tripped_group g
    rw [hgroup] at hg ⊢
    exact hwanted (hauthority ▸ hg)
  have hactive : w.active = true := (w.offers_iff_of_active).mpr (hwmode ▸ hmode)
  refine ⟨_, hexec, ?_, fun g hg => ?_, fun g hg => ?_, ?_, ?_, ?_⟩
  · rw [hregulated.rest, hwline, hline]
    rfl
  · have hheld : (w.regulate.group g).authority.isHeld = true := by
      rw [State.regulate_isHeld, hgroup, (s.tripped_group g).1]
      exact (Authority.isHeld_iff _).mpr hg
    exact ⟨(Authority.isHeld_iff _).mp hheld, hzero.regulate (by rw [hwline, hline]) hactive g hheld⟩
  · have hw : (w.group g).authority = .released := by rw [hgroup, (s.tripped_group g).1]; exact hg
    rw [hregulated.groups g hw, hgroup]
    exact hkeeps.groups g hg
  · rw [hregulated.mode]
    exact hmarks
  · rw [hregulated.mode, hraise]
    rfl
  · rw [hregulated.rest, hraise, hkeeps.rest]
    exact ⟨rfl, rfl, rfl, rfl, rfl, rfl⟩

/-- A reply changes the management unit and the ring port alone. -/
theorem State.replied_rest (s : State) (h : Header) (r : Reply) :
    s.replied h r = { s with meu := (s.replied h r).meu, port := (s.replied h r).port } := by
  unfold State.replied
  dsimp only
  split_ifs <;> rfl

/-- The allocation and the decision of orders leave all but GAU and the ring port of a settled part. -/
theorem State.keeps_reallocated {s : State} (hs : s.Settled) : s.Keeps (fun _ => False) s.allocate.regulate := by
  have hallocated : s.Keeps (fun _ => False) s.allocate := State.keeps_allocate hs nofun
  exact hallocated.trans (State.keeps_regulate hallocated.settled nofun)

/-- Settles O39: the trip, and LINE-RESTART as the restarted line with its allocation and orders. -/
theorem lineTripZeroesAndLineRestartRestores : Obligations.LineTripZeroesAndLineRestartRestores := by
  refine ⟨fun s u hlow hmode hwatch hu hs => lineTrip_zeroes hlow hmode hwatch hu hs, fun h arg tail s ha hs => ?_⟩
  have hrefused : s.line.state ≠ .tripped → exec (.lineRestart h arg tail) s = .next (s.replied h (replyOf .badState [])) := fun hno =>
    congrArg Host.Outcome.next (State.requestRow_answered ha hs (if_neg hno))
  have hkeeps := State.keeps_reallocated (s := { s with line := s.line.restarted s.clu.ic }) (hs.withLine _)
  have hrestarted : s.line.state = .tripped → exec (.lineRestart h arg tail) s
      = .next (State.replied (State.allocate { s with line := s.line.restarted s.clu.ic }).regulate h (replyOf .ok [])) := fun htripped => by
    refine congrArg Host.Outcome.next (State.requestRow_replied ha ((if_pos htripped).trans ?_) hkeeps.settled (by rw [hkeeps.rest]))
    refine congrArg State.done (Eq.trans ?_ (State.counted_regulate _))
    refine congrArg State.regulate (Eq.trans ?_ (State.counted_allocate _))
    rfl
  refine ⟨hrefused, hrestarted, fun htripped => ⟨_, hrestarted htripped, ?_⟩⟩
  have hplaced := State.hasReplied_replied (State.allocate { s with line := s.line.restarted s.clu.ic }).regulate h (replyOf .ok [])
  have hrest := State.replied_rest (State.allocate { s with line := s.line.restarted s.clu.ic }).regulate h (replyOf .ok [])
  have haddress : (State.allocate { s with line := s.line.restarted s.clu.ic }).regulate.address = s.address := by rw [hkeeps.rest]
  rw [haddress] at hplaced
  refine ⟨?_, hplaced, ?_⟩
  · rw [hrest, hkeeps.rest]
    rfl
  · rw [hrest, hkeeps.rest]
    exact ⟨rfl, rfl, rfl, rfl, rfl, rfl⟩

end Sys2Proof.Machine
end

section
/-! SUPPORT. Work that raises events beside the change of some block: the line regulator's flags and the demand cap. -/

namespace Sys2Proof.Machine

/-- From `s` to `t` some events have been raised, and nothing else has changed; the part stays settled (R164, R171). -/
structure State.Tells (s t : State) : Prop where
  settled : t.Settled
  rest : t = { s with port := t.port, meu := { s.meu with events := t.meu.events, alarm := t.meu.alarm } }
  marks : ∀ k : EventKind, (s.meu.events[k.index]).pending = true → (t.meu.events[k.index]).pending = true

section
variable {s t u : State}

theorem State.Tells.refl (hs : s.Settled) : s.Tells s := ⟨hs, rfl, fun _ h => h⟩

theorem State.Tells.trans (h : s.Tells t) (h' : t.Tells u) : s.Tells u where
  settled := h'.settled
  rest := by rw [h'.rest, h.rest]
  marks k hk := h'.marks k (h.marks k hk)

/-- A raised event. -/
theorem State.tells_raise (hs : s.Settled) (k : EventKind) (j a b : Nat) : s.Tells (s.raise k j a b) where
  settled := State.settled_settle _
  rest := by
    conv_lhs => rw [State.raise_of_settled hs]
    rw [State.raise_of_settled hs]
    rfl
  marks j' hj := by
    rw [State.raise_of_settled hs]
    unfold Meu.takeEvent Meu.evaluateAlarm
    dsimp only
    by_cases h : k.index = j'.index
    · simp [h]
    · have hne : k.index.val ≠ j'.index.val := fun e => h (Fin.ext e)
      simpa [Vector.getElem_set_ne, hne] using hj

/-- The same work beside another line record. -/
theorem State.Tells.line (h : s.Tells t) (x : Line) : State.Tells { s with line := x } { t with line := x } where
  settled := h.settled.withLine x
  rest := by
    conv_lhs => rw [h.rest]
  marks := h.marks

/-- The same work beside another record of the energy unit. -/
theorem State.Tells.egu (h : s.Tells t) (x : Egu) : State.Tells { s with egu := x } { t with egu := x } where
  settled := h.settled.of_offers rfl fun src => by cases src <;> rfl
  rest := by
    conv_lhs => rw [h.rest]
  marks := h.marks

theorem State.Tells.group (h : s.Tells t) (g : Fin 8) : t.group g = s.group g := by rw [h.rest]; rfl

/-- What the line regulator and the energy unit hold after work that only raises events. -/
theorem State.Tells.blocks (h : s.Tells t) : t.line = s.line ∧ t.egu = s.egu ∧ t.clu = s.clu ∧ t.time = s.time ∧ t.aeu = s.aeu
    ∧ t.gau = s.gau ∧ t.meu.mode = s.meu.mode := by
  rw [h.rest]
  exact ⟨rfl, rfl, rfl, rfl, rfl, rfl, rfl⟩

theorem State.tells_carried (hs : s.Settled) (h : Header) (k : TakenKind) (p : List Byte) : s.Tells (s.carried h k p) where
  settled := State.settled_carried hs h k p
  rest := by
    rw [s.carried_eq h k p]
  marks _ hk := by
    rw [s.carried_eq h k p]
    exact hk

/-! ### Heat recovery (R78) -/

theorem Line.heatWorked_of_stands {l : Line} (hset : ¬(l.cfg.hl ≤ l.hd ∧ l.heatRecovery = false))
    (hclear : ¬(l.hd < l.cfg.hl / 2 ∧ l.heatRecovery = true)) : l.heatWorked = l := by
  have hflag : ∀ b, l.heatRecovery = b → { l with heatRecovery := b } = l := by
    rintro _ rfl
    rfl
  refine hflag _ ?_
  cases h : l.heatRecovery with
  | false =>
    have hno : ¬l.cfg.hl ≤ l.hd := fun hl => hset ⟨hl, h⟩
    simp [hno]
  | true =>
    have hno : ¬l.hd < l.cfg.hl / 2 := fun hl => hclear ⟨hl, h⟩
    simp [hno]

/-- Heat recovery worked, with HEAT-RECOVERY raised at its entry. -/
theorem State.tells_workHeatRecovery (hs : s.Settled) : State.Tells { s with line := s.line.heatWorked } s.workHeatRecovery
    ∧ (s.line.heatWorked.heatRecovery = true → s.line.heatRecovery = false →
      (s.workHeatRecovery.meu.events[EventKind.heatRecovery.index]).pending = true) := by
  unfold State.workHeatRecovery
  dsimp only
  split_ifs with hset hclear
  · have hworked : s.line.heatWorked = { s.line with heatRecovery := true } := by simp [Line.heatWorked, hset.1]
    rw [hworked]
    exact ⟨State.tells_raise (hs.withLine _) _ _ _ _, fun _ _ => State.raise_marks _ _ _ _ _⟩
  · have hnot : ¬s.line.cfg.hl ≤ s.line.hd := by omega
    have hworked : s.line.heatWorked = { s.line with heatRecovery := false } := by simp [Line.heatWorked, hnot, hclear.1]
    rw [hworked]
    exact ⟨.refl (hs.withLine _), fun h => absurd h Bool.false_ne_true⟩
  · rw [Line.heatWorked_of_stands hset hclear]
    exact ⟨.refl hs, fun h h' => absurd (h'.symm.trans h) Bool.false_ne_true⟩

/-! ### The below-floor flag (R74) -/

/-- The below-floor flag worked, with CAPACITY-BELOW-FLOOR raised at its entry. -/
theorem State.tells_workBelowFloor (hs : s.Settled) :
    State.Tells { s with line.belowFloor := decide (s.clu.ic < s.line.floor) } s.workBelowFloor
      ∧ (s.clu.ic < s.line.floor → s.line.belowFloor = false →
        (s.workBelowFloor.meu.events[EventKind.capacityBelowFloor.index]).pending = true) := by
  unfold State.workBelowFloor
  split_ifs with hlow hset
  · have hworked : ({ s with line.belowFloor := decide (s.clu.ic < s.line.floor) } : State) = s := by
      rw [decide_eq_true hlow, ← hset]
    rw [hworked]
    exact ⟨.refl hs, fun _ h => absurd (h.symm.trans hset) Bool.false_ne_true⟩
  · rw [decide_eq_true hlow]
    exact ⟨State.tells_raise (hs.withLine _) _ _ _ _, fun _ _ => State.raise_marks _ _ _ _ _⟩
  · rw [decide_eq_false hlow]
    exact ⟨.refl (hs.withLine _), fun h => absurd h hlow⟩

/-! ### The demand cap (R136) -/

/-- The cap-binding flag worked, with DEMAND-CAP raised at its entry. -/
theorem State.tells_workCapBinding (hs : s.Settled) (bound : Bool) (iw : Nat) :
    State.Tells { s with egu.slot.capBinding := bound } (s.workCapBinding bound iw)
      ∧ (bound = true → s.egu.slot.capBinding = false →
        ((s.workCapBinding bound iw).meu.events[EventKind.demandCap.index]).pending = true) := by
  have hsettled : ∀ b, State.Settled { s with egu.slot.capBinding := b } := fun b => hs.of_offers rfl fun src => by cases src <;> rfl
  unfold State.workCapBinding
  cases bound with
  | false => exact ⟨.refl (hsettled false), nofun⟩
  | true =>
    rw [if_pos rfl]
    split_ifs with hset
    · have hworked : ({ s with egu.slot.capBinding := true } : State) = s := by rw [← hset]
      rw [hworked]
      exact ⟨.refl hs, fun _ h => absurd (h.symm.trans hset) Bool.false_ne_true⟩
    · exact ⟨State.tells_raise (hsettled true) _ _ _ _, fun _ _ => State.raise_marks _ _ _ _ _⟩

end

end Sys2Proof.Machine
end

section
/-! PROOFS. What a LINE-SAMPLE does (O36, O37): the stages of R67 on the line record and the energy unit, the events beside them, then the
allocation and the orders. -/

namespace Sys2Proof.Machine

section
variable {s a b : State} {il vl dt : Nat}

/-- Stages 1 to 4 of R67 with the energy unit's work, the events left out. -/
def State.staged (s : State) (il vl : Nat) : State :=
  State.takeEnergy { s.addCurtailed s.sampleInterval.1 with
    line := ((s.line.stepHeat s.sampleInterval.1).heatWorked.record il vl s.time).workState s.time } il vl s.sampleInterval.1 s.sampleInterval.2

/-- The line record after stage 5 of R67, the below-floor flag left out. -/
def Line.composedOf (l : Line) (cap : Option Nat) (ic dt : Nat) : Line :=
  let iw := l.workingValue cap ic
  let it := l.slew iw ic dt
  { l with
    it := it
    curtailing := decide (iw < l.cfg.inom) && (decide (l.player.op < 0) || capBinds cap l.profileCurrent)
    tripWatch := if it < l.cfg.imin then none else l.tripWatch }

/-- Stage 5 of R67, the events left out. -/
def State.composed (s : State) (dt : Nat) : State :=
  if s.line.state = .tripped then s
  else { s with
    egu.slot.capBinding := capBinds s.egu.slot.cap s.line.profileCurrent
    line := { s.line.composedOf s.egu.slot.cap s.clu.ic dt with belowFloor := decide (s.clu.ic < s.line.floor) } }

theorem State.addCurtailed_eq (s : State) (dt : Nat) : s.addCurtailed dt = { s with egu := (s.addCurtailed dt).egu } := by
  unfold State.addCurtailed
  split <;> rfl

theorem State.takeEnergy_eq (s : State) (il vl dt : Nat) (clamped : Bool) :
    s.takeEnergy il vl dt clamped = { s with egu := (s.takeEnergy il vl dt clamped).egu } := rfl

/-- The energy unit's work reads its own record alone. -/
theorem State.takeEnergy_congr (h : b.egu = a.egu) (clamped : Bool) : (b.takeEnergy il vl dt clamped).egu = (a.takeEnergy il vl dt clamped).egu := by
  unfold State.takeEnergy State.nextCap State.timeLeft State.clockNow
  dsimp only
  rw [h]

theorem State.sampleInterval_beside (s : State) (p : Port) (m : Meu) :
    State.sampleInterval { s with port := p, meu := m } = s.sampleInterval := rfl

theorem State.staged_eq (s : State) : s.staged il vl = { s with
    line := ((s.line.stepHeat s.sampleInterval.1).heatWorked.record il vl s.time).workState s.time, egu := (s.staged il vl).egu } := by
  unfold State.staged
  rw [State.takeEnergy_eq, State.addCurtailed_eq]

/-- Stages 1 to 4 of R67: HEAT-RECOVERY is the one event. -/
theorem State.tells_sampleStages (h : s.Tells b) : State.Tells (s.staged il vl) (b.sampleStages il vl)
    ∧ ((s.line.stepHeat s.sampleInterval.1).heatWorked.heatRecovery = true → s.line.heatRecovery = false →
      ((b.sampleStages il vl).meu.events[EventKind.heatRecovery.index]).pending = true) := by
  obtain ⟨p, m, rfl⟩ : ∃ p m, b = { s with port := p, meu := m } := ⟨_, _, h.rest⟩
  have hcurtailed (p m) : State.addCurtailed { s with port := p, meu := m } s.sampleInterval.1
      = { s with port := p, meu := m, egu := (s.addCurtailed s.sampleInterval.1).egu } := by
    unfold State.addCurtailed
    dsimp only
    split_ifs <;> rfl
  have hstepped := (h.line (s.line.stepHeat s.sampleInterval.1)).egu (s.addCurtailed s.sampleInterval.1).egu
  obtain ⟨hworked, hevent⟩ := State.tells_workHeatRecovery hstepped.settled
  have hboth := (hstepped.line (s.line.stepHeat s.sampleInterval.1).heatWorked).trans hworked
  have hrest : (s.line.stepHeat s.sampleInterval.1).heatRecovery = s.line.heatRecovery := by
    unfold Line.stepHeat
    split <;> rfl
  have hl := congrArg State.line hboth.rest
  have hstages : State.sampleStages { s with port := p, meu := m } il vl = State.takeEnergy { State.workHeatRecovery { s with
      port := p, meu := m, line := s.line.stepHeat s.sampleInterval.1, egu := (s.addCurtailed s.sampleInterval.1).egu } with
      line := ((s.line.stepHeat s.sampleInterval.1).heatWorked.record il vl s.time).workState s.time } il vl s.sampleInterval.1 s.sampleInterval.2 := by
    unfold State.sampleStages
    dsimp only
    rw [State.sampleInterval_beside, hcurtailed]
    exact congrArg (fun l : Line => State.takeEnergy { State.workHeatRecovery { s with
      port := p, meu := m, line := s.line.stepHeat s.sampleInterval.1, egu := (s.addCurtailed s.sampleInterval.1).egu } with
      line := (l.record il vl s.time).workState s.time } il vl s.sampleInterval.1 s.sampleInterval.2) hl
  rw [hstages, State.takeEnergy_eq]
  have hfinal := (hboth.line (((s.line.stepHeat s.sampleInterval.1).heatWorked.record il vl s.time).workState s.time)).egu (s.staged il vl).egu
  have hegus : (State.takeEnergy { State.workHeatRecovery { s with
      port := p, meu := m, line := s.line.stepHeat s.sampleInterval.1, egu := (s.addCurtailed s.sampleInterval.1).egu } with
      line := ((s.line.stepHeat s.sampleInterval.1).heatWorked.record il vl s.time).workState s.time } il vl s.sampleInterval.1
      s.sampleInterval.2).egu = (s.staged il vl).egu := State.takeEnergy_congr (congrArg State.egu hboth.rest) _
  rw [hegus]
  refine ⟨?_, fun hset hclear => hevent hset (hrest.trans hclear)⟩
  rw [State.staged_eq]
  exact hfinal

/-- Stage 5 of R67: DEMAND-CAP and CAPACITY-BELOW-FLOOR are the events. -/
theorem State.tells_composeStage (h : a.Tells b) : State.Tells (a.composed dt) (b.composeStage dt)
    ∧ (a.line.state ≠ .tripped → a.clu.ic < a.line.floor → a.line.belowFloor = false →
      ((b.composeStage dt).meu.events[EventKind.capacityBelowFloor.index]).pending = true)
    ∧ (a.line.state ≠ .tripped → capBinds a.egu.slot.cap a.line.profileCurrent = true → a.egu.slot.capBinding = false →
      ((b.composeStage dt).meu.events[EventKind.demandCap.index]).pending = true)
    ∧ ∀ k : EventKind, (b.meu.events[k.index]).pending = true → ((b.composeStage dt).meu.events[k.index]).pending = true := by
  obtain ⟨hline, hegu, hclu, -⟩ := h.blocks
  unfold State.composed State.composeStage
  dsimp only
  rw [hline]
  by_cases htripped : a.line.state = .tripped
  · rw [if_pos htripped, if_pos htripped]
    exact ⟨h, fun hno => absurd htripped hno, fun hno => absurd htripped hno, fun _ hk => hk⟩
  · rw [if_neg htripped, if_neg htripped]
    unfold State.compose
    dsimp only
    rw [hline, hegu, hclu]
    obtain ⟨hbound, hcap⟩ := State.tells_workCapBinding h.settled (capBinds a.egu.slot.cap a.line.profileCurrent) a.line.profileCurrent
    have hkept := hbound.marks
    have hbound := (h.egu { a.egu with slot.capBinding := capBinds a.egu.slot.cap a.line.profileCurrent }).trans (hegu ▸ hbound)
    generalize b.workCapBinding (capBinds a.egu.slot.cap a.line.profileCurrent) a.line.profileCurrent = c at hbound hcap hkept
    obtain ⟨p, m, rfl⟩ : ∃ p m, c = { a with egu.slot.capBinding := capBinds a.egu.slot.cap a.line.profileCurrent, port := p, meu := m } :=
      ⟨_, _, hbound.rest⟩
    have hxline := hbound.line (a.line.composedOf a.egu.slot.cap a.clu.ic dt)
    obtain ⟨hworked, hevent⟩ := State.tells_workBelowFloor hxline.settled
    have hflag := (hbound.line { a.line.composedOf a.egu.slot.cap a.clu.ic dt with
      belowFloor := decide (a.clu.ic < a.line.floor) }).trans hworked
    exact ⟨hflag, fun _ => hevent, fun _ hset hclear => hworked.marks _ (hcap hset (hegu ▸ hclear)), fun k hk => hworked.marks k (hkept k hk)⟩

/-- Stages 1 to 6 of R67, the events left out. -/
def State.sampled (s : State) (il vl : Nat) : State := ((s.staged il vl).composed s.sampleInterval.1).workTrim

/-- A LINE-SAMPLE that is taken is worked on the state that passed it on. -/
theorem exec_lineSample_carried {h : Header} {time : Long} {il vl : Half} {extra : List Byte} (ht : s.takes h .lineSample = true)
    (hx : extra.length ≤ 52) : exec (.lineSample h time il vl extra) s
      = .next ((s.carried h .lineSample (lineSamplePayload time il vl extra)).takeLineSample il.toNat vl.toNat) := by
  have hlength : (lineSamplePayload time il vl extra).length = 8 + extra.length := by
    unfold lineSamplePayload
    rw [List.length_append, List.length_append, List.length_append, length_be32, length_be16, length_be16]
  refine congrArg Host.Outcome.next (State.frameRow_of_takes _ ht ?_ ?_)
  · rw [hlength]
    exact Nat.le_add_right _ _
  · rw [hlength, Config.payloadMax]
    omega

/-- A LINE-SAMPLE out of FORWARD-ONLY: the stages with their events, then the allocation and the orders. -/
theorem exec_lineSample {h : Header} {time : Long} {il vl : Half} {extra : List Byte} (ht : s.takes h .lineSample = true)
    (hx : extra.length ≤ 52) (hactive : s.active = true) (hs : s.Settled) :
    ∃ u, exec (.lineSample h time il vl extra) s = .next u.allocate.regulate ∧ (s.sampled il.toNat vl.toNat).Tells u
      ∧ ((s.line.stepHeat s.sampleInterval.1).heatWorked.heatRecovery = true → s.line.heatRecovery = false →
        (u.meu.events[EventKind.heatRecovery.index]).pending = true)
      ∧ ((s.staged il.toNat vl.toNat).line.state ≠ .tripped →
        ((s.staged il.toNat vl.toNat).clu.ic < (s.staged il.toNat vl.toNat).line.floor →
          (s.staged il.toNat vl.toNat).line.belowFloor = false → (u.meu.events[EventKind.capacityBelowFloor.index]).pending = true)
        ∧ (capBinds (s.staged il.toNat vl.toNat).egu.slot.cap (s.staged il.toNat vl.toNat).line.profileCurrent = true →
          (s.staged il.toNat vl.toNat).egu.slot.capBinding = false → (u.meu.events[EventKind.demandCap.index]).pending = true)) := by
  have hexec := exec_lineSample_carried (time := time) (il := il) (vl := vl) ht hx
  have hcarried := State.tells_carried hs h .lineSample (lineSamplePayload time il vl extra)
  have hinterval : (s.carried h .lineSample (lineSamplePayload time il vl extra)).sampleInterval = s.sampleInterval := by
    rw [hcarried.rest]
    rfl
  have hcactive : (s.carried h .lineSample (lineSamplePayload time il vl extra)).active = true := by
    rw [hcarried.rest]
    exact hactive
  generalize s.carried h .lineSample (lineSamplePayload time il vl extra) = b at hexec hcarried hinterval hcactive
  obtain ⟨hstaged, hheat⟩ := State.tells_sampleStages (il := il.toNat) (vl := vl.toNat) hcarried
  obtain ⟨hcomposed, hfloor, hcap, hkept⟩ := State.tells_composeStage (dt := s.sampleInterval.1) hstaged
  refine ⟨((b.sampleStages il.toNat vl.toNat).composeStage s.sampleInterval.1).workTrim, ?_, ?_, fun hset hclear => hkept _ (hheat hset hclear),
    fun hstate => ⟨hfloor hstate, hcap hstate⟩⟩
  · rw [hexec]
    unfold State.takeLineSample
    rw [if_pos hcactive]
    unfold State.workLineSample
    rw [hinterval]
  · generalize (b.sampleStages il.toNat vl.toNat).composeStage s.sampleInterval.1 = c at hcomposed
    unfold State.sampled
    generalize (s.staged il.toNat vl.toNat).composed s.sampleInterval.1 = a at hcomposed
    obtain ⟨p, e, x, rfl⟩ : ∃ p e x, c = { a with port := p, meu := { a.meu with events := e, alarm := x } } := ⟨_, _, _, hcomposed.rest⟩
    exact hcomposed.line _

end

end Sys2Proof.Machine
end

section
/-! PROOFS. The line record and the energy unit after a LINE-SAMPLE, field by field (O36, O37). -/

namespace Sys2Proof.Machine

section
variable {s : State} {l : Line} {il vl dt now : Nat}

theorem Line.stepHeat_eq (l : Line) (dt : Nat) :
    l.stepHeat dt = { l with hd := (l.stepHeat dt).hd, heatRemainder := (l.stepHeat dt).heatRemainder } := by
  unfold Line.stepHeat
  split_ifs <;> rfl

/-- The heat debt (R77). -/
theorem Line.stepHeat_debt (l : Line) (dt : Nat) :
    (l.it < l.cfg.inom → (l.stepHeat dt).hd = min (l.hd + (l.heatRemainder + (l.cfg.inom - l.it) * dt) / 1000) 4294967295
        ∧ (l.stepHeat dt).heatRemainder = (l.heatRemainder + (l.cfg.inom - l.it) * dt) % 1000)
      ∧ (l.cfg.inom ≤ l.it → (l.stepHeat dt).hd * 1000 + (l.stepHeat dt).heatRemainder = l.hd * 1000 + l.heatRemainder - l.cfg.hr * dt
        ∧ (l.stepHeat dt).heatRemainder < 1000) := by
  unfold Line.stepHeat
  dsimp only
  constructor <;> intro h
  · rw [if_pos h]
    exact ⟨rfl, rfl⟩
  · rw [if_neg (Nat.not_lt.mpr h)]
    exact ⟨Nat.div_add_mod' _ _, Nat.mod_lt _ (by decide)⟩

/-- The line record after stages 1 to 3 of R67. -/
def Line.measured (l : Line) (il vl dt now : Nat) : Line :=
  { l with
    hd := (l.stepHeat dt).hd, heatRemainder := (l.stepHeat dt).heatRemainder
    heatRecovery := (l.stepHeat dt).heatWorked.heatRecovery, il := il, vl := vl, sampleTime := some now, iminInForce := l.cfg.imin }

theorem Line.record_stepHeat (l : Line) : ((l.stepHeat dt).heatWorked.record il vl now) = l.measured il vl dt now := by
  unfold Line.measured
  rw [l.stepHeat_eq dt]
  rfl

theorem clampHalf_eq (z : Int) : (clampHalf z : Int) = clampCurrent z := by
  unfold clampHalf clampCurrent
  omega

theorem capBinds_eq (cap : Option Nat) (w : Nat) : capBinds cap w = decide (capped cap w < w) := by
  cases cap with
  | none => simp [capBinds, capped]
  | some id => exact decide_eq_decide.mpr (by simp only [capped]; omega)

/-- The trip watch after stages 4 and 5 of R67. -/
def Line.watched (l : Line) (il it now : Nat) : Option Nat :=
  if il < l.cfg.itrip ∧ l.cfg.imin ≤ l.it ∧ l.cfg.imin ≤ it then some (l.tripWatch.getD now) else none

theorem Line.workState_of_not_tripped (h : l.state ≠ .tripped) : l.workState now = { l with
    state := if l.cfg.imin ≤ l.il then .energised else .low
    tripWatch := if l.il < l.cfg.itrip ∧ l.cfg.imin ≤ l.it then some (l.tripWatch.getD now) else none } := by
  unfold Line.workState
  rw [if_neg h]
  cases l.tripWatch <;> rfl

theorem Line.watched_eq (l : Line) (il it now : Nat) : l.watched il it now = if it < l.cfg.imin then none
    else if il < l.cfg.itrip ∧ l.cfg.imin ≤ l.it then some (l.tripWatch.getD now) else none := by
  unfold Line.watched
  split_ifs <;> first | rfl | omega

theorem State.composed_of_tripped (h : s.line.state = .tripped) : s.composed dt = s := if_pos h

theorem State.composed_of_not_tripped (h : s.line.state ≠ .tripped) : s.composed dt = { s with
    egu.slot.capBinding := capBinds s.egu.slot.cap s.line.profileCurrent
    line := { s.line.composedOf s.egu.slot.cap s.clu.ic dt with belowFloor := decide (s.clu.ic < s.line.floor) } } := if_neg h

/-- When the trim steps (R76). -/
theorem State.trims_iff (s : State) : s.trims = true ↔ s.line.state = .energised ∧ s.meu.mode = .supervising ∧ s.aeu.count = 0
    ∧ ∃ g, (s.group g).available = true := by
  have havailable : s.availableSet.isEmpty = false ↔ ∃ g, (s.group g).available = true := by
    rw [List.isEmpty_eq_false_iff_exists_mem]
    exact exists_congr fun g => State.mem_availableSet
  simp only [State.trims, Bool.and_eq_true, beq_iff_eq, Bool.not_eq_true', s.supervising_iff, havailable, and_assoc]

/-- The line record after a LINE-SAMPLE in TRIPPED. -/
theorem State.line_sampled_of_tripped (h : s.line.state = .tripped) : (s.sampled il vl).line
    = { s.line.measured il vl s.sampleInterval.1 s.time with ig := groupCommand s.line.it s.line.c } := by
  have hline : (s.staged il vl).line = s.line.measured il vl s.sampleInterval.1 s.time := by
    show Line.workState _ _ = _
    rw [Line.record_stepHeat]
    exact if_pos h
  have hstate : (s.staged il vl).line.state = .tripped := by
    rw [hline]
    exact h
  have htrims : ¬(s.staged il vl).trims = true := fun hs => by
    rw [State.trims_iff, hstate] at hs
    exact LineState.noConfusion hs.1
  unfold State.sampled State.workTrim
  rw [State.composed_of_tripped hstate, if_neg htrims, hline]
  rfl

/-- The line record after a LINE-SAMPLE in LOW and ENERGISED. -/
theorem State.line_sampled_of_not_tripped (h : s.line.state ≠ .tripped) {m : Line} (hm : s.line.measured il vl s.sampleInterval.1 s.time = m)
    {it : Nat} (hit : m.slew (m.workingValue (s.staged il vl).egu.slot.cap s.clu.ic) s.clu.ic s.sampleInterval.1 = it) :
    ∃ c, (s.sampled il vl).line = { m with
      state := if s.line.cfg.imin ≤ il then .energised else .low
      tripWatch := s.line.watched il it s.time
      it := it
      curtailing := decide (m.workingValue (s.staged il vl).egu.slot.cap s.clu.ic < s.line.cfg.inom)
        && (decide (s.line.player.op < 0) || capBinds (s.staged il vl).egu.slot.cap s.line.profileCurrent)
      belowFloor := decide (s.clu.ic < m.floor)
      c := c
      ig := groupCommand it c }
      ∧ c = (if s.line.cfg.imin ≤ il ∧ s.meu.mode = .supervising ∧ s.aeu.count = 0 ∧ ∃ g, (s.group g).available = true then
        max (-(s.line.cfg.cmax : Int)) (min (s.line.c + ((it : Int) - il).tdiv (2 ^ s.line.cfg.ki)) s.line.cfg.cmax) else s.line.c) := by
  have hline : (s.staged il vl).line = { m with
      state := if s.line.cfg.imin ≤ il then .energised else .low
      tripWatch := if il < s.line.cfg.itrip ∧ s.line.cfg.imin ≤ s.line.it then some (s.line.tripWatch.getD s.time) else none } := by
    show Line.workState _ _ = _
    rw [Line.record_stepHeat, hm]
    subst hm
    exact Line.workState_of_not_tripped h
  have hstate : (s.staged il vl).line.state ≠ .tripped := by
    rw [hline]
    dsimp only
    split_ifs <;> exact LineState.noConfusion
  obtain ⟨x, e, hv⟩ : ∃ x e, s.staged il vl = { s with line := x, egu := e } := ⟨_, _, State.staged_eq s⟩
  unfold State.sampled
  rw [hv] at hline hstate hit ⊢
  dsimp only at hline hit
  have hcomposed : (State.composed { s with line := x, egu := e } s.sampleInterval.1).line = { m with
      state := if s.line.cfg.imin ≤ il then .energised else .low
      tripWatch := s.line.watched il it s.time
      it := it
      curtailing := decide (m.workingValue e.slot.cap s.clu.ic < s.line.cfg.inom)
        && (decide (s.line.player.op < 0) || capBinds e.slot.cap s.line.profileCurrent)
      belowFloor := decide (s.clu.ic < m.floor) } := by
    rw [State.composed_of_not_tripped hstate]
    dsimp only
    rw [Line.watched_eq]
    subst hit hm hline
    rfl
  have htrims : (State.composed { s with line := x, egu := e } s.sampleInterval.1).trims = true ↔ s.line.cfg.imin ≤ il ∧ s.meu.mode = .supervising
      ∧ s.aeu.count = 0 ∧ ∃ g, (s.group g).available = true := by
    rw [State.trims_iff, hcomposed, State.composed_of_not_tripped hstate]
    refine and_congr ?_ Iff.rfl
    dsimp only
    split_ifs with himin <;> simp [himin]
  refine ⟨_, ?_, rfl⟩
  unfold State.workTrim
  dsimp only
  rw [hcomposed, if_congr htrims rfl rfl]
  subst hm
  rfl

end

end Sys2Proof.Machine
end

section
/-! PROOFS. LINE-SAMPLE (O36, O37). -/

namespace Sys2Proof.Machine

section
variable {s : State} {l : Line} {il vl dt now : Nat}

/-- Iw in its signed form (R71). -/
theorem Line.workingValue_eq (l : Line) (cap : Option Nat) (ic : Nat) {w2 : Int} (hw2 : w2 = capped cap l.profileCurrent) :
    (l.workingValue cap ic : Int) = if l.aeHold then min (min (max w2 l.floor) ic) (l.it : Int) else min (max w2 l.floor) ic := by
  unfold Line.workingValue
  subst hw2
  dsimp only
  split_ifs <;> omega

/-- The slew in its signed form (R72). -/
theorem Line.slew_eq (l : Line) (iw ic dt : Nat) : (l.slew iw ic dt : Int) =
    if (min (l.it : Int) ic) < iw then min (iw : Int) (min (l.it : Int) ic + l.cfg.sup * dt / 1000)
      else if (iw : Int) < min (l.it : Int) ic then max (iw : Int) (min (l.it : Int) ic - l.cfg.sdn * dt / 1000) else min (l.it : Int) ic := by
  unfold Line.slew
  dsimp only
  have hup : ((l.cfg.sup : Int) * dt / 1000) = ((l.cfg.sup * dt / 1000 : Nat) : Int) := by push_cast; rfl
  have hdown : ((l.cfg.sdn : Int) * dt / 1000) = ((l.cfg.sdn * dt / 1000 : Nat) : Int) := by push_cast; rfl
  rw [hup, hdown]
  split_ifs <;> omega

/-- Curtailing in its signed form (R79). -/
theorem curtailing_eq {w inom : Nat} {op : Int} {cap : Option Nat} {p : Nat} {w' w2 w1 : Int} (hw : (w : Int) = w') (h2 : w2 = capped cap p)
    (h1 : (p : Int) = w1) : (decide (w < inom) && (decide (op < 0) || capBinds cap p)) = decide (w' < inom ∧ (op < 0 ∨ w2 < w1)) := by
  rw [capBinds_eq, ← hw, h2, ← h1, Bool.decide_and, Bool.decide_or]
  simp

/-- The set point and its flags after heat recovery (R78). -/
theorem Line.heatRecovery_heatWorked (l : Line) :
    l.heatWorked.heatRecovery = (decide (l.cfg.hl ≤ l.hd) || (l.heatRecovery && decide (l.cfg.hl / 2 ≤ l.hd))) := by
  unfold Line.heatWorked
  dsimp only
  split_ifs with hset hclear
  · simp [hset]
  · simp [hset, Nat.not_le.mpr hclear]
  · simp [hset, Nat.not_lt.mp hclear]

theorem Line.state_workState : (l.workState now).state = .tripped ↔ l.state = .tripped := by
  unfold Line.workState
  split_ifs with h <;> simp [h]

theorem Line.workState_eq (l : Line) (now : Nat) :
    l.workState now = { l with state := (l.workState now).state, tripWatch := (l.workState now).tripWatch } := by
  unfold Line.workState
  split_ifs <;> rfl

/-- What stage 5 of R67 reads of the line record and of the other blocks. -/
theorem State.staged_reads (s : State) : ((s.staged il vl).line.state = .tripped ↔ s.line.state = .tripped)
    ∧ (s.staged il vl).line.profileCurrent = s.line.profileCurrent ∧ (s.staged il vl).line.belowFloor = s.line.belowFloor
    ∧ (s.staged il vl).line.floor = (if (s.line.stepHeat s.sampleInterval.1).heatWorked.heatRecovery then s.line.cfg.inom else s.line.cfg.if0)
    ∧ (s.staged il vl).clu = s.clu := by
  rw [State.staged_eq, Line.record_stepHeat]
  refine ⟨Line.state_workState, ?_⟩
  rw [Line.workState_eq]
  exact ⟨rfl, rfl, rfl, rfl⟩

theorem State.egu_sampled (s : State) : (s.sampled il vl).egu = if s.line.state = .tripped then (s.staged il vl).egu
    else { (s.staged il vl).egu with slot.capBinding := capBinds (s.staged il vl).egu.slot.cap s.line.profileCurrent } := by
  obtain ⟨hstate, hprofile, -⟩ := s.staged_reads (il := il) (vl := vl)
  show ((s.staged il vl).composed _).egu = _
  by_cases h : s.line.state = .tripped
  · rw [if_pos h, State.composed_of_tripped (hstate.mpr h)]
  · rw [if_neg h, State.composed_of_not_tripped (mt hstate.mp h), hprofile]

theorem State.cap_sampled (s : State) : (s.sampled il vl).egu.slot.cap = (s.staged il vl).egu.slot.cap := by
  rw [State.egu_sampled]
  split_ifs <;> rfl

theorem State.sampled_eq (s : State) : s.sampled il vl = { s with line := (s.sampled il vl).line, egu := (s.sampled il vl).egu } := by
  have hcomposed : (s.staged il vl).composed s.sampleInterval.1 = { s.staged il vl with
      line := ((s.staged il vl).composed s.sampleInterval.1).line, egu := ((s.staged il vl).composed s.sampleInterval.1).egu } := by
    unfold State.composed
    split_ifs <;> rfl
  unfold State.sampled State.workTrim
  rw [hcomposed, State.staged_eq]

/-- The line record after a LINE-SAMPLE, in the parts that every line state shares (R67, R76 to R78). -/
theorem State.line_sampled {m : Line} (hm : (s.sampled il vl).line = m) : m = { s.line.measured il vl s.sampleInterval.1 s.time with
    state := m.state, tripWatch := m.tripWatch, it := m.it, c := m.c, ig := groupCommand m.it m.c
    belowFloor := m.belowFloor, curtailing := m.curtailing } := by
  by_cases h : s.line.state = .tripped
  · rw [← hm, State.line_sampled_of_tripped h]
    rfl
  · obtain ⟨c, hc, -⟩ := State.line_sampled_of_not_tripped (il := il) (vl := vl) h rfl rfl
    rw [← hm, hc]

theorem State.heatRecovery_sampled :
    (s.sampled il vl).line.heatRecovery = (s.line.stepHeat s.sampleInterval.1).heatWorked.heatRecovery :=
  (congrArg Line.heatRecovery (State.line_sampled rfl) :)

/-- The target after a LINE-SAMPLE in LOW and ENERGISED (R68 to R76). -/
theorem State.line_composes {m : Line} (hm : (s.sampled il vl).line = m) (h : s.line.state ≠ .tripped) {w1 w2 w4 w i : Int} {floor : Nat}
    (hdt : s.sampleInterval.1 = dt) (hfloor : floor = if m.heatRecovery then s.line.cfg.inom else s.line.cfg.if0)
    (hw1 : w1 = clampCurrent (s.line.cfg.inom + s.line.player.op))
    (hw2 : w2 = capped (s.sampled il vl).egu.slot.cap s.line.profileCurrent) (hw4 : w4 = min (max w2 floor) s.clu.ic)
    (hw : w = if s.line.aeHold then min w4 s.line.it else w4) (hi : i = min (s.line.it : Int) s.clu.ic) :
    m.state = (if s.line.cfg.imin ≤ il then .energised else .low)
      ∧ m.tripWatch = (if il < s.line.cfg.itrip ∧ s.line.cfg.imin ≤ s.line.it ∧ s.line.cfg.imin ≤ m.it
        then some (s.line.tripWatch.getD s.time) else none)
      ∧ (m.it : Int) = (if i < w then min w (i + s.line.cfg.sup * dt / 1000)
        else if w < i then max w (i - s.line.cfg.sdn * dt / 1000) else i)
      ∧ m.curtailing = decide (w < s.line.cfg.inom ∧ (s.line.player.op < 0 ∨ w2 < w1))
      ∧ m.belowFloor = decide (s.clu.ic < floor)
      ∧ m.c = (if s.line.cfg.imin ≤ il ∧ s.meu.mode = .supervising ∧ s.aeu.count = 0 ∧ ∃ g, (s.group g).available = true then
        max (-(s.line.cfg.cmax : Int)) (min (s.line.c + ((m.it : Int) - il).tdiv (2 ^ s.line.cfg.ki)) s.line.cfg.cmax) else s.line.c) := by
  rw [State.cap_sampled] at hw2
  obtain ⟨c, hline, hc⟩ := State.line_sampled_of_not_tripped (il := il) (vl := vl) h rfl rfl
  rw [hline] at hm
  subst hm
  have hw' : (((s.line.measured il vl s.sampleInterval.1 s.time).workingValue (s.staged il vl).egu.slot.cap s.clu.ic : Nat) : Int) = w := by
    rw [Line.workingValue_eq (l := s.line.measured il vl s.sampleInterval.1 s.time) _ _ hw2, hw, hw4, hfloor]
    rfl
  refine ⟨rfl, rfl, ?_, ?_, ?_, hc⟩
  · refine (Line.slew_eq _ _ _ _).trans ?_
    rw [hw', hi, hdt]
    rfl
  · exact curtailing_eq hw' hw2 ((clampHalf_eq _).trans hw1.symm)
  · rw [hfloor]
    rfl

/-- The line record after a LINE-SAMPLE, clause by clause (R67 to R78). -/
theorem State.line_sampled_clauses {m : Line} {below heat rest : Prop} (hm : (s.sampled il vl).line = m) {w1 w2 w4 w i : Int} {floor : Nat}
    (hdt : s.sampleInterval.1 = dt) (hfloor : floor = if m.heatRecovery then s.line.cfg.inom else s.line.cfg.if0)
    (hw1 : w1 = clampCurrent (s.line.cfg.inom + s.line.player.op))
    (hw2 : w2 = capped (s.sampled il vl).egu.slot.cap s.line.profileCurrent) (hw4 : w4 = min (max w2 floor) s.clu.ic)
    (hw : w = if s.line.aeHold then min w4 s.line.it else w4) (hi : i = min (s.line.it : Int) s.clu.ic)
    (hheat : (s.line.stepHeat s.sampleInterval.1).heatWorked.heatRecovery = true → s.line.heatRecovery = false → heat)
    (hbelow : s.line.state ≠ .tripped → s.clu.ic < floor → s.line.belowFloor = false → below) (hrest : rest) :
    (s.line.it < s.line.cfg.inom →
        m.hd = min (s.line.hd + (s.line.heatRemainder + (s.line.cfg.inom - s.line.it) * dt) / 1000) 4294967295
        ∧ m.heatRemainder = (s.line.heatRemainder + (s.line.cfg.inom - s.line.it) * dt) % 1000)
      ∧ (s.line.cfg.inom ≤ s.line.it → m.hd * 1000 + m.heatRemainder = s.line.hd * 1000 + s.line.heatRemainder - s.line.cfg.hr * dt
        ∧ m.heatRemainder < 1000)
      ∧ m.heatRecovery = (decide (s.line.cfg.hl ≤ m.hd) || (s.line.heatRecovery && decide (s.line.cfg.hl / 2 ≤ m.hd)))
      ∧ (m.heatRecovery = true → s.line.heatRecovery = false → heat)
      ∧ m.il = il ∧ m.vl = vl ∧ m.sampleTime = some s.time ∧ m.iminInForce = s.line.cfg.imin
      ∧ (s.line.state ≠ .tripped → m.state = (if s.line.cfg.imin ≤ il then .energised else .low)
        ∧ m.tripWatch = (if il < s.line.cfg.itrip ∧ s.line.cfg.imin ≤ s.line.it ∧ s.line.cfg.imin ≤ m.it
          then some (s.line.tripWatch.getD s.time) else none)
        ∧ (m.it : Int) = (if i < w then min w (i + s.line.cfg.sup * dt / 1000)
          else if w < i then max w (i - s.line.cfg.sdn * dt / 1000) else i)
        ∧ m.curtailing = decide (w < s.line.cfg.inom ∧ (s.line.player.op < 0 ∨ w2 < w1))
        ∧ m.belowFloor = decide (s.clu.ic < floor)
        ∧ (m.belowFloor = true → s.line.belowFloor = false → below)
        ∧ (s.line.cfg.imin ≤ il ∧ s.meu.mode = .supervising ∧ s.aeu.count = 0 ∧ (∃ g, (s.group g).available = true) →
          m.c = max (-(s.line.cfg.cmax : Int)) (min (s.line.c + ((m.it : Int) - il).tdiv (2 ^ s.line.cfg.ki)) s.line.cfg.cmax))
        ∧ (¬(s.line.cfg.imin ≤ il ∧ s.meu.mode = .supervising ∧ s.aeu.count = 0 ∧ ∃ g, (s.group g).available = true) →
          m.c = s.line.c))
      ∧ (s.line.state = .tripped → m.state = .tripped ∧ m.it = s.line.it ∧ m.c = s.line.c ∧ m.tripWatch = s.line.tripWatch
        ∧ m.curtailing = s.line.curtailing ∧ m.belowFloor = s.line.belowFloor)
      ∧ (m.ig : Int) = clampCurrent (m.it + m.c)
      ∧ m = { s.line with
          il := m.il, vl := m.vl, sampleTime := m.sampleTime, iminInForce := m.iminInForce, state := m.state
          tripWatch := m.tripWatch, it := m.it, c := m.c, ig := m.ig, hd := m.hd, heatRemainder := m.heatRemainder
          heatRecovery := m.heatRecovery, belowFloor := m.belowFloor, curtailing := m.curtailing }
      ∧ rest := by
  have hshape := State.line_sampled hm
  have hhd : m.hd = (s.line.stepHeat s.sampleInterval.1).hd := (congrArg Line.hd hshape :)
  have hremainder : m.heatRemainder = (s.line.stepHeat s.sampleInterval.1).heatRemainder := (congrArg Line.heatRemainder hshape :)
  have hrecovery : m.heatRecovery = (s.line.stepHeat s.sampleInterval.1).heatWorked.heatRecovery := (congrArg Line.heatRecovery hshape :)
  obtain ⟨hgrows, hfalls⟩ := s.line.stepHeat_debt s.sampleInterval.1
  rw [← hhd, ← hremainder] at hgrows hfalls
  refine ⟨hdt ▸ hgrows, hdt ▸ hfalls, ?_, hrecovery ▸ hheat, congrArg Line.il hshape, congrArg Line.vl hshape, congrArg Line.sampleTime hshape,
    congrArg Line.iminInForce hshape, fun hno => ?_, fun htripped => ?_, ?_, ?_, hrest⟩
  · rw [hrecovery, Line.heatRecovery_heatWorked, hhd, Line.stepHeat_eq]
  · obtain ⟨hstate, hwatch, hit, hcurtailing, hflag, hc⟩ := State.line_composes hm hno hdt hfloor hw1 hw2 hw4 hw hi
    refine ⟨hstate, hwatch, hit, hcurtailing, hflag, fun hset => ?_, fun htrims => hc.trans (if_pos htrims), fun htrims => hc.trans (if_neg htrims)⟩
    exact hbelow hno (of_decide_eq_true (hflag.symm.trans hset))
  · rw [State.line_sampled_of_tripped htripped] at hm
    subst hm
    exact ⟨htripped, rfl, rfl, rfl, rfl, rfl⟩
  · rw [congrArg Line.ig hshape]
    exact clampHalf_eq _
  · conv_lhs => rw [hshape]
    rw [hhd, hremainder, hrecovery, congrArg Line.il hshape, congrArg Line.vl hshape, congrArg Line.sampleTime hshape,
      congrArg Line.iminInForce hshape, congrArg Line.ig hshape]
    rfl

/-- Settles O36: the stages one by one, then the allocation with its orders. -/
theorem lineSampleComposesTheTarget : Obligations.LineSampleComposesTheTarget := by
  intro h time il vl extra s ht hx hs
  refine ⟨fun hmode => ?_, fun hmode => ?_⟩
  · rw [exec_lineSample_carried ht hx]
    have hinactive : ¬(s.carried h .lineSample (lineSamplePayload time il vl extra)).active = true := by
      rw [State.carried_eq, State.offers_iff_of_active]
      exact fun hno => hno hmode
    exact congrArg Host.Outcome.next (if_neg hinactive)
  obtain ⟨u, hexec, htells, hheat, hevents⟩ :=
    exec_lineSample (time := time) (il := il) (vl := vl) ht hx (s.offers_iff_of_active.mpr hmode) hs
  have hkeeps := State.keeps_reallocated htells.settled
  have hrest : u = { s with
      line := u.line, egu := u.egu, port := u.port, meu := { s.meu with events := u.meu.events, alarm := u.meu.alarm } } := by
    conv_lhs => rw [htells.rest, State.sampled_eq]
    rw [htells.blocks.1, htells.blocks.2.1]
  have hline : u.allocate.regulate.line = (s.sampled il.toNat vl.toNat).line := by rw [hkeeps.rest]; exact htells.blocks.1
  have hegu : u.allocate.regulate.egu = (s.sampled il.toNat vl.toNat).egu := by rw [hkeeps.rest]; exact htells.blocks.2.1
  have hmeu : u.allocate.regulate.meu = u.meu := by rw [hkeeps.rest]
  have hframe : u.allocate.regulate.smap = s.smap ∧ u.allocate.regulate.psu = s.psu ∧ u.allocate.regulate.aeu = s.aeu
      ∧ u.allocate.regulate.clu = s.clu ∧ u.allocate.regulate.tru = s.tru := by
    rw [hkeeps.rest, hrest]
    exact ⟨rfl, rfl, rfl, rfl, rfl⟩
  refine ⟨_, hexec, ?_⟩
  dsimp only
  rw [hline, hegu, hmeu]
  refine State.line_sampled_clauses rfl ?_ rfl rfl ?_ rfl rfl rfl hheat (fun hno hlow hclear => ?_) ⟨⟨u, rfl, ?_⟩, hframe⟩
  · unfold State.sampleInterval
    cases s.line.sampleTime <;> rfl
  · cases (s.sampled il.toNat vl.toNat).egu.slot.cap with
    | none => exact (clampHalf_eq _).symm
    | some id =>
      rw [← clampHalf_eq]
      simp [capped, Line.profileCurrent]
  · obtain ⟨hstate, -, hbelow, hfloor, hclu⟩ := s.staged_reads (il := il.toNat) (vl := vl.toNat)
    refine (hevents (mt hstate.mp hno)).1 ?_ (hbelow.trans hclear)
    rw [hclu, hfloor, ← State.heatRecovery_sampled (il := il.toNat) (vl := vl.toNat)]
    exact hlow
  · rw [← htells.blocks.1, ← htells.blocks.2.1]
    exact hrest
end

end Sys2Proof.Machine
end

section
/-! PROOFS. The energy unit and the demand cap after a LINE-SAMPLE (O37). -/

namespace Sys2Proof.Machine

section
variable {s : State} {il vl dt : Nat} {clamped : Bool}

/-- The energy unit's record after stage 3 of R131, with the curtailed time of R79. -/
def State.metered (s : State) (il vl dt : Nat) (clamped : Bool) : Egu :=
  Egu.addSample { s.egu with slot.curtailed := s.egu.slot.curtailed
    + (if s.line.curtailing = true ∧ s.line.it < s.line.cfg.inom then dt else 0) } vl il dt clamped

theorem State.addCurtailed_egu (s : State) (dt : Nat) : (s.addCurtailed dt).egu = { s.egu with slot.curtailed := s.egu.slot.curtailed
    + (if s.line.curtailing = true ∧ s.line.it < s.line.cfg.inom then dt else 0) } := by
  unfold State.addCurtailed
  split_ifs <;> rfl

theorem State.egu_staged (s : State) : (s.staged il vl).egu = { s.metered il vl s.sampleInterval.1 s.sampleInterval.2 with
    slot.cap := State.nextCap { s with egu := s.metered il vl s.sampleInterval.1 s.sampleInterval.2 } vl } := by
  unfold State.staged State.metered
  rw [State.addCurtailed_eq, State.addCurtailed_egu]
  rfl

/-- The demand cap after a sample (R134, R135). -/
theorem State.nextCap_clauses (s : State) (vl : Nat) :
    (s.egu.slot.number = none ∨ s.egu.slot.entry.limit = 0 → s.nextCap vl = none)
      ∧ (∀ day ms, s.egu.clock = some ⟨day, ms⟩ → ms < 86400000 → s.egu.slot.number = some ((day - 1) * 48 + ms / 1800000) →
        s.egu.slot.entry.limit ≠ 0 →
        (1800000 - ms % 1800000 ≤ 60000 ∨ vl = 0 → s.nextCap vl = s.egu.slot.cap)
          ∧ (60000 < 1800000 - ms % 1800000 → vl ≠ 0 → s.nextCap vl
            = some (min ((s.egu.slot.entry.limit * 1000 - s.egu.slot.es) * 3600000 / (1800000 - ms % 1800000) / vl) 65535))) := by
  refine ⟨fun h => if_pos h, fun day ms hclock hms hnumber hlimit => ?_⟩
  have hleft : s.timeLeft = some (1800000 - ms % 1800000) := by
    have hnormal : Clock.normal ⟨day, ms⟩ = ⟨day, ms⟩ := if_pos hms
    unfold State.timeLeft State.clockNow
    rw [hclock, hnumber, Option.map_some, hnormal]
    exact congrArg some (if_pos rfl)
  have hopen : ¬(s.egu.slot.number = none ∨ s.egu.slot.entry.limit = 0) := by
    rw [hnumber]
    simpa using hlimit
  unfold State.nextCap
  dsimp only
  rw [if_neg hopen, hleft]
  exact ⟨fun h => if_pos h, fun hlong hvl => if_neg (by omega)⟩

/-- The energy unit after a LINE-SAMPLE, clause by clause (R79, R131 to R136). -/
theorem State.egu_sampled_clauses {e : Egu} {event zero : Prop} {binds : Bool} {low high : Nat} (he : (s.sampled il vl).egu = e)
    (hdt : s.sampleInterval.1 = dt) (hclamped : s.sampleInterval.2 = clamped) (hbinds : capBinds e.slot.cap s.line.profileCurrent = binds)
    (hlow : min (s.egu.slot.minIl.getD il) il = low) (hhigh : max (s.egu.slot.maxIl.getD il) il = high)
    (hzero : zero ↔ vl = 0) (hevent : s.line.state ≠ .tripped → binds = true → s.egu.slot.capBinding = false → event) :
    e.remainder = (s.egu.remainder + vl * il * dt) % 3600000
      ∧ e.total = s.egu.total + (s.egu.remainder + vl * il * dt) / 3600000
      ∧ e.slot.es = min (s.egu.slot.es + (s.egu.remainder + vl * il * dt) / 3600000) 4294967295
      ∧ e.lost = s.egu.lost + (s.egu.slot.es + (s.egu.remainder + vl * il * dt) / 3600000 - 4294967295)
      ∧ e.slot.gap = (s.egu.slot.gap || clamped)
      ∧ e.slot.minIl = some low ∧ e.slot.maxIl = some high
      ∧ e.slot.curtailed = s.egu.slot.curtailed + (if s.line.curtailing = true ∧ s.line.it < s.line.cfg.inom then dt else 0)
      ∧ (s.egu.slot.number = none ∨ s.egu.slot.entry.limit = 0 → e.slot.cap = none)
      ∧ (∀ day ms, s.egu.clock = some ⟨day, ms⟩ → ms < 86400000 → s.egu.slot.number = some ((day - 1) * 48 + ms / 1800000) →
        s.egu.slot.entry.limit ≠ 0 →
        (1800000 - ms % 1800000 ≤ 60000 ∨ zero → e.slot.cap = s.egu.slot.cap)
          ∧ (60000 < 1800000 - ms % 1800000 → ¬zero → e.slot.cap
            = some (min ((s.egu.slot.entry.limit * 1000 - e.slot.es) * 3600000 / (1800000 - ms % 1800000) / vl) 65535)))
      ∧ (s.line.state ≠ .tripped → e.slot.capBinding = binds)
      ∧ (s.line.state ≠ .tripped → binds = true → s.egu.slot.capBinding = false → event)
      ∧ (s.line.state = .tripped → e.slot.capBinding = s.egu.slot.capBinding)
      ∧ e = { s.egu with
          remainder := e.remainder, total := e.total, lost := e.lost
          slot := { s.egu.slot with
            es := e.slot.es, gap := e.slot.gap, minIl := e.slot.minIl, maxIl := e.slot.maxIl, curtailed := e.slot.curtailed
            cap := e.slot.cap, capBinding := e.slot.capBinding } } := by
  have hstaged := s.egu_staged (il := il) (vl := vl)
  obtain ⟨hnone, hcap⟩ := State.nextCap_clauses { s with egu := s.metered il vl s.sampleInterval.1 s.sampleInterval.2 } vl
  rw [State.egu_sampled, hstaged] at he
  generalize State.nextCap { s with egu := s.metered il vl s.sampleInterval.1 s.sampleInterval.2 } vl = c at he hnone hcap
  simp only [← hzero, ne_eq] at hcap
  subst hdt hclamped hlow hhigh
  have hlost : ∀ n : Nat, n - min n count32Max = n - 4294967295 := fun n => by
    unfold count32Max
    omega
  by_cases htripped : s.line.state = .tripped
  · rw [if_pos htripped] at he
    subst he
    exact ⟨rfl, rfl, rfl, congrArg (s.egu.lost + ·) (hlost _), rfl, rfl, rfl, rfl, hnone, hcap, fun hno => absurd htripped hno, hevent, fun _ => rfl,
      rfl⟩
  · rw [if_neg htripped] at he
    subst he
    exact ⟨rfl, rfl, rfl, congrArg (s.egu.lost + ·) (hlost _), rfl, rfl, rfl, rfl, hnone, hcap, fun _ => hbinds, hevent, fun h => absurd h htripped,
      rfl⟩

/-- Settles O37: stage 3 of R131, the cap of R134 and its flag. -/
theorem lineSampleAddsEnergyAndWorksTheCap : Obligations.LineSampleAddsEnergyAndWorksTheCap := by
  intro h time il vl extra s ht hx hmode hs
  obtain ⟨u, hexec, htells, -, hevents⟩ :=
    exec_lineSample (time := time) (il := il) (vl := vl) ht hx (s.offers_iff_of_active.mpr hmode) hs
  have hkeeps := State.keeps_reallocated htells.settled
  have hegu : u.allocate.regulate.egu = (s.sampled il.toNat vl.toNat).egu := by rw [hkeeps.rest]; exact htells.blocks.2.1
  have hmeu : u.allocate.regulate.meu = u.meu := by rw [hkeeps.rest]
  refine ⟨_, hexec, ?_⟩
  dsimp only
  rw [hegu, hmeu]
  obtain ⟨hstate, hprofile, -⟩ := s.staged_reads (il := il.toNat) (vl := vl.toNat)
  have hbinds : ∀ cap : Option Nat, capBinds cap s.line.profileCurrent = (match cap with
      | none => false
      | some id => decide ((id : Int) < clampCurrent (s.line.cfg.inom + s.line.player.op))) := by
    rintro (_ | id)
    · rfl
    · rw [← clampHalf_eq]
      exact decide_eq_decide.mpr Int.ofNat_lt.symm
  refine State.egu_sampled_clauses (s := s) (il := il.toNat) (vl := vl.toNat) rfl ?_ ?_ ?_ ?_ ?_ (BitVec.toNat_inj (x := vl) (y := 0)).symm (fun hno hset hclear => ?_)
  · unfold State.sampleInterval
    cases s.line.sampleTime <;> rfl
  · unfold State.sampleInterval
    cases s.line.sampleTime <;> rfl
  · exact hbinds _
  · cases s.egu.slot.minIl with
    | none => exact Nat.min_self _
    | some a => rfl
  · cases s.egu.slot.maxIl with
    | none => exact Nat.max_self _
    | some a => rfl
  · refine (hevents (mt hstate.mp hno)).2 ?_ ?_
    · rw [hprofile, ← State.cap_sampled, hbinds]
      exact hset
    · rw [State.egu_staged]
      exact hclear

end

end Sys2Proof.Machine
end

section
/-! SUPPORT. Capacities and their handing on, on a settled part (R73, R118, R119, R121): what it changes beside the groups, and what it leaves of
the groups' records. -/

namespace Sys2Proof.Machine

section
variable {s t u : State} {g : Fin 8}

/-- From `s` to `t` only GAU, the ring port, the target, CLU and the events change; the part stays settled, and the kinds that are pending stay
so. -/
structure State.Confines (s t : State) : Prop where
  settled : t.Settled
  rest : t = { s with
    port := t.port, gau := t.gau, line := t.line, clu := t.clu, meu := { s.meu with events := t.meu.events, alarm := t.meu.alarm } }
  line : t.line = { s.line with it := t.line.it, ig := t.line.ig, tripWatch := t.line.tripWatch, belowFloor := t.line.belowFloor }
  marks : ∀ k : EventKind, (s.meu.events[k.index]).pending = true → (t.meu.events[k.index]).pending = true

theorem State.Confines.refl (hs : s.Settled) : s.Confines s := ⟨hs, rfl, rfl, fun _ h => h⟩

theorem State.Confines.trans (h : s.Confines t) (h' : t.Confines u) : s.Confines u where
  settled := h'.settled
  rest := by rw [h'.rest, h.rest]
  line := by rw [h'.line, h.line]
  marks k hk := h'.marks k (h.marks k hk)

theorem State.Keeps.confines {K : Fin 8 → Prop} (h : s.Keeps K t) : s.Confines t where
  settled := h.settled
  rest := by
    conv_lhs => rw [h.rest]
    rw [h.rest]
  line := by rw [h.rest]
  marks k hk := by
    rw [h.rest]
    exact hk

theorem State.Tells.confines (h : s.Tells t) : s.Confines t where
  settled := h.settled
  rest := by
    conv_lhs => rw [h.rest]
    rw [h.blocks.1, h.blocks.2.2.1, h.blocks.2.2.2.2.2.1]
  line := by rw [h.blocks.1]
  marks := h.marks

theorem State.Confines.mode (h : s.Confines t) : t.meu.mode = s.meu.mode := by rw [h.rest]

theorem State.Confines.active (h : s.Confines t) : t.active = s.active := State.active_congr h.mode

/-- The blocks that such work leaves. -/
theorem State.Confines.others (h : s.Confines t) : t.smap = s.smap ∧ t.psu = s.psu ∧ t.aeu = s.aeu ∧ t.egu = s.egu ∧ t.tru = s.tru := by
  rw [h.rest]
  exact ⟨rfl, rfl, rfl, rfl, rfl⟩

theorem State.Confines.address (h : s.Confines t) : t.address = s.address ∧ t.time = s.time := by
  rw [h.rest]
  exact ⟨rfl, rfl⟩

/-- A change of CLU alone. -/
theorem State.confines_clu (hs : s.Settled) {c : Clu} (hframe : c.orderFrame = s.clu.orderFrame) : s.Confines { s with clu := c } where
  settled := hs.of_offers rfl fun src => by
    cases src with
    | clu => exact congrArg (fun f : Option Frame => s.active && f.isSome) hframe
    | _ => rfl
  rest := rfl
  line := rfl
  marks _ h := h

theorem State.confines_modGroup (hs : s.Settled) (g : Fin 8) (f : Group → Group) : s.Confines (s.modGroup g f) :=
  (State.keeps_modGroup (K := fun _ => False) hs (fun h => h) f).confines

theorem State.confines_raise (hs : s.Settled) (k : EventKind) (j a b : Nat) : s.Confines (s.raise k j a b) := (State.tells_raise hs k j a b).confines

theorem State.confines_allocate (hs : s.Settled) : s.Confines s.allocate := (State.keeps_allocate (K := fun _ => False) hs nofun).confines

theorem State.confines_regulate (hs : s.Settled) : s.Confines s.regulate := (State.keeps_regulate (K := fun _ => False) hs nofun).confines

theorem State.confines_reallocate (hs : s.Settled) (before : State) : s.Confines (s.reallocate before) := by
  unfold State.reallocate
  split
  · exact .refl hs
  · exact State.confines_allocate hs

theorem State.confines_evaluateCap (hs : s.Settled) (g : Fin 8) : s.Confines (s.evaluateCap g) := by
  unfold State.evaluateCap
  split
  · exact State.confines_modGroup hs g _
  · exact .refl hs

/-! ### The records beside an allocation -/

/-- From `s` to `t` the groups' records stand, but for the wanted setpoints of the available ones. -/
structure State.Allots (s t : State) : Prop where
  records : ∀ k, t.group k = { s.group k with wanted := (t.group k).wanted }
  others : ∀ k, (s.group k).available = false → t.group k = s.group k

theorem State.Allots.of_groups (h : ∀ k, t.group k = s.group k) : s.Allots t where
  records k := by rw [h k]
  others k _ := h k

theorem State.Allots.available (h : s.Allots t) (k : Fin 8) : (t.group k).available = (s.group k).available := by
  rw [h.records k]
  rfl

theorem State.Allots.trans (h : s.Allots t) (h' : t.Allots u) : s.Allots u where
  records k := by rw [h'.records k, h.records k]
  others k hk := (h'.others k ((h.available k).trans hk)).trans (h.others k hk)

theorem State.allots_allocate (s : State) : s.Allots s.allocate where
  records := s.group_allocate
  others _ := State.group_allocate_of_unavailable

theorem State.allots_reallocate (s before : State) : s.Allots (s.reallocate before) := by
  unfold State.reallocate
  split
  · exact .of_groups fun _ => rfl
  · exact s.allots_allocate

/-! ### Ic, the target and the station stage (R73, R119, R121) -/

theorem Line.lowerTo_eq (l : Line) (ic : Nat) :
    l.lowerTo ic = { l with it := min l.it ic, ig := (l.lowerTo ic).ig, tripWatch := (l.lowerTo ic).tripWatch } := by
  unfold Line.lowerTo
  by_cases h : ic < l.it
  · rw [if_pos h, Nat.min_eq_right (Nat.le_of_lt h)]
  · rw [if_neg h, Nat.min_eq_left (Nat.not_lt.mp h)]

/-- A new Ic with what the line regulator makes of it. -/
theorem State.confines_withCapacity (hs : s.Settled) (c : Nat) : s.Confines (s.withCapacity c) ∧ (s.withCapacity c).clu = { s.clu with ic := c }
    ∧ (∀ k, (s.withCapacity c).group k = s.group k)
    ∧ (s.withCapacity c).line.it = if c = s.clu.ic ∨ s.line.state = .tripped then s.line.it else min s.line.it c := by
  have hic := State.confines_clu (c := { s.clu with ic := c }) hs rfl
  unfold State.withCapacity
  by_cases hsame : c = s.clu.ic
  · rw [if_pos hsame, if_pos (.inl hsame)]
    subst hsame
    exact ⟨.refl hs, rfl, fun _ => rfl, rfl⟩
  · rw [if_neg hsame]
    unfold State.takeCapacity
    by_cases htripped : s.line.state = .tripped
    · rw [if_pos htripped]
      exact ⟨hic, rfl, fun _ => rfl, (if_pos (.inr htripped)).symm⟩
    · rw [if_neg htripped]
      obtain ⟨hworked, -⟩ := State.tells_workBelowFloor (s := { s with line := s.line.lowerTo c, clu := { s.clu with ic := c } })
        (hic.settled.withLine _)
      have hline := hworked.blocks.1
      refine ⟨⟨hworked.settled, ?_, ?_, hworked.marks⟩, hworked.blocks.2.2.1, hworked.group, ?_⟩
      · conv_lhs => rw [hworked.rest]
        rw [hline, hworked.blocks.2.2.1, hworked.blocks.2.2.2.2.2.1]
      · rw [hline]
        dsimp only
        rw [Line.lowerTo_eq]
      · rw [hline, if_neg (not_or.mpr ⟨hsame, htripped⟩)]
        dsimp only
        rw [Line.lowerTo_eq]

theorem State.stationCapacity_congr (h : ∀ k, (t.group k).cfg.present = (s.group k).cfg.present ∧ (t.group k).stale = (s.group k).stale
    ∧ (t.group k).cap = (s.group k).cap) : t.stationCapacity = s.stationCapacity := by
  unfold State.stationCapacity
  refine congrArg List.sum (List.map_congr_left fun k _ => ?_)
  obtain ⟨hpresent, hstale, hcap⟩ := h k
  rw [hpresent, hstale, hcap]

theorem State.Allots.stationCapacity (h : s.Allots t) : t.stationCapacity = s.stationCapacity :=
  State.stationCapacity_congr fun k => by
    rw [h.records k]
    exact ⟨rfl, rfl, rfl⟩

theorem State.Allots.hottestNow (h : s.Allots t) : t.hottestNow = s.hottestNow := by
  unfold State.hottestNow
  refine congrArg maxTemp (congrArg (fun f => List.filterMap f (List.finRange 8)) (funext fun k => ?_))
  rw [h.records k]
  rfl

/-- CLU with a new Ic and the station stage evaluated at a hottest temperature (R119, R121). -/
def Clu.handed (c : Clu) (ic : Nat) (hottest : Option Int) (now : Nat) : Clu :=
  { c with
    ic := ic, hottest := hottest, upSince := since { c with hottest := hottest }.upHolds c.upSince now
    downSince := since { c with hottest := hottest }.downHolds c.downSince now }

/-- The results of an evaluation handed on (R119). -/
theorem State.confines_handOn (hs : s.Settled) {before : State} (hic : s.clu.ic = before.clu.ic) : s.Confines (s.handOn before)
    ∧ s.Allots (s.handOn before) ∧ (s.handOn before).clu = s.clu.handed s.stationCapacity s.hottestNow s.time
    ∧ (s.handOn before).line.it
      = if s.stationCapacity = s.clu.ic ∨ s.line.state = .tripped then s.line.it else min s.line.it s.stationCapacity := by
  unfold State.handOn
  rw [State.handCapacity_eq _ _ hic]
  obtain ⟨hcapacity, hclu, hgroups, hit⟩ := State.confines_withCapacity hs s.stationCapacity
  generalize s.withCapacity s.stationCapacity = v at hcapacity hclu hgroups hit
  have hreallocated := State.confines_reallocate hcapacity.settled before
  have hallots := State.allots_reallocate v before
  have hkept : (v.reallocate before).clu = v.clu ∧ (v.reallocate before).line = v.line := by
    unfold State.reallocate
    split
    · exact ⟨rfl, rfl⟩
    · rw [State.allocate_rest]
      exact ⟨rfl, rfl⟩
  generalize v.reallocate before = w at hreallocated hallots hkept
  have hboth := hcapacity.trans hreallocated
  have hall := (State.Allots.of_groups hgroups).trans hallots
  have hstage := State.confines_clu (s := w) (c := w.evaluateStage.clu) hreallocated.settled rfl
  have hsame : w.Allots w.evaluateStage := .of_groups fun _ => rfl
  refine ⟨hboth.trans hstage, hall.trans hsame, ?_, ?_⟩
  · unfold State.evaluateStage Clu.handed
    dsimp only
    rw [hall.hottestNow, hboth.address.2, hkept.1, hclu]
    rfl
  · exact (congrArg Line.it hkept.2).trans hit

end

end Sys2Proof.Machine
end

section
/-! SUPPORT. Releases, and the groups' records across the decision of orders, on a settled part (R85, R94, R100). -/

namespace Sys2Proof.Machine

section
variable {s t u : State} {g : Fin 8} {K : Fin 8 → Prop}

/-! ### The records across the decision of orders -/

/-- What the decision of orders and the allocation may change of a record. -/
def Group.Worked (q r : Group) : Prop := r.authority.isHeld = q.authority.isHeld ∧ r = { q with
  wanted := r.wanted, order := r.order, authority := r.authority, confirmed := r.confirmed, stepOpen := r.stepOpen, statusSince := r.statusSince
  counters := r.counters }

theorem Group.Worked.refl (q : Group) : q.Worked q := ⟨rfl, rfl⟩

theorem Group.Worked.trans {q r x : Group} (h : q.Worked r) (h' : r.Worked x) : q.Worked x := by
  refine ⟨h'.1.trans h.1, ?_⟩
  rw [h'.2, h.2]

theorem Group.worked_of_sentForm {q r : Group} (h : r.sentForm = q.sentForm) : q.Worked r := by
  have heq := Group.eq_of_sentForm h
  refine ⟨by rw [heq], ?_⟩
  rw [heq]

theorem Group.worked_decided (q : Group) (n : Nat) (w : Bool) (seq : Byte) (now : Nat) : q.Worked (q.decided n w seq now) := by
  refine ⟨q.decided_isHeld n w seq now, ?_⟩
  unfold Group.decided
  split <;> rfl

theorem State.Decides.worked {q r : Group} (h : s.Decides q r) : q.Worked r := by
  unfold State.Decides at h
  split at h
  · obtain ⟨seq, hr⟩ := h
    exact (q.worked_decided _ _ _ _).trans (Group.worked_of_sentForm hr)
  · split at h
    · obtain ⟨seq, hr⟩ := h
      exact (q.worked_decided _ _ _ _).trans (Group.worked_of_sentForm hr)
    · exact Group.worked_of_sentForm h

theorem State.Allots.worked (h : s.Allots t) (k : Fin 8) : (s.group k).Worked (t.group k) := by
  refine ⟨by rw [h.records k], ?_⟩
  rw [h.records k]

theorem State.worked_decideAll (s : State) (k : Fin 8) : (s.group k).Worked (s.decideAll.group k) := (s.group_decideAll k).worked

theorem State.worked_regulate (s : State) (k : Fin 8) : (s.group k).Worked (s.regulate.group k) := by
  have hfirst := s.worked_decideAll k
  unfold State.regulate
  dsimp only
  generalize s.decideAll = v at hfirst ⊢
  split
  · exact hfirst
  · exact (hfirst.trans (v.allots_allocate.worked k)).trans (v.allocate.worked_decideAll k)

theorem State.stationCapacity_worked (h : ∀ k, (s.group k).Worked (t.group k)) : t.stationCapacity = s.stationCapacity :=
  State.stationCapacity_congr fun k => by
    rw [(h k).2]
    exact ⟨rfl, rfl, rfl⟩

theorem State.Keeps.clu (h : s.Keeps K t) : t.clu = s.clu ∧ t.line = s.line := by
  rw [h.rest]
  exact ⟨rfl, rfl⟩

/-- The decision of orders leaves Ic the station's capacity. -/
theorem State.stationCapacity_regulate (hs : s.Settled) (h : s.clu.ic = s.stationCapacity) : s.regulate.clu.ic = s.regulate.stationCapacity := by
  rw [State.stationCapacity_worked s.worked_regulate, ← h, (State.keeps_regulate (K := fun _ => False) hs nofun).clu.1]

/-! ### A release (R100) -/

/-- The record of a group that has been released. -/
def Group.released (q : Group) : Group := { q with order := none, authority := .released, streak := 0, watcher := none }

theorem State.keeps_dropGroupFrames (hs : s.Settled) (hg : ¬K g) : s.Keeps K (s.dropGroupFrames g) where
  settled := State.settled_of_insert hs rfl fun src h => by
    cases src with
    | gau =>
      simp only [State.offers, Bool.and_eq_true, Bool.not_eq_true', List.isEmpty_eq_false_iff] at h ⊢
      exact ⟨h.1, fun hnil => h.2 (by simp [State.dropGroupFrames, hnil])⟩
    | _ => exact h
  rest := rfl
  groups _ _ := rfl
  insert _ h := h
  items i hi hk := by
    refine List.mem_filter.mpr ⟨hi, ?_⟩
    rcases hk with hk | ⟨k, hk, ht⟩
    · simp [GauItem.isOrderOf, hk]
    · simp only [GauItem.isOrderOf, ht, Bool.not_eq_true', beq_eq_false_iff_ne, ne_eq, GauTag.order.injEq]
      exact fun h => hg (h ▸ hk)

/-- Steps 2 to 4 of a release leave the other groups. -/
theorem State.keeps_releaseCore (hs : s.Settled) (hg : ¬K g) : s.Keeps K (s.releaseCore g)
    ∧ (s.releaseCore g).group g = if (s.group g).authority.isHeld then (s.group g).released else s.group g := by
  unfold State.releaseCore
  split
  · dsimp only
    have hdropped : s.Keeps K ((s.modGroup g fun q => { q with order := none, authority := .released, streak := 0 }).dropGroupFrames g) := by
      have h := State.keeps_modGroup hs hg fun q => { q with order := none, authority := .released, streak := 0 }
      exact h.trans (State.keeps_dropGroupFrames h.settled hg)
    obtain ⟨hnotified, hgroups, -⟩ := State.keeps_notify (K := K) hdropped.settled g
    have hboth := hdropped.trans hnotified
    refine ⟨hboth.trans (State.keeps_modGroup hboth.settled hg _), ?_⟩
    rw [State.group_modGroup]
    have hgroup : ((State.dropGroupFrames (s.modGroup g fun q => { q with order := none, authority := .released, streak := 0 }) g).notify g).group g
        = { s.group g with order := none, authority := .released, streak := 0 } := by
      refine (congrArg (fun v : Vector Group 8 => v[g]) hgroups).trans ?_
      exact State.group_modGroup s g fun q => { q with order := none, authority := .released, streak := 0 }
    rw [hgroup]
    rfl
  · exact ⟨.refl hs, rfl⟩

theorem Group.released_unavailable (q : Group) : q.released.available = false := by simp [Group.released, Group.available, Authority.isHeld]

/-- A release with its allocation: the group's record, the others but for their wanted setpoints. -/
theorem State.keeps_releaseGroup (hs : s.Settled) : s.Keeps (fun _ => False) (s.releaseGroup g)
    ∧ (s.releaseGroup g).group g = (if (s.group g).authority.isHeld then (s.group g).released else s.group g)
    ∧ ∀ k, k ≠ g → (s.releaseGroup g).group k = { s.group k with wanted := ((s.releaseGroup g).group k).wanted } := by
  unfold State.releaseGroup
  split
  · next hheld =>
    obtain ⟨hcore, hgroup⟩ := State.keeps_releaseCore (K := (· ≠ g)) (g := g) hs fun h => h rfl
    rw [if_pos hheld] at hgroup
    refine ⟨(hcore.mono nofun).trans (State.keeps_allocate hcore.settled nofun), ?_, fun k hk => ?_⟩
    · rw [State.group_allocate_of_unavailable (by rw [hgroup]; exact Group.released_unavailable _), hgroup]
    · rw [State.group_allocate, hcore.groups k hk]
  · exact ⟨.refl hs, rfl, fun _ _ => rfl⟩

/-- A RELEASED group stays as it is across the decision of orders. -/
theorem State.regulate_of_released (hs : s.Settled) (h : (s.group g).authority = .released) : s.regulate.group g = s.group g :=
  (State.keeps_regulate (K := (· = g)) hs fun _ hk => hk ▸ State.idle_of_released h).groups g rfl

theorem State.allots_released (h : s.Allots t) (hg : (s.group g).authority = .released) : t.group g = s.group g :=
  h.others g (State.idle_of_released hg).2

/-- A release with its event (R90, R97, R106). -/
theorem State.released_raise (hs : s.Settled) (hheld : (s.group g).authority.isHeld = true) (k : EventKind) (j a b : Nat) :
    s.Confines ((s.releaseGroup g).raise k j a b) ∧ ((s.releaseGroup g).raise k j a b).group g = (s.group g).released
      ∧ (∀ i, i ≠ g → ((s.releaseGroup g).raise k j a b).group i
        = { s.group i with wanted := (((s.releaseGroup g).raise k j a b).group i).wanted })
      ∧ ((s.releaseGroup g).raise k j a b).clu = s.clu ∧ ((s.releaseGroup g).raise k j a b).line = s.line
      ∧ (((s.releaseGroup g).raise k j a b).meu.events[k.index]).pending = true := by
  obtain ⟨hkeeps, hown, hothers⟩ := State.keeps_releaseGroup (g := g) hs
  have hraised := State.tells_raise hkeeps.settled k j a b
  rw [if_pos hheld] at hown
  refine ⟨hkeeps.confines.trans hraised.confines, (hraised.group g).trans hown, fun i hi => ?_, hraised.blocks.2.2.1.trans hkeeps.clu.1,
    hraised.blocks.1.trans hkeeps.clu.2, State.raise_marks _ _ _ _ _⟩
  rw [hraised.group i]
  exact hothers i hi

theorem State.stationCapacity_released (hg : t.group g = (s.group g).released)
    (h : ∀ k, k ≠ g → t.group k = { s.group k with wanted := (t.group k).wanted }) : t.stationCapacity = s.stationCapacity :=
  State.stationCapacity_congr fun k => by
    by_cases hk : k = g
    · subst hk
      rw [hg]
      exact ⟨rfl, rfl, rfl⟩
    · rw [h k hk]
      exact ⟨rfl, rfl, rfl⟩

/-- A capacity evaluated anew and handed on, in a part out of FORWARD-ONLY (R118, R119). -/
theorem State.confines_evaluated (hs : s.Settled) (hactive : s.active = true) (f : Group → Group) :
    s.Confines (((s.modGroup g f).evaluateCap g).handOn s)
      ∧ (s.modGroup g fun q => (f q).evaluate s.clu.pct).Allots (((s.modGroup g f).evaluateCap g).handOn s)
      ∧ (((s.modGroup g f).evaluateCap g).handOn s).clu.ic = (((s.modGroup g f).evaluateCap g).handOn s).stationCapacity := by
  have heval : (s.modGroup g f).evaluateCap g = s.modGroup g fun q => (f q).evaluate s.clu.pct := by
    unfold State.evaluateCap
    refine (if_pos hactive).trans ?_
    rw [State.modGroup_modGroup]
    rfl
  rw [heval]
  have hchanged := State.confines_modGroup hs g fun q => (f q).evaluate s.clu.pct
  obtain ⟨hhanded, hallots, hclu, -⟩ := State.confines_handOn (before := s) hchanged.settled rfl
  refine ⟨hchanged.trans hhanded, hallots, ?_⟩
  rw [hclu, hallots.stationCapacity]
  rfl

/-- An allocation run again and the orders that are due, once Ic is the station's capacity. -/
theorem State.confines_finish (hs : s.Settled) (hic : s.clu.ic = s.stationCapacity) (before : State) :
    s.Confines (s.reallocate before).regulate ∧ (∀ k, (s.group k).Worked ((s.reallocate before).regulate.group k))
      ∧ (s.reallocate before).regulate.clu.ic = (s.reallocate before).regulate.stationCapacity
      ∧ (s.reallocate before).regulate.clu = s.clu ∧ (s.reallocate before).regulate.line = s.line
      ∧ ∀ k, (s.group k).available = false → s.Idle k → (s.reallocate before).regulate.group k = s.group k := by
  have hconfines := State.confines_reallocate hs before
  have hallots := State.allots_reallocate s before
  have hkept : (s.reallocate before).clu = s.clu ∧ (s.reallocate before).line = s.line := by
    unfold State.reallocate
    split
    · exact ⟨rfl, rfl⟩
    · rw [State.allocate_rest]
      exact ⟨rfl, rfl⟩
  generalize s.reallocate before = w at hconfines hallots hkept ⊢
  have hdone := State.keeps_regulate (K := fun k => w.Idle k ∧ (w.group k).available = false) hconfines.settled fun _ hk => hk
  have hall : ∀ k, (s.group k).Worked (w.regulate.group k) := fun k => (hallots.worked k).trans (w.worked_regulate k)
  refine ⟨hconfines.trans hdone.confines, hall, ?_, hdone.clu.1.trans hkept.1, hdone.clu.2.trans hkept.2, fun k hk hidle => ?_⟩
  · rw [State.stationCapacity_worked hall, hdone.clu.1, hkept.1]
    exact hic
  · have hgroup := hallots.others k hk
    refine (hdone.groups k ⟨?_, ?_⟩).trans hgroup
    · unfold State.Idle
      rw [hgroup, (State.dues_congr (q := s.group k) hconfines.mode rfl).1, (State.dues_congr (q := s.group k) hconfines.mode rfl).2]
      exact hidle
    · rw [hgroup]
      exact hk

end

end Sys2Proof.Machine
end

end
